-- ==== Sys2Proof/Word.lean ====
section
/-! DEFINITION. The words of the cabinet link (R160): bytes, two-byte and four-byte numbers, all sent
high byte first. -/

namespace Sys2Proof

/-- One content byte of a frame (R145). -/
abbrev Byte := BitVec 8

/-- A number that the layouts of R160 send in 2 bytes. -/
abbrev Half := BitVec 16

/-- A number that the layouts of R160 send in 4 bytes, such as an amount of the credit record (R1). -/
abbrev Word := BitVec 32

end Sys2Proof
end

