-- ==== Sys2Proof/Syntax.lean ====
section
/-! DEFINITION. The commands of the block: one constructor of `Instr` for each row of
spec/opcode_table.json. A command is a frame that reaches a unit, an event of a pin, or the end of a
time; the operands are what the outside brings with it. Service requests name `src`, the node the
REPLY goes to (R150). Bytes of a payload are kept as received, out of range values included, because
the rules answer those with a REPLY. -/

namespace Sys2Proof

/-- A link port, numbered as R162: 0 U, 1 D1, 2 D2, 3 D3. -/
abbrev PortId := Fin 4

/-- A coin tube, 0..5 (R27). -/
abbrev TubeId := Fin 6

/-- A chilled zone: 0 zone A, 1 zone B (R110). -/
abbrev ZoneId := Fin 2

/-- What brought the cold reset about: the value of POWER-UP (R181). -/
inductive ResetCause where
  | powerOn | resetPin
deriving DecidableEq, Repr

/-- The two moments of a cold reset (R181): RESETn goes low, and the part leaves the reset when RESETn has
returned high. -/
inductive ResetEdge where
  | goesLow
  | returns (cause : ResetCause)
deriving DecidableEq, Repr

/-- Why a frame in assembly is abandoned (R145), the 20 ms gap apart, which is a row of its own. -/
inductive BadCause where
  | length | escape | start | byteError | crc
deriving DecidableEq, Repr

/-- One of the two motors of a drive (R51). -/
inductive MotorSel where
  | a | b
deriving DecidableEq, Repr

/-- A motor of the drive with this vend tag. -/
structure DriveMotor where
  tag : Byte
  motor : MotorSel
deriving DecidableEq, Repr

/-- The turn timer that a motor's turn number `turn`, counted from 0, started in the drive with this vend
tag (R76, log entry 35). -/
structure TurnTimer where
  tag : Byte
  turn : Nat
  motor : MotorSel
deriving DecidableEq, Repr

/-- Which home switches close in one step (R78: one after the other, or together). -/
inductive TurnEnd where
  | a | b | both
deriving DecidableEq, Repr

/-- The entry of a TABLE-WRITE of the selection table, byte by byte as section 8.7.5 lays it out. -/
structure SelectionEntry where
  enabled : Byte
  price : Half
  kind : Byte
  rowA : Byte
  colA : Byte
  rowB : Byte
  colB : Byte
  turns : Byte
  runTime : Byte
  retries : Byte
  verify : Byte
  continuous : Byte
  trace : Byte
  zone : Byte
deriving DecidableEq, Repr

/-- The commands. Each constructor is the row of the table that LAWS.json names for it. -/
inductive Instr where
  /-- COLD_RESET (R181): RESETn goes low, or the part leaves the cold reset with the straps NSEL1..NSEL0 as
  they are read then. -/
  | coldReset (straps : BitVec 2) (edge : ResetEdge)
  /-- WARM_RESTART (R180): the REPLY to RESTART has been sent or discarded. -/
  | warmRestart
  /-- GOOD_FRAME (R158): a completed frame with a matching CRC, and its arrival port. -/
  | goodFrame (port : PortId) (dest src type : Byte) (payload : List Byte)
  /-- BAD_FRAME (R145): the frame in assembly on the port is abandoned. -/
  | badFrame (port : PortId) (cause : BadCause)
  /-- FRAME_GAP_EXPIRY (R145): 20 ms have passed with a frame incomplete. -/
  | frameGapExpiry (port : PortId)
  /-- FRAME_SENT (R150): the last byte of the port's oldest queued frame has been sent. -/
  | frameSent (port : PortId)
  /-- SELECT (R61) from the machine controller. -/
  | select (selection preference : Byte)
  /-- CANCEL (R64) from node `src`. -/
  | cancel (src tag : Byte)
  /-- CREDIT_RETURN (R21) from the machine controller. -/
  | creditReturn
  /-- COIN_RETURN_LEVER_PRESS (R21): seen pressed for 50 ms. -/
  | coinReturnLeverPress
  /-- COIN_RETURN_LEVER_RELEASE (R21): seen released for 50 ms. -/
  | coinReturnLeverRelease
  /-- COIN_IN (R4) from the coin validator. -/
  | coinIn (cls : Byte)
  /-- NOTE_HELD (R7) from the note reader. -/
  | noteHeld (cls : Byte)
  /-- NOTE_STACKED (R10) from the note reader. -/
  | noteStacked (cls : Byte)
  /-- NOTE_RETURNED (R10) from the note reader. -/
  | noteReturned (cls : Byte)
  /-- NOTE_ESCROW_TIMER_EXPIRY (R11). -/
  | noteEscrowTimerExpiry
  /-- FUNDS (R12) from the card reader. -/
  | funds (amount : Half)
  /-- SESSION_END (R13) from the card reader. -/
  | sessionEnd
  /-- SETTLE_ACK (R15) from the card reader. -/
  | settleAck (tag : Byte)
  /-- SETTLEMENT_TIMER_EXPIRY (R15): the 3 s timer of the record with this tag. -/
  | settlementTimerExpiry (tag : Byte)
  /-- SOLENOID_PULSE_END (R41): the 40 ms pulse ends. -/
  | solenoidPulseEnd
  /-- EXIT_PULSE (R41): a pulse of PEXIT. -/
  | exitPulse
  /-- EXIT_WAIT_EXPIRY (R42): 500 ms without an exit pulse. -/
  | exitWaitExpiry
  /-- GAP_END (R43): the 120 ms gap ends. -/
  | gapEnd
  /-- TIN_PULSE (R32): a pulse of the tube's entry sensor. -/
  | tinPulse (tube : TubeId)
  /-- CBIN_PULSE (R33): a pulse of the cash box sensor. -/
  | cbinPulse
  /-- ROUTE_DEADLINE_EXPIRY (R34): the deadline of the record with this number (log entry 35). -/
  | routeDeadlineExpiry (number : Nat)
  /-- DOOR_CHANGE (R56): the door input has been seen at this level for 50 ms. -/
  | doorChange (opened : Bool)
  /-- CURRENT_SAMPLE (R81): the drive current, in 10 mA steps. -/
  | currentSample (current : Byte)
  /-- MOTOR_STALL (R82): the judged sample that completes the stall run. -/
  | motorStall
  /-- MOTOR_OPEN (R83): the judged sample that completes the open run. -/
  | motorOpen
  /-- SWITCH_SEEN_OPEN (R76): the home switch of this motor has been seen open for 100 ms. -/
  | switchSeenOpen (motor : DriveMotor)
  /-- MOTOR_TURN_END (R77, R78): home switches close. -/
  | motorTurnEnd (motors : TurnEnd)
  /-- TURN_TIMER_EXPIRY (R84): this 8 s turn timer. -/
  | turnTimerExpiry (timer : TurnTimer)
  /-- PAUSE_END (R77): the 250 ms pause ends. -/
  | pauseEnd
  /-- TIMED_RUN_END (R79): the run time has passed. -/
  | timedRunEnd
  /-- TAIL_END (R89): the 1,200 ms tail runs out. -/
  | tailEnd
  /-- BEAM_BROKEN (R87): DROP has read broken for 5 ms. -/
  | beamBroken
  /-- BEAM_CLEAR (R87): DROP has read clear for 5 ms. -/
  | beamClear
  /-- DROP_BLOCKED (R91): the beam has been broken for 2 s. -/
  | dropBlocked
  /-- TRACE_SAMPLE (R94): a trace interval has passed; the drive current in 10 mA steps. -/
  | traceSample (current : Byte)
  /-- SUPPLY_DEFER (R102): the compressor claim has waited 30 s. -/
  | supplyDefer
  /-- PROBE_SAMPLE (R108): the three conversions of one second, in 0.1 °C, two's complement. -/
  | probeSample (airA airB coil : Half)
  /-- ZONE_HELD (R131): the accumulation step that brings the zone's accumulator to its delay. -/
  | zoneHeld (zone : ZoneId)
  /-- LIMP_PHASE_END (R113). -/
  | limpPhaseEnd (zone : ZoneId)
  /-- OFF_TIMER_EXPIRY (R117): the 180 s off timer. -/
  | offTimerExpiry
  /-- START_WINDOW_END (R119): 3 s after switch-on. -/
  | startWindowEnd
  /-- COMPRESSOR_STOP (R120): the on time reaches 60 s with demand off. -/
  | compressorStop
  /-- CONDENSER_RUN_ON_END (R122): the 60 s run-on. -/
  | condenserRunOnEnd
  /-- DEFROST_PENDING (R123): the run accumulator reaches the defrost interval. -/
  | defrostPending
  /-- HEAT_TIMER_EXPIRY (R126): the 30 min heat timer. -/
  | heatTimerExpiry
  /-- DRIP_TIMER_EXPIRY (R127): the 120 s drip timer. -/
  | dripTimerExpiry
  /-- DIM_ENTRY (R136): the quiet time reaches the dim delay. -/
  | dimEntry
  /-- ECONOMY_ENTRY (R136): the quiet time has passed both delays. -/
  | economyEntry
  /-- TIME_OF_WEEK_TICK (R143): one second of the valid counter. -/
  | timeOfWeekTick
  /-- SELECTION_TABLE_WRITE (R52). -/
  | selectionTableWrite (src index : Byte) (entry : SelectionEntry)
  /-- COIN_TABLE_WRITE (R26). -/
  | coinTableWrite (src index : Byte) (value : Half) (policy tube : Byte)
  /-- NOTE_TABLE_WRITE (R5). -/
  | noteTableWrite (src index : Byte) (value : Half) (enabled changeTest : Byte)
  /-- TUBE_CONFIGURATION_WRITE (R27). -/
  | tubeConfigurationWrite (src index cls capacity fullLevel : Byte)
  /-- NODE_TABLE_WRITE (R154). -/
  | nodeTableWrite (src index valid node port role : Byte)
  /-- DISPOSITION_TABLE_WRITE (R156). -/
  | dispositionTableWrite (src index enabled type ports dest action : Byte)
  /-- FAULT_DISPOSITION_WRITE (R167). -/
  | faultDispositionWrite (src index cls : Byte)
  /-- CREDIT_SETTINGS_WRITE (R23). -/
  | creditSettingsWrite (src index : Byte) (limit : Half) (vendMode : Byte)
  /-- CHANGE_SETTINGS_WRITE (R36, R48). -/
  | changeSettingsWrite (src index allowance : Byte) (ceiling : Half)
  /-- SUPPLY_SETTINGS_WRITE (R98). -/
  | supplySettingsWrite (src index budget motor start run heater : Byte)
  /-- DRIVE_SETTINGS_WRITE (R86). -/
  | driveSettingsWrite (src index : Byte) (threshold time : Half) (form number : Byte)
  /-- ZONE_TABLE_WRITE (R110). -/
  | zoneTableWrite (src index : Byte) (setpoint : Half) (differential : Byte)
  /-- REFRIGERATION_SETTINGS_WRITE (R110). -/
  | refrigerationSettingsWrite (src index limpOn limpOff interval : Byte) (terminate : Half)
  /-- SALE_HOLD_TABLE_WRITE (R129, R132). -/
  | saleHoldTableWrite (src index enabled : Byte) (limit delay : Half)
  /-- ECONOMY_SETTINGS_WRITE (R134). -/
  | economySettingsWrite (src index mask : Byte) (dimDelay economyDelay : Half) (dimLevel offset : Byte)
  /-- SCHEDULE_TABLE_WRITE (R141). -/
  | scheduleTableWrite (src index enabled days : Byte) (startMinute endMinute : Half)
  /-- TABLE_READ (R176). -/
  | tableRead (src table index : Byte)
  /-- RECORD_READ (R177). -/
  | recordRead (src record block : Byte)
  /-- MODE_SET_SERVICE (R57). -/
  | modeSetService (src : Byte)
  /-- MODE_SET_SELLING (R57). -/
  | modeSetSelling (src : Byte)
  /-- TUBE_SET (R28). -/
  | tubeSet (src tube count : Byte)
  /-- TUBE_DISPENSE (R45). -/
  | tubeDispense (src tube coins : Byte)
  /-- CREDIT_CLEAR (R24). -/
  | creditClear (src : Byte)
  /-- SALE_RELEASE (R133). -/
  | saleRelease (src zone : Byte)
  /-- FAULT_CLEAR (R173). -/
  | faultClear (src index : Byte)
  /-- SETTLE_CLEAR (R16). -/
  | settleClear (src tag : Byte)
  /-- TIME_SET (R143). -/
  | timeSet (src : Byte) (second : Word)
  /-- TRACE_RELEASE (R95). -/
  | traceRelease (src : Byte)
  /-- PORT_RESTART (R178). -/
  | portRestart (src port : Byte)
  /-- DEFROST_NOW (R123). -/
  | defrostNow (src : Byte)
  /-- RESTART (R179). -/
  | restart (src : Byte)
deriving DecidableEq, Repr

end Sys2Proof
end

