-- ==== Sys2Proof/Config.lean ====
section
/-! DEFINITION. What the spec leaves open: opaque constants, of which nothing can be proved. -/

namespace Sys2Proof.Config

/-- An item of a record block whose code or reading the spec does not state (R160, log entry 16). -/
inductive Site where
  /-- card funds F while absent (R1). -/
  | fundsAbsent
  /-- the chute "none" of an in-flight record (R31). -/
  | chuteNone
  /-- the current tube while the engine has none (R39). -/
  | noTube
  /-- the set of excluded tubes (R39). -/
  | tubeSet
  /-- the limp phase while the demand source is PROBE (R110). -/
  | limpPhase
  /-- the time left in a limp phase (R110). -/
  | limpTime
  /-- the off timer (R115). -/
  | offTimer
  /-- the on time while the relay is off (R115). -/
  | onTime
  /-- the running time outside RUNNING (R115). -/
  | runningTime
  /-- the heat timer (R123). -/
  | heatTimer
  /-- the drip timer (R123). -/
  | dripTimer
  /-- cost or held points of an ABSENT claim (R99). -/
  | claimPoints
  /-- the vend tag of an ABSENT vend claim (R99). -/
  | claimTag
  /-- store and report order of a fault record (R169). -/
  | faultOrder
  /-- the 3 s timer of a settlement record (R14). -/
  | settleTimer
  /-- the taken door state (R56). -/
  | door
  /-- the drive set (R74). -/
  | driveSet
  /-- the last-outcome record while empty (R63). -/
  | noOutcome
  /-- tag, motor and interval of a FREE trace buffer (R93). -/
  | traceHeader
deriving DecidableEq, Repr

/-- The reading of such an item, given the number the model holds for it. -/
opaque unstated : Site → Nat → Word

/-- The data of a REPLY whose record block is longer than a frame can carry (R163, log entry 17). -/
opaque overlong : List Byte → List Byte

/-- The n-th free current: the drive current at a first energising, in 10 mA steps (log entry 15). -/
opaque freeCurrent : Nat → Byte

end Sys2Proof.Config
end

