-- ==== Sys2Proof/Machine/State.lean ====
section
/-! DEFINITION. The state of the block, all of it plain data, grouped by the block of section 2.1 that
owns it, and the state after cold reset. An item that its rule defines by a condition on other items
(a tube's JAMMED state, the suspension causes, the fans, ...) is computed in Flags.lean and not stored
a second time. INVENTORY.md lists every item with its rule. -/

namespace Sys2Proof.Machine

/-! ## Credit unit (chapter 1) -/

/-- Card session state (R1). -/
inductive Session where
  | none | opened | ending
deriving DecidableEq, Repr

/-- Vend mode (R1). -/
inductive VendMode where
  | single | multi
deriving DecidableEq, Repr

/-- The credit record of R1. -/
structure Credit where
  /-- cash credit C -/
  cash : Word
  /-- cash committed K -/
  committed : Word
  /-- pending payout Q -/
  payout : Word
  /-- card funds F -/
  funds : Option Word
  /-- card committed KC -/
  cardCommitted : Word
  session : Session
  limit : Nat
  vendMode : VendMode
deriving DecidableEq, Repr

/-- The totals of R3, wrapping modulo 2^32. -/
structure Totals where
  /-- D, cash deposited -/
  deposited : Word
  /-- S, cash sales -/
  sales : Word
  /-- P, cash paid out -/
  paid : Word
  /-- W, written off -/
  written : Word
  /-- CS, card sales -/
  cardSales : Word
  /-- M, manual dispense -/
  manual : Word
  /-- NV, vend count -/
  vends : Word
deriving DecidableEq, Repr

/-- An entry of the note table (R5). -/
structure NoteEntry where
  value : Nat
  enabled : Bool
  /-- whether the change test is REQUIRED -/
  changeTest : Bool
deriving DecidableEq, Repr

/-- State of the note escrow record (R6). -/
inductive EscrowState where
  | none | decidedStack | decidedReturn | uncertain
deriving DecidableEq, Repr

/-- The note escrow record (R6). -/
structure Escrow where
  state : EscrowState
  cls : Byte
  value : Nat
  /-- what is left of the 10 s, in ms -/
  timerMs : Nat
deriving DecidableEq, Repr

/-- State of a settlement record (R14). -/
inductive SettleState where
  | sent | unconfirmed
deriving DecidableEq, Repr

/-- A settlement record (R14). -/
structure Settlement where
  tag : Byte
  selection : Fin 96
  amount : Nat
  state : SettleState
  /-- what is left of the 3 s, in ms -/
  timerMs : Nat
deriving DecidableEq, Repr

/-- What the credit unit owns. -/
structure Money where
  credit : Credit
  totals : Totals
  notes : Vector NoteEntry 8
  escrow : Escrow
  settlements : List Settlement
  nextSettleTag : Byte
  /-- whether the next press of the coin return lever is taken (R21) -/
  leverArmed : Bool
deriving DecidableEq, Repr

/-! ## Coin path unit (chapter 2) -/

/-- Acceptance policy of a coin class (R26). -/
inductive Policy where
  | always | whenAssured | never
deriving DecidableEq, Repr

/-- An entry of the coin table (R26); no tube means CASHBOX. -/
structure CoinEntry where
  value : Nat
  policy : Policy
  tube : Option TubeId
deriving DecidableEq, Repr

/-- Position of a flap (R30). -/
inductive Flap where
  | tube | cashbox
deriving DecidableEq, Repr

/-- A tube record (R27); its state OK or JAMMED is computed from the fault list (R29). -/
structure Tube where
  cls : Option (Fin 16)
  capacity : Nat
  fullLevel : Nat
  count : Nat
  overfill : Nat
  flap : Flap
deriving DecidableEq, Repr

/-- An in-flight record (R31). No chute means "none", no route tube means CASHBOX. -/
structure Flight where
  cls : Fin 16
  value : Nat
  chute : Option TubeId
  route : Option TubeId
  /-- what is left of the 800 ms -/
  deadlineMs : Nat
  /-- the model's own: tells the record from every other (log entry 35) -/
  number : Nat
deriving DecidableEq, Repr

/-- Where the payout engine stands in the cycle of R41. -/
inductive EnginePhase where
  | idle | pulse | exitWait | gap
deriving DecidableEq, Repr

/-- The payout engine and its run record (R39). In MANUAL it passes through the same phases. -/
structure Engine where
  manual : Bool
  phase : EnginePhase
  /-- what is left of the pulse, the exit wait or the gap, in ms -/
  timerMs : Nat
  /-- the (tube, number of coins) entries still to be dispensed -/
  plan : List (TubeId × Nat)
  remainder : Word
  current : Option TubeId
  excluded : List TubeId
  paid : Word
  startWaiting : Bool
deriving DecidableEq, Repr

/-- What the coin path unit owns. -/
structure Coins where
  table : Vector CoinEntry 16
  tubes : Vector Tube 6
  inflight : List Flight
  engine : Engine
  allowance : Nat
  ceiling : Nat
  /-- whether the assurance state is ASSURED (R47) -/
  assured : Bool
  /-- the last issued accept set; absent is the mark "not yet sent" (R50) -/
  lastAccept : Option (BitVec 16)
  /-- the model's own: the number of the next in-flight record (log entry 35) -/
  nextFlight : Nat
deriving DecidableEq, Repr

/-! ## Vend controller (chapter 3) -/

/-- Position of a spiral motor (R74). -/
structure Motor where
  row : Fin 10
  col : Fin 8
deriving DecidableEq, Repr

/-- Drive kind (R51). -/
inductive DriveKind where
  | spiral | twinSpiral | timed
deriving DecidableEq, Repr

/-- A selection entry: the configuration of R51 and the kept fields of R53. Motor B stands in the row
of motor A, so its column is held. -/
structure Selection where
  enabled : Bool
  price : Nat
  kind : DriveKind
  motorA : Motor
  motorB : Option (Fin 8)
  turns : Nat
  /-- in steps of 100 ms -/
  runTime : Nat
  retries : Nat
  /-- whether the verify policy is REQUIRED -/
  verify : Bool
  continuous : Bool
  trace : Bool
  zone : Option ZoneId
  /-- whether the status is EMPTY -/
  empty : Bool
  vendCount : Nat
  failCount : Nat
deriving DecidableEq, Repr

/-- Sales state (R54). -/
inductive SalesState where
  | offline | service | selling | suspended
deriving DecidableEq, Repr

/-- What funds a vend entry (R62). -/
inductive Funds where
  | cash | card
deriving DecidableEq, Repr

/-- A vend entry (R62). Its claim is computed from the vend claim of the supply arbiter. -/
structure Entry where
  tag : Byte
  selection : Fin 96
  price : Nat
  funds : Funds
  /-- DRIVING; WAITING otherwise -/
  driving : Bool
deriving DecidableEq, Repr

/-- Outcome of a vend entry (R63). -/
inductive VendOutcome where
  | delivered | deliveredUnverified | notDelivered | motorFault | cancelled | aborted
deriving DecidableEq, Repr

/-- Cancel cause (R63). -/
inductive CancelCause where
  | request | held | service | empty | fault | cardEnd
deriving DecidableEq, Repr

/-- The last-outcome record (R63). -/
structure LastOutcome where
  tag : Byte
  selection : Fin 96
  funds : Funds
  outcome : VendOutcome
  cause : Option CancelCause
deriving DecidableEq, Repr

/-- What the vend controller owns. -/
structure Vend where
  selections : Vector Selection 96
  sales : SalesState
  /-- whether the door is taken as open (R56) -/
  doorOpen : Bool
  queue : List Entry
  nextTag : Byte
  lastOutcome : Option LastOutcome
deriving DecidableEq, Repr

/-! ## Matrix driver (chapter 4) -/

/-- Phase of the matrix driver (R74). -/
inductive DrivePhase where
  | idle | energised | paused | tail
deriving DecidableEq, Repr

/-- Turn state of a motor (R76). -/
inductive TurnState where
  | leaving | away | ended
deriving DecidableEq, Repr

/-- One motor of a drive: its column switched on or off, turn state and what is left of its 8 s. -/
structure MotorTurn where
  on : Bool
  turn : TurnState
  timerMs : Nat
deriving DecidableEq, Repr

/-- The drive record (R75). Its drop window is OPEN as long as the record exists (R88). -/
structure Drive where
  tag : Byte
  kind : DriveKind
  motorA : Motor
  motorB : Option (Fin 8)
  turns : Nat
  runTime : Nat
  retriesLeft : Nat
  continuous : Bool
  trace : Bool
  /-- verify mode VERIFY; UNVERIFIED otherwise -/
  verify : Bool
  turnsDone : Nat
  a : MotorTurn
  b : MotorTurn
  drops : Nat
  /-- what is left of the pause, of the tail or of a TIMED run, in ms -/
  phaseMs : Nat
deriving DecidableEq, Repr

/-- Drop curtain monitor (R87); `unknown` is "no state until the input has read one level". -/
inductive Monitor where
  | unknown | clear | broken | blocked
deriving DecidableEq, Repr

/-- How the trace interval is given (R86, R94). -/
inductive TraceForm where
  | coarse | fine
deriving DecidableEq, Repr

/-- The drive settings (R86), in mA and ms. -/
structure DriveSettings where
  threshold : Nat
  stallMs : Nat
  form : TraceForm
  number : Nat
deriving DecidableEq, Repr

/-- State of the trace buffer (R93). -/
inductive TraceState where
  | free | filling | full
deriving DecidableEq, Repr

/-- The trace buffer (R93), samples in 10 mA steps; "samples taken" is how many it holds. -/
structure Trace where
  state : TraceState
  tag : Byte
  motor : Nat
  intervalMs : Nat
  samples : List Byte
deriving DecidableEq, Repr

/-- What the matrix driver owns. -/
structure Driver where
  phase : DrivePhase
  record : Option Drive
  stallRun : Nat
  openRun : Nat
  /-- blanked samples still to come: the 200 ms of R81 at one sample every 10 ms -/
  blankLeft : Nat
  settings : DriveSettings
  monitor : Monitor
  /-- how long the beam has read broken, in ms, while BROKEN -/
  brokenMs : Nat
  /-- tag of the most recent drive (R88) -/
  lastTag : Byte
  /-- last drive of each motor record (R92) -/
  lastDrive : Vector Byte 80
  trace : Trace
deriving DecidableEq, Repr

/-! ## Supply arbiter (chapter 5) -/

/-- State of a claim (R99). -/
inductive ClaimState where
  | absent | waiting | granted
deriving DecidableEq, Repr

/-- A claim record (R99). -/
structure Claim where
  state : ClaimState
  cost : Nat
  held : Nat
deriving DecidableEq, Repr

/-- What the supply arbiter owns: the settings of R97 and the claims of R99. -/
structure Supply where
  budget : Nat
  motorCost : Nat
  startCost : Nat
  runCost : Nat
  heaterCost : Nat
  vend : Claim
  vendTag : Byte
  compressor : Claim
  waitMs : Nat
  deferring : Bool
  heater : Claim
deriving DecidableEq, Repr

/-! ## Refrigeration controller (chapter 6) -/

/-- Channel state, with the kind of FAULTED (R108). -/
inductive ChannelState where
  | noSample | valid | faultedOpen | faultedShort
deriving DecidableEq, Repr

/-- A probe channel, in 0.1 °C (R108). F is valid exactly while the state is VALID. -/
structure Probe where
  raw : Int
  filtered : Int
  state : ChannelState
deriving DecidableEq, Repr

/-- A running limp phase (R113). -/
structure Limp where
  on : Bool
  leftMs : Nat
deriving DecidableEq, Repr

/-- A zone record (R110). The demand source is LIMP exactly while `limp` is present. -/
structure Zone where
  setpoint : Int
  differential : Nat
  effective : Int
  demand : Bool
  limp : Option Limp
deriving DecidableEq, Repr

/-- Compressor state (R115). -/
inductive CompressorState where
  | locked | ready | waitingPower | starting | running
deriving DecidableEq, Repr

/-- The compressor record (R115) and the condenser fan's run-on (R122); times in ms. -/
structure Compressor where
  state : CompressorState
  relay : Bool
  offMs : Nat
  onMs : Nat
  runningMs : Nat
  noCool : Bool
  accumulatorMs : Nat
  /-- what is left of the run-on -/
  runOn : Option Nat
deriving DecidableEq, Repr

/-- Defrost state (R123). -/
inductive DefrostState where
  | none | pending | heating | dripping
deriving DecidableEq, Repr

/-- The defrost record (R123); times in ms. -/
structure Defrost where
  state : DefrostState
  heater : Bool
  heatMs : Nat
  heaterOnMs : Nat
  dripMs : Nat
deriving DecidableEq, Repr

/-- What the refrigeration controller owns. -/
structure Cooling where
  /-- 0 AIR-A, 1 AIR-B, 2 COIL -/
  probes : Vector Probe 3
  /-- time since the last sample, in ms -/
  sampleMs : Nat
  zones : Vector Zone 2
  limpOnMin : Nat
  limpOffMin : Nat
  intervalH : Nat
  terminate : Int
  compressor : Compressor
  defrost : Defrost
deriving DecidableEq, Repr

/-! ## Sale hold and economy unit (chapter 7) -/

/-- Last count cause (R129). -/
inductive HoldCause where
  | temperature | probe
deriving DecidableEq, Repr

/-- A hold record (R129). -/
structure Hold where
  enabled : Bool
  limit : Int
  delay : Nat
  accumulator : Nat
  held : Bool
  cause : HoldCause
deriving DecidableEq, Repr

/-- Economy state (R134). -/
inductive EconomyState where
  | active | dim | economy
deriving DecidableEq, Repr

/-- Kind of an activity (R135). -/
inductive Activity where
  | coin | note | card | select | door | serviceRequest
deriving DecidableEq, Repr

/-- The economy record and settings (R134). -/
structure Economy where
  state : EconomyState
  quietMs : Nat
  inWindow : Bool
  wakeCause : Option Activity
  wakeTime : Word
  lamp : Nat
  /-- bit 0 COIN .. bit 5 SERVICE-REQUEST -/
  mask : BitVec 6
  dimDelay : Nat
  economyDelay : Nat
  dimLevel : Nat
  offset : Nat
deriving DecidableEq, Repr

/-- A schedule window (R141). -/
structure Window where
  enabled : Bool
  /-- bit 0 Monday .. bit 6 Sunday -/
  days : BitVec 7
  startMinute : Nat
  endMinute : Nat
deriving DecidableEq, Repr

/-- The time-of-week counter (R143). -/
structure Clock where
  valid : Bool
  second : Nat
  /-- time since the last second, in ms -/
  phaseMs : Nat
deriving DecidableEq, Repr

/-- What the sale hold and economy unit owns. -/
structure Cabinet where
  holds : Vector Hold 2
  economy : Economy
  schedule : Vector Window 8
  clock : Clock
deriving DecidableEq, Repr

/-! ## Link ports and frame switch (chapter 8) -/

/-- A frame without its CRC (R161). -/
structure Frame where
  dest : Byte
  src : Byte
  type : Byte
  payload : List Byte
deriving DecidableEq, Repr

/-- What a queued frame is: REPLY may take the reserved place of port U (R150), and the REPLY to
RESTART brings the warm restart when it has been sent (R179). -/
inductive TxKind where
  | reply | restartReply | event | own | forwarded
deriving DecidableEq, Repr

/-- A frame in a transmit queue (R150). -/
structure TxFrame where
  frame : Frame
  kind : TxKind
deriving DecidableEq, Repr

/-- Receive assembly (R145): the content bytes so far, and whether 0xA6 is held. -/
inductive Assembly where
  | outside
  | inside (content : List Byte) (escape : Bool)
deriving DecidableEq, Repr

/-- Port state (R147). -/
inductive PortState where
  | active | warned | quiet
deriving DecidableEq, Repr

/-- A link port. -/
structure Port where
  assembly : Assembly
  state : PortState
  score : Nat
  recovery : Nat
  tx : List TxFrame
  /-- pending sends (R152), oldest first -/
  waiting : List Frame
  overflow : Nat
  /-- whether a run of QUEUE-FULL is open (R151) -/
  runOpen : Bool
  unroutable : Nat
deriving DecidableEq, Repr

/-- Role of a node (R154). -/
inductive Role where
  | machineController | coinValidator | noteReader | cardReader | cabinet | other
deriving DecidableEq, Repr

/-- An entry of the node table (R154). -/
structure Node where
  valid : Bool
  node : Byte
  port : PortId
  role : Role
deriving DecidableEq, Repr

/-- Destination class (R156). -/
inductive DestClass where
  | own | other | broadcast | any
deriving DecidableEq, Repr

/-- Action of a disposition entry (R157). -/
inductive Action where
  | pass | copyUp | divert | drop
deriving DecidableEq, Repr

/-- An entry of the disposition table (R156); bit n of `ports` is port n. -/
structure Disposition where
  enabled : Bool
  type : Byte
  ports : BitVec 4
  dest : DestClass
  action : Action
deriving DecidableEq, Repr

/-- What the link ports and the frame switch own. -/
structure Link where
  ports : Vector Port 4
  /-- the request hold of port U with the arrival port of the frame in it (R150) -/
  hold : Option (PortId × Frame)
  nodes : Vector Node 16
  dispositions : Vector Disposition 32
  ownNode : Byte
  /-- whether a warm restart is pending (R179) -/
  restartPending : Bool
deriving DecidableEq, Repr

/-! ## Fault list (chapter 9) -/

/-- Fault kind, in the order of its codes (R166). -/
inductive FaultKind where
  | motorStall | motorOpen | motorHomeLost | dropBlocked | tubeJam | tubeOverfill | routeLost
  | probeOpen | probeShort | compressorNocool | defrostTimeout | portQuiet
deriving DecidableEq, Repr

/-- Disposition class (R167). -/
inductive FaultClass where
  | stop | isolate | note
deriving DecidableEq, Repr

/-- A fault record (R169). -/
structure FaultRecord where
  kind : FaultKind
  subject : Nat
  firstSeen : Word
  count : Nat
  present : Bool
  storeOrder : Nat
  reportOrder : Nat
deriving DecidableEq, Repr

/-- What the fault list owns. -/
structure FaultList where
  places : Vector (Option FaultRecord) 24
  /-- state OVERFLOW; NORMAL otherwise -/
  overflow : Bool
  classes : Vector FaultClass 12
  /-- the next number of the store and report orders -/
  nextOrder : Nat
deriving DecidableEq, Repr

/-! ## Event queue (chapter 10) -/

/-- Event, in the order of its codes (R184). -/
inductive EventCode where
  | powerUp | restart
  | credit | coinUnknown | creditCeiling | noteUncertain | noteLate | noteUnexpected | cardOpen
  | fundsIgnored | cardClosed | settleUnconfirmed | settleLate | settleUnknown | coinReturn
  | routeUntracked | unclaimedCoin | changeShort | payoutDone | strayExit | assurance
  | salesState | vendRefused | vendAccepted | vendDone
  | extraDrop | strayDrop | traceBusy
  | supplyDefer | defrost
  | zoneHeld | zoneReleased | economy
  | portWarn | queueFull | roleMismatch | badType | requestDropped
  | faultNew | faultRepeat | faultEnded | faultLost
deriving DecidableEq, Repr

/-- An event record (R182). -/
structure Event where
  code : EventCode
  subject : Byte
  value : Word
  time : Word
deriving DecidableEq, Repr

/-- The event queue (R182), oldest first. -/
structure EventQueue where
  queue : List Event
  lost : Nat
deriving DecidableEq, Repr

/-! ## The block -/

/-- The whole block. -/
structure State where
  money : Money
  coins : Coins
  vend : Vend
  drive : Driver
  supply : Supply
  cooling : Cooling
  cabinet : Cabinet
  link : Link
  faults : FaultList
  events : EventQueue
  /-- RESETn is low (R181) -/
  resetLow : Bool
  /-- the model's own: numbers the free values (log entry 15) -/
  fresh : Nat
  /-- the model's own: the commands that wait, first in, first out -/
  pending : List Instr
deriving DecidableEq, Repr

/-- The block never stops: the spec's faults are records of its fault list (chapter 9), so no command
ends in a fault of the model. -/
inductive Fault where
deriving DecidableEq, Repr

/-- A command without a meaning. -/
inductive Refusal where
  /-- Raised by an arm of `exec` whose row has no meaning yet; safe. No arm raises it. -/
  | notModelled (mnemonic : String)
deriving DecidableEq, Repr

/-! ## Values after cold reset -/

namespace Reset

/-- R1, R3, R5, R6, R14, R21. -/
def money : Money where
  credit := { cash := 0, committed := 0, payout := 0, funds := none, cardCommitted := 0,
              session := .none, limit := 5000, vendMode := .single }
  totals := { deposited := 0, sales := 0, paid := 0, written := 0, cardSales := 0, manual := 0,
              vends := 0 }
  notes := Vector.replicate 8 { value := 0, enabled := false, changeTest := false }
  escrow := { state := .none, cls := 0, value := 0, timerMs := 0 }
  settlements := []
  nextSettleTag := 0
  leverArmed := true

/-- The engine IDLE with an empty run record (R39). -/
def engine : Engine where
  manual := false
  phase := .idle
  timerMs := 0
  plan := []
  remainder := 0
  current := none
  excluded := []
  paid := 0
  startWaiting := false

/-- R26, R27, R35, R36, R39, R48, R50. -/
def coins : Coins where
  table := Vector.replicate 16 { value := 0, policy := .never, tube := none }
  tubes := Vector.replicate 6
    { cls := none, capacity := 100, fullLevel := 80, count := 0, overfill := 0, flap := .tube }
  inflight := []
  engine := engine
  allowance := 25
  ceiling := 0
  assured := true
  lastAccept := none
  nextFlight := 0

/-- A selection entry after cold reset (R51, R53). -/
def selection : Selection where
  enabled := false
  price := 0
  kind := .spiral
  motorA := { row := 0, col := 0 }
  motorB := none
  turns := 1
  runTime := 10
  retries := 0
  verify := true
  continuous := false
  trace := false
  zone := none
  empty := false
  vendCount := 0
  failCount := 0

/-- R51, R53, R54, R56, R62, R63. -/
def vend : Vend where
  selections := Vector.replicate 96 selection
  sales := .offline
  doorOpen := true
  queue := []
  nextTag := 0
  lastOutcome := none

/-- R74, R86, R87, R88, R92, R93. -/
def drive : Driver where
  phase := .idle
  record := none
  stallRun := 0
  openRun := 0
  blankLeft := 0
  settings := { threshold := 1200, stallMs := 150, form := .coarse, number := 2 }
  monitor := .unknown
  brokenMs := 0
  lastTag := 0xFF
  lastDrive := Vector.replicate 80 0xFF
  trace := { state := .free, tag := 0, motor := 0, intervalMs := 0, samples := [] }

/-- An ABSENT claim (R99). -/
def claim : Claim := { state := .absent, cost := 0, held := 0 }

/-- R97, R99. -/
def supply : Supply where
  budget := 12
  motorCost := 3
  startCost := 8
  runCost := 4
  heaterCost := 6
  vend := claim
  vendTag := 0
  compressor := claim
  waitMs := 0
  deferring := false
  heater := claim

/-- A zone record after cold reset (R110, R111). -/
def zone (setpoint : Int) : Zone where
  setpoint := setpoint
  differential := 20
  effective := setpoint
  demand := false
  limp := none

/-- R108, R110, R115, R122, R123. -/
def cooling : Cooling where
  probes := Vector.replicate 3 { raw := 0, filtered := 0, state := .noSample }
  sampleMs := 0
  zones := #v[zone 40, zone 120]
  limpOnMin := 8
  limpOffMin := 12
  intervalH := 6
  terminate := 80
  compressor := { state := .locked, relay := false, offMs := 180000, onMs := 0, runningMs := 0,
                  noCool := false, accumulatorMs := 0, runOn := none }
  defrost := { state := .none, heater := false, heatMs := 0, heaterOnMs := 0, dripMs := 0 }

/-- A hold record after cold reset (R129). -/
def hold (enabled : Bool) (limit : Int) : Hold where
  enabled := enabled
  limit := limit
  delay := 1800
  accumulator := 0
  held := false
  cause := .temperature

/-- R129, R134, R141, R143. -/
def cabinet : Cabinet where
  holds := #v[hold true 80, hold false 180]
  economy := { state := .active, quietMs := 0, inWindow := false, wakeCause := none,
               wakeTime := 0xFFFFFFFF, lamp := 100, mask := 0b111111, dimDelay := 300,
               economyDelay := 1800, dimLevel := 30, offset := 30 }
  schedule := Vector.replicate 8 { enabled := false, days := 0, startMinute := 0, endMinute := 0 }
  clock := { valid := false, second := 0, phaseMs := 0 }

/-- A port after cold reset (R145, R147, R150, R151, R152, R158). -/
def port : Port where
  assembly := .outside
  state := .active
  score := 0
  recovery := 0
  tx := []
  waiting := []
  overflow := 0
  runOpen := false
  unroutable := 0

/-- R150, R154, R156; the own node number is 24 plus the straps. -/
def link (straps : BitVec 2) : Link where
  ports := Vector.replicate 4 port
  hold := none
  nodes := Vector.replicate 16 { valid := false, node := 1, port := 0, role := .other }
  dispositions := Vector.replicate 32
    { enabled := false, type := 0, ports := 0, dest := .any, action := .pass }
  ownNode := 24 + straps.setWidth 8
  restartPending := false

/-- The default classes of R166. -/
def classes : Vector FaultClass 12 :=
  #v[.isolate, .isolate, .isolate, .isolate, .isolate, .note, .note, .isolate, .isolate, .note,
     .note, .note]

/-- R167, R169. -/
def faults : FaultList where
  places := Vector.replicate 24 none
  overflow := false
  classes := classes
  nextOrder := 0

/-- The event queue holds POWER-UP with the own node number and the cause (R181, R182). -/
def events (straps : BitVec 2) (cause : ResetCause) : EventQueue where
  queue := [{ code := .powerUp, subject := 24 + straps.setWidth 8,
              value := match cause with | .powerOn => 0 | .resetPin => 1, time := 0xFFFFFFFF }]
  lost := 0

end Reset

/-- Every item at its value after cold reset (R181). -/
def State.cold (straps : BitVec 2) (cause : ResetCause) : State where
  money := Reset.money
  coins := Reset.coins
  vend := Reset.vend
  drive := Reset.drive
  supply := Reset.supply
  cooling := Reset.cooling
  cabinet := Reset.cabinet
  link := Reset.link straps
  faults := Reset.faults
  events := Reset.events straps cause
  resetLow := false
  fresh := 0
  pending := []

/-- The block right after power-on with both straps at 0 (log entry 5). -/
def State.reset : State := State.cold 0 .powerOn

end Sys2Proof.Machine
end

