-- ==== Sys2Proof/Machine/Times.lean ====
section
/-! DEFINITION. The fixed times and limits of the part, each from the rule that names it. Times are
in ms. -/

namespace Sys2Proof.Machine

/-- The note escrow timer, 10 s (R6). -/
def escrowMs : Nat := 10000
/-- A settlement record's timer, 3 s (R14). -/
def settleMs : Nat := 3000
/-- The deadline of an in-flight record (R31). -/
def flightMs : Nat := 800
/-- The solenoid pulse (R41). -/
def pulseMs : Nat := 40
/-- The exit wait (R41). -/
def exitWaitMs : Nat := 500
/-- The gap after a confirmed coin (R41). -/
def gapMs : Nat := 120
/-- A motor's turn timer (R76). -/
def turnMs : Nat := 8000
/-- The pause between two turns (R77). -/
def pauseMs : Nat := 250
/-- The tail (R80). -/
def tailMs : Nat := 1200
/-- The continuous break at which the beam is BLOCKED (R87). -/
def blockedMs : Nat := 2000
/-- The blanking of R81, 200 ms, counted in samples of 10 ms. -/
def blankSamples : Nat := 20
/-- Judged samples of an open circuit (R83). -/
def openSamples : Nat := 30
/-- The wait at which the compressor claim is deferring (R102). -/
def deferMs : Nat := 30000
/-- The off timer (R117). -/
def offTimerMs : Nat := 180000
/-- The start window (R119). -/
def startWindowMs : Nat := 3000
/-- The minimum on time (R120). -/
def minimumOnMs : Nat := 60000
/-- The running time from which the no-cool check is made, 15 min (R121). -/
def noCoolMs : Nat := 900000
/-- The condenser fan's run-on (R122). -/
def runOnMs : Nat := 60000
/-- The run accumulator holds at 86,400 s (R123). -/
def accumulatorMaxMs : Nat := 86400000
/-- The maximum heat time, 30 min (R125). -/
def heatMaxMs : Nat := 1800000
/-- The drip time (R127). -/
def dripMaxMs : Nat := 120000
/-- The quiet time holds at 86,400 s (R134). -/
def quietMaxMs : Nat := 86400000
/-- Seconds of a week (R143). -/
def weekSeconds : Nat := 604800
/-- What an event or a fault record carries as its second while the counter is invalid (R143). -/
def noTime : Word := 0xFFFFFFFF

/-- Whether one second more brings a count, held in ms, to a limit (R102, R120, R123, R136;
log entry 3). -/
def risesTo (count limit : Nat) : Bool := decide (limit ≤ count + 1000)

end Sys2Proof.Machine
end

