-- ==== Sys2Proof/Machine/Operands.lean ====
section
/-! DEFINITION. Reading and writing the fields of frame payloads, table entries and record blocks, all
high byte first (R160), and the codes of named values: a value's position in the table of the rule that
owns it, counting from 0, unless R162 or a table of section 8.7 gives codes (log entry 18). -/

namespace Sys2Proof.Machine

/-! ## Numbers -/

/-- The high byte of a two-byte number. -/
def hi8 (h : Half) : Byte := h.extractLsb' 8 8
/-- The low byte of a two-byte number. -/
def lo8 (h : Half) : Byte := h.extractLsb' 0 8
/-- A two-byte number as sent (R160). -/
def bytes16 (h : Half) : List Byte := [hi8 h, lo8 h]
/-- A four-byte number as sent (R160). -/
def bytes32 (w : Word) : List Byte :=
  [w.extractLsb' 24 8, w.extractLsb' 16 8, w.extractLsb' 8 8, w.extractLsb' 0 8]
/-- The number two received bytes carry. -/
def half (h l : Byte) : Half := h ++ l
/-- The number four received bytes carry. -/
def word (a b c d : Byte) : Word := a ++ b ++ c ++ d
/-- A count in one byte. -/
def byteOf (n : Nat) : Byte := BitVec.ofNat 8 n
/-- A count in two bytes. -/
def halfOf (n : Nat) : List Byte := bytes16 (BitVec.ofNat 16 n)
/-- A count in four bytes. -/
def wordOf (n : Nat) : List Byte := bytes32 (BitVec.ofNat 32 n)
/-- A signed value in two bytes, two's complement (R160). -/
def signedOf (i : Int) : List Byte := bytes16 (BitVec.ofInt 16 i)
/-- Four bytes packed into an event value, high byte first (R184). -/
def packed (a b c d : Byte) : Word := word a b c d
/-- An amount added to or taken from the credit record (R1). -/
def amount (n : Nat) : Word := BitVec.ofNat 32 n
/-- Yes is 1 and no is 0 (R160). -/
def yesNo (b : Bool) : Byte := if b then 1 else 0
/-- A field with the two named values "first or second", coded 0 and 1 by position (R160). -/
def firstIf (b : Bool) : Byte := if b then 0 else 1
/-- A count rising by one and holding at a maximum. -/
def saturate (limit n : Nat) : Nat := min limit (n + 1)
/-- Seconds of a time held in ms. -/
def seconds (ms : Nat) : Nat := ms / 1000

/-! ## Fields of a table entry

Each reader answers none for a byte that is not one of the field's values: the write is then refused
with RANGE. -/

/-- A yes or no field. -/
def readYesNo (b : Byte) : Option Bool :=
  match b.toNat with
  | 0 => some false
  | 1 => some true
  | _ => none

/-- A field with two named values: whether it holds the first of them. -/
def readFirst (b : Byte) : Option Bool :=
  match b.toNat with
  | 0 => some true
  | 1 => some false
  | _ => none

/-- A number within a range, both ends included. -/
def readRange (lo hi n : Nat) : Option Nat := if lo ≤ n ∧ n ≤ hi then some n else none

/-- A signed number within a range. -/
def readSigned (lo hi : Int) (h : Half) : Option Int :=
  if lo ≤ h.toInt ∧ h.toInt ≤ hi then some h.toInt else none

/-- An index below a table's size. -/
def readFin (n : Nat) (b : Byte) : Option (Fin n) :=
  if h : b.toNat < n then some ⟨b.toNat, h⟩ else none

/-- Acceptance policy (R26). -/
def readPolicy (b : Byte) : Option Policy :=
  match b.toNat with
  | 0 => some .always
  | 1 => some .whenAssured
  | 2 => some .never
  | _ => none

/-- Tube of a coin class, 6 for CASHBOX (R165). -/
def readCoinTube (b : Byte) : Option (Option TubeId) :=
  if b = 6 then some none else (readFin 6 b).map some

/-- Assigned class of a tube, 0xFF for none (R165). -/
def readAssigned (b : Byte) : Option (Option (Fin 16)) :=
  if b = 0xFF then some none else (readFin 16 b).map some

/-- Drive kind (R51). -/
def readDriveKind (b : Byte) : Option DriveKind :=
  match b.toNat with
  | 0 => some .spiral
  | 1 => some .twinSpiral
  | 2 => some .timed
  | _ => none

/-- Zone of a selection: NONE, A, B (R51). -/
def readZone (b : Byte) : Option (Option ZoneId) :=
  match b.toNat with
  | 0 => some none
  | 1 => some (some 0)
  | 2 => some (some 1)
  | _ => none

/-- Vend mode (R1). -/
def readVendMode (b : Byte) : Option VendMode :=
  match b.toNat with
  | 0 => some .single
  | 1 => some .multi
  | _ => none

/-- Trace interval form (R86). -/
def readForm (b : Byte) : Option TraceForm :=
  match b.toNat with
  | 0 => some .coarse
  | 1 => some .fine
  | _ => none

/-- Role (R162). -/
def readRole (b : Byte) : Option Role :=
  match b.toNat with
  | 0 => some .machineController
  | 1 => some .coinValidator
  | 2 => some .noteReader
  | 3 => some .cardReader
  | 4 => some .cabinet
  | 5 => some .other
  | _ => none

/-- Destination class (R162). -/
def readDest (b : Byte) : Option DestClass :=
  match b.toNat with
  | 0 => some .own
  | 1 => some .other
  | 2 => some .broadcast
  | 3 => some .any
  | _ => none

/-- Action (R162). -/
def readAction (b : Byte) : Option Action :=
  match b.toNat with
  | 0 => some .pass
  | 1 => some .copyUp
  | 2 => some .divert
  | 3 => some .drop
  | _ => none

/-- Disposition class (R167). -/
def readClass (b : Byte) : Option FaultClass :=
  match b.toNat with
  | 0 => some .stop
  | 1 => some .isolate
  | 2 => some .note
  | _ => none

/-- A source port set: bits 0..3 only (R162). -/
def readPorts (b : Byte) : Option (BitVec 4) :=
  if b.toNat < 16 then some (b.setWidth 4) else none

/-- A day set: bit 7 may not be set (R141). -/
def readDays (b : Byte) : Option (BitVec 7) :=
  if b.toNat < 128 then some (b.setWidth 7) else none

/-- An activity mask: bits 0..5 only (R165). -/
def readMask (b : Byte) : Option (BitVec 6) :=
  if b.toNat < 64 then some (b.setWidth 6) else none

/-! ## Codes -/

/-- Session state (R1). -/
def Session.code : Session → Byte
  | .none => 0
  | .opened => 1
  | .ending => 2

/-- Vend mode (R1). -/
def VendMode.code : VendMode → Byte
  | .single => 0
  | .multi => 1

/-- Settlement record state (R14). -/
def SettleState.code : SettleState → Byte
  | .sent => 0
  | .unconfirmed => 1

/-- Acceptance policy (R26). -/
def Policy.code : Policy → Byte
  | .always => 0
  | .whenAssured => 1
  | .never => 2

/-- A tube or the cash box, 6 (R162, R165, R166). -/
def tubeCode : Option TubeId → Byte
  | some t => byteOf t
  | none => 6

/-- Flap state (R27). -/
def Flap.code : Flap → Byte
  | .tube => 0
  | .cashbox => 1

/-- Drive kind (R51). -/
def DriveKind.code : DriveKind → Byte
  | .spiral => 0
  | .twinSpiral => 1
  | .timed => 2

/-- Zone of a selection (R51). -/
def zoneCode : Option ZoneId → Byte
  | none => 0
  | some z => byteOf (z + 1)

/-- Sales state (R54). -/
def SalesState.code : SalesState → Byte
  | .offline => 0
  | .service => 1
  | .selling => 2
  | .suspended => 3

/-- Funds of an entry (R62). -/
def Funds.code : Funds → Byte
  | .cash => 0
  | .card => 1

/-- Outcome code (R63). -/
def VendOutcome.code : VendOutcome → Byte
  | .delivered => 1
  | .deliveredUnverified => 2
  | .notDelivered => 3
  | .motorFault => 4
  | .cancelled => 5
  | .aborted => 6

/-- Cancel cause code, 0 for outcomes other than CANCELLED (R63, R164). -/
def cancelCode : Option CancelCause → Byte
  | none => 0
  | some .request => 1
  | some .held => 2
  | some .service => 3
  | some .empty => 4
  | some .fault => 5
  | some .cardEnd => 6

/-- Phase of the matrix driver (R74). -/
def DrivePhase.code : DrivePhase → Byte
  | .idle => 0
  | .energised => 1
  | .paused => 2
  | .tail => 3

/-- Trace interval form (R86). -/
def TraceForm.code : TraceForm → Byte
  | .coarse => 0
  | .fine => 1

/-- Trace buffer state (R93). -/
def TraceState.code : TraceState → Byte
  | .free => 0
  | .filling => 1
  | .full => 2

/-- Claim state (R99). -/
def ClaimState.code : ClaimState → Byte
  | .absent => 0
  | .waiting => 1
  | .granted => 2

/-- Channel state, in the order of the rows of R108. -/
def ChannelState.code : ChannelState → Byte
  | .noSample => 0
  | .valid => 1
  | .faultedOpen => 2
  | .faultedShort => 3

/-- Compressor state (R115). -/
def CompressorState.code : CompressorState → Byte
  | .locked => 0
  | .ready => 1
  | .waitingPower => 2
  | .starting => 3
  | .running => 4

/-- Defrost state (R123). -/
def DefrostState.code : DefrostState → Byte
  | .none => 0
  | .pending => 1
  | .heating => 2
  | .dripping => 3

/-- Last count cause (R129, R131). -/
def HoldCause.code : HoldCause → Byte
  | .temperature => 0
  | .probe => 1

/-- Economy state (R140). -/
def EconomyState.code : EconomyState → Byte
  | .active => 0
  | .dim => 1
  | .economy => 2

/-- Position of an activity kind in the mask (R134). -/
def Activity.bit : Activity → Nat
  | .coin => 0
  | .note => 1
  | .card => 2
  | .select => 3
  | .door => 4
  | .serviceRequest => 5

/-- Last wake cause in the economy record (R134); the event carries one more (R140). -/
def wakeCode : Option Activity → Byte
  | some k => byteOf k.bit
  | none => 6

/-- Port state (R147). -/
def PortState.code : PortState → Byte
  | .active => 0
  | .warned => 1
  | .quiet => 2

/-- Role (R162). -/
def Role.code : Role → Byte
  | .machineController => 0
  | .coinValidator => 1
  | .noteReader => 2
  | .cardReader => 3
  | .cabinet => 4
  | .other => 5

/-- Destination class (R162). -/
def DestClass.code : DestClass → Byte
  | .own => 0
  | .other => 1
  | .broadcast => 2
  | .any => 3

/-- Action (R162). -/
def Action.code : Action → Byte
  | .pass => 0
  | .copyUp => 1
  | .divert => 2
  | .drop => 3

/-- Code of a fault kind (R166): its index in the fault disposition table. -/
def FaultKind.index : FaultKind → Fin 12
  | .motorStall => 0
  | .motorOpen => 1
  | .motorHomeLost => 2
  | .dropBlocked => 3
  | .tubeJam => 4
  | .tubeOverfill => 5
  | .routeLost => 6
  | .probeOpen => 7
  | .probeShort => 8
  | .compressorNocool => 9
  | .defrostTimeout => 10
  | .portQuiet => 11

/-- Disposition class (R167). -/
def FaultClass.code : FaultClass → Byte
  | .stop => 0
  | .isolate => 1
  | .note => 2

/-- Event code (R184). -/
def EventCode.byte : EventCode → Byte
  | .powerUp => 0x01
  | .restart => 0x02
  | .credit => 0x10
  | .coinUnknown => 0x11
  | .creditCeiling => 0x12
  | .noteUncertain => 0x13
  | .noteLate => 0x14
  | .noteUnexpected => 0x15
  | .cardOpen => 0x16
  | .fundsIgnored => 0x17
  | .cardClosed => 0x18
  | .settleUnconfirmed => 0x19
  | .settleLate => 0x1A
  | .settleUnknown => 0x1B
  | .coinReturn => 0x1C
  | .routeUntracked => 0x20
  | .unclaimedCoin => 0x21
  | .changeShort => 0x22
  | .payoutDone => 0x23
  | .strayExit => 0x24
  | .assurance => 0x25
  | .salesState => 0x30
  | .vendRefused => 0x31
  | .vendAccepted => 0x32
  | .vendDone => 0x33
  | .extraDrop => 0x38
  | .strayDrop => 0x39
  | .traceBusy => 0x3A
  | .supplyDefer => 0x40
  | .defrost => 0x48
  | .zoneHeld => 0x50
  | .zoneReleased => 0x51
  | .economy => 0x52
  | .portWarn => 0x60
  | .queueFull => 0x61
  | .roleMismatch => 0x62
  | .badType => 0x63
  | .requestDropped => 0x64
  | .faultNew => 0x70
  | .faultRepeat => 0x71
  | .faultEnded => 0x72
  | .faultLost => 0x73

/-- REPLY status (R162). -/
inductive Status where
  | done | mode | busy | range | conflict | notReady | unknown
deriving DecidableEq, Repr

/-- REPLY status code (R162). -/
def statusByte : Status → Byte
  | .done => 0
  | .mode => 1
  | .busy => 2
  | .range => 3
  | .conflict => 4
  | .notReady => 5
  | .unknown => 6

end Sys2Proof.Machine
end

