-- ==== Sys2Proof/Machine/Ops.lean ====
section
/-! DEFINITION. The named operations every block uses: changing one block's part of the state, the
node table's roles, the places of a transmit queue, the part's own frames, and the event queue. -/

namespace Sys2Proof.Machine

/-! ## Changing one block's part of the state -/

/-- Changes what the credit unit owns. -/
def State.mapMoney (s : State) (f : Money → Money) : State := { s with money := f s.money }
/-- Changes what the coin path unit owns. -/
def State.mapCoins (s : State) (f : Coins → Coins) : State := { s with coins := f s.coins }
/-- Changes what the vend controller owns. -/
def State.mapVend (s : State) (f : Vend → Vend) : State := { s with vend := f s.vend }
/-- Changes what the matrix driver owns. -/
def State.mapDrive (s : State) (f : Driver → Driver) : State := { s with drive := f s.drive }
/-- Changes what the supply arbiter owns. -/
def State.mapSupply (s : State) (f : Supply → Supply) : State := { s with supply := f s.supply }
/-- Changes what the refrigeration controller owns. -/
def State.mapCooling (s : State) (f : Cooling → Cooling) : State := { s with cooling := f s.cooling }
/-- Changes what the sale hold and economy unit owns. -/
def State.mapCabinet (s : State) (f : Cabinet → Cabinet) : State := { s with cabinet := f s.cabinet }
/-- Changes what the link ports and the frame switch own. -/
def State.mapLink (s : State) (f : Link → Link) : State := { s with link := f s.link }
/-- Changes what the fault list owns. -/
def State.mapFaults (s : State) (f : FaultList → FaultList) : State := { s with faults := f s.faults }
/-- Changes the event queue. -/
def State.mapEvents (s : State) (f : EventQueue → EventQueue) : State := { s with events := f s.events }
/-- Numbers the next free value. -/
def State.nextFresh (s : State) : State := { s with fresh := s.fresh + 1 }
/-- Changes one link port. -/
def State.mapPort (s : State) (p : PortId) (f : Port → Port) : State :=
  s.mapLink fun l => { l with ports := l.ports.set p (f l.ports[p]) }
/-- A link port. -/
def State.port (s : State) (p : PortId) : Port := s.link.ports[p]

/-! ## RESETn (R181) -/

/-- A command that leads from state `s` to `t` while the part runs has no effect while RESETn is low: nothing
is sent, and what arrives is ignored (R181). -/
def act (s t : State) : Host.Outcome State Fault Refusal := .next (if s.resetLow then s else t)

/-! ## Node table (R154) -/

/-- Whether the frame switch uses this entry: valid, and not holding the part's own number (R154). -/
def Node.usable (own : Byte) (n : Node) : Bool := n.valid && n.node != own

/-- The entry that holds a role: the usable one of lowest index (R154). -/
def roleEntry (role : Role) (l : Link) : Option Node :=
  l.nodes.toList.find? fun n => n.usable l.ownNode && decide (n.role = role)

/-- The entry of a node number: the usable one of lowest index (R154). -/
def nodeEntry (node : Byte) (l : Link) : Option Node :=
  l.nodes.toList.find? fun n => n.usable l.ownNode && n.node == node

/-- Where frames to the machine controller are addressed: its node, or 0 when there is none (R153). -/
def controllerNode (l : Link) : Byte := ((roleEntry .machineController l).map (·.node)).getD 0

/-! ## Transmit queues (R150) -/

/-- Whether a queued frame is a REPLY of the part (R150). -/
def TxKind.isReply : TxKind → Bool
  | .reply | .restartReply => true
  | .event | .own | .forwarded => false

/-- Free general places of port U's queue: of its 6 places, frames other than REPLY have at most 5,
and a REPLY may stand in any (R150). -/
def generalFree (q : Port) : Nat :=
  min (5 - (q.tx.filter fun f => !f.kind.isReply).length) (6 - q.tx.length)

/-- Free places for a frame other than a REPLY in a port's queue (R150). -/
def freePlaces (p : PortId) (q : Port) : Nat := if p = 0 then generalFree q else 6 - q.tx.length

/-- A frame enters the end of a transmit queue. -/
def Port.enqueue (q : Port) (f : Frame) (kind : TxKind) : Port :=
  { q with tx := q.tx ++ [{ frame := f, kind := kind }] }

/-! ## Event queue (R182, R183) -/

/-- The EVENT frame of a record, with the lost count as it stands (R164, R183). -/
def eventFrame (own controller : Byte) (e : Event) (lost : Nat) : Frame where
  dest := controller
  src := own
  type := 0x32
  payload := [e.code.byte, e.subject] ++ bytes32 e.value ++ bytes32 e.time ++ [byteOf lost]

/-- Head records enter U's queue as EVENT frames while U is not QUIET and at least two general places
are free; each takes the lost count with it (R153, R183). -/
def drain (own controller : Byte) : List Event → Nat → Port → List Event × Nat × Port
  | [], lost, q => ([], lost, q)
  | e :: es, lost, q =>
    if q.state ≠ .quiet ∧ 2 ≤ generalFree q then
      drain own controller es 0 (q.enqueue (eventFrame own controller e lost) .event)
    else (e :: es, lost, q)

/-- Judges the condition of R153 as often as it holds. -/
def pump (s : State) : State :=
  let r := drain s.link.ownNode (controllerNode s.link) s.events.queue s.events.lost (s.port 0)
  (s.mapEvents fun _ => { queue := r.1, lost := r.2.1 }).mapPort 0 fun _ => r.2.2

/-- The second an event or a fault record carries (R143, R182). -/
def stamp (s : State) : Word :=
  if s.cabinet.clock.valid then BitVec.ofNat 32 s.cabinet.clock.second else noTime

/-- A record is placed, or lost and counted with 16 in the queue (R182). -/
def EventQueue.place (q : EventQueue) (e : Event) : EventQueue :=
  if 16 ≤ q.queue.length then { q with lost := saturate 255 q.lost }
  else { q with queue := q.queue ++ [e] }

/-- A block raises an event: the record is placed in the step, and R153 is judged at a new head. -/
def raise (code : EventCode) (subject : Byte) (value : Word) (s : State) : State :=
  pump (s.mapEvents fun q =>
    q.place { code := code, subject := subject, value := value, time := stamp s })

/-! ## The part's own frames (R152) -/

/-- The type of ACCEPT-SET (R163). -/
def typeAcceptSet : Byte := 0x58

/-- Replaces the pending ACCEPT-SET where it stands (R152). -/
def replacePending (f : Frame) : List Frame → List Frame
  | [] => []
  | g :: gs => if g.type = typeAcceptSet then f :: gs else g :: replacePending f gs

/-- An own frame enters the queue, or waits as a pending send (R152). -/
def Port.issue (q : Port) (p : PortId) (f : Frame) : Port :=
  if q.state ≠ .quiet ∧ q.waiting = [] ∧ 0 < freePlaces p q then q.enqueue f .own
  else if f.type = typeAcceptSet ∧ q.waiting.any (fun g => g.type == typeAcceptSet) then
    { q with waiting := replacePending f q.waiting }
  else { q with waiting := q.waiting ++ [f] }

/-- An own frame is issued to the node that holds the role, and discarded when none does (R152). -/
def sendOwn (role : Role) (type : Byte) (payload : List Byte) (s : State) : State :=
  match roleEntry role s.link with
  | none => s
  | some n =>
    s.mapPort n.port fun q =>
      q.issue n.port { dest := n.node, src := s.link.ownNode, type := type, payload := payload }

/-- Pending sends take the free places of a queue that is not QUIET, oldest first (R152). -/
def fill (p : PortId) : List Frame → Port → Port
  | [], q => { q with waiting := [] }
  | f :: fs, q =>
    if q.state ≠ .quiet ∧ 0 < freePlaces p q then fill p fs (q.enqueue f .own)
    else { q with waiting := f :: fs }

/-- The pending sends of a port enter its queue as far as places are free (R152). -/
def Port.fillPending (q : Port) (p : PortId) : Port := fill p q.waiting q

/-! ## Service replies (R150, R174) -/

/-- Whether a place for a REPLY is free in U's queue (R150). -/
def replyPlace (s : State) : Bool :=
  decide ((s.port 0).state ≠ .quiet) && decide ((s.port 0).tx.length < 6)

/-- An own frame goes back to the front of the pending list; an ACCEPT-SET that was issued after it takes
its place (R152). -/
def putBack (f : Frame) (l : List Frame) : List Frame :=
  if f.type = typeAcceptSet then
    match l.find? fun g => g.type == typeAcceptSet with
    | none => f :: l
    | some g => g :: l.erase g
  else f :: l

/-- A request is taken only with a place for its REPLY free (R150): an own frame that the request itself
has brought into a port's last place gives it up to the REPLY and waits (log entry 46). -/
def Port.yieldPlace (q : Port) : Port :=
  if q.tx.length < 6 then q
  else
    match q.tx.getLast? with
    | none => q
    | some x =>
      if x.kind = .own then { q with tx := q.tx.dropLast, waiting := putBack x.frame q.waiting } else q

/-- A REPLY enters U's queue, addressed to the source of the request it answers (R150, R163). -/
def reply (dest type : Byte) (status : Status) (data : List Byte) (kind : TxKind) (s : State) : State :=
  if (s.port 0).state = .quiet then s
  else
    s.mapPort 0 fun q =>
      q.yieldPlace.enqueue { dest := dest, src := s.link.ownNode, type := 0x33,
                             payload := type :: statusByte status :: data } kind

end Sys2Proof.Machine
end

