-- ==== Sys2Proof/Machine/Flags.lean ====
section
/-! DEFINITION. The conditions the rules define by other items of the state: isolation, the suspension
causes, a tube's state and flap target, a motor record's state, points, dampers, fans, the drive set,
the accept set, and the outputs of the part. Each is computed here and stored nowhere. -/

namespace Sys2Proof.Machine

/-! ## Isolation (R168) -/

/-- An item that the fault list can isolate (R168). -/
inductive Item where
  | motor (index : Nat)
  | curtain
  | tube (t : TubeId)
  | airProbe (z : ZoneId)
deriving DecidableEq, Repr

/-- The item that a record of this kind and subject isolates, if any (R168). -/
def itemOf (k : FaultKind) (subject : Nat) : Option Item :=
  match k with
  | .motorStall | .motorOpen | .motorHomeLost => some (.motor subject)
  | .dropBlocked => some .curtain
  | .tubeJam | .tubeOverfill | .routeLost =>
    if h : subject < 6 then some (.tube ⟨subject, h⟩) else none
  | .probeOpen | .probeShort => if h : subject < 2 then some (.airProbe ⟨subject, h⟩) else none
  | .compressorNocool | .defrostTimeout | .portQuiet => none

/-- The class of a kind, as the table holds it at this moment (R167). -/
def classOf (f : FaultList) (k : FaultKind) : FaultClass := f.classes[k.index]

/-- The records in the list, in place order (R169). -/
def records (f : FaultList) : List FaultRecord := f.places.toList.filterMap id

/-- An item is isolated while a record of class ISOLATE names it (R168). -/
def isolated (i : Item) (f : FaultList) : Bool :=
  (records f).any fun r => decide (classOf f r.kind = .isolate) && decide (itemOf r.kind r.subject = some i)

/-- The suspension cause STOP: a record of class STOP is in the list (R55, R168). -/
def stopPresent (f : FaultList) : Bool := (records f).any fun r => decide (classOf f r.kind = .stop)

/-- A tube is JAMMED while the fault list isolates it (R29). -/
def jammed (t : TubeId) (s : State) : Bool := isolated (.tube t) s.faults

/-- The kind of the youngest motor fault record of a motor in report order (R92). -/
def motorFault (index : Nat) (f : FaultList) : Option FaultKind :=
  (((records f).filter fun r =>
      decide (itemOf r.kind r.subject = some (.motor index))).foldl
    (fun best r =>
      match best with
      | none => some r
      | some b => if b.reportOrder < r.reportOrder then some r else some b)
    (none : Option FaultRecord)).map (·.kind)

/-- State of a motor record (R92): OK, STALLED, OPEN, HOME-LOST by position. -/
def motorStateCode (index : Nat) (f : FaultList) : Byte :=
  match motorFault index f with
  | none => 0
  | some .motorStall => 1
  | some .motorOpen => 2
  | some _ => 3

/-! ## Suspension causes (R55) -/

/-- The cause set is empty (R55). -/
def noCause (s : State) : Bool := !s.vend.doorOpen && !stopPresent s.faults && !s.faults.overflow

/-- The cause set as SALES-STATE carries it: 1 DOOR, 2 STOP, 4 LIST-FULL, added (R184). -/
def causeCode (s : State) : Nat :=
  (if s.vend.doorOpen then 1 else 0) + (if stopPresent s.faults then 2 else 0)
    + (if s.faults.overflow then 4 else 0)

/-! ## Tubes (R30) -/

/-- The flap target of a tube (R30). -/
def flapTarget (t : TubeId) (s : State) : Flap :=
  if s.coins.tubes[t].fullLevel ≤ s.coins.tubes[t].count ∨ jammed t s = true then .cashbox else .tube

/-- The value of the class a tube stores, 0 when it stores none (R36). -/
def tubeValue (t : TubeId) (c : Coins) : Nat :=
  match c.tubes[t].cls with
  | none => 0
  | some k => c.table[k].value

/-! ## Selections (R61) -/

/-- Motor index (R74). -/
def Motor.index (m : Motor) : Nat := m.row.val * 8 + m.col.val

/-- The motors of a selection: motor A, and motor B where present (R51). -/
def Selection.motors (x : Selection) : List Motor :=
  x.motorA :: (x.motorB.map fun c => ({ row := x.motorA.row, col := c } : Motor)).toList

/-- The number of motors of a selection (R51). -/
def Selection.motorCount (x : Selection) : Nat :=
  match x.kind with
  | .twinSpiral => 2
  | .spiral | .timed => 1

/-- Whether the isolation of this item makes check 4 fail for the selection (R61, R67). -/
def Selection.affectedBy (x : Selection) : Item → Bool
  | .motor n => x.motors.any fun m => decide (m.index = n)
  | .curtain => x.verify
  | .airProbe z => decide (x.zone = some z)
  | .tube _ => false

/-- Check 4: an isolation concerns the selection (R61). -/
def faultBlocks (x : Selection) (s : State) : Bool :=
  (x.motors.any fun m => isolated (.motor m.index) s.faults)
    || (x.verify && isolated .curtain s.faults)
    || (match x.zone with
        | none => false
        | some z => isolated (.airProbe z) s.faults)

/-- Check 5: the selection's zone is HELD (R61, R129). -/
def heldBlocks (x : Selection) (s : State) : Bool :=
  match x.zone with
  | none => false
  | some z => s.cabinet.holds[z].held

/-! ## Points (R97, R99) -/

/-- Points a claim holds. -/
def Claim.points (c : Claim) : Nat := if c.state = .granted then c.held else 0

/-- The points granted (R99). -/
def pointsGranted (p : Supply) : Nat := p.vend.points + p.compressor.points + p.heater.points

/-- The free points (R97). -/
def freePoints (p : Supply) : Nat := p.budget - pointsGranted p

/-! ## Dampers and fans (R114, R122) -/

/-- Whether the defrost keeps the dampers closed and the evaporator fan off (R114, R122). -/
def thawing (c : Cooling) : Bool :=
  match c.defrost.state with
  | .heating | .dripping => true
  | .none | .pending => false

/-- Whether a zone's damper is OPEN (R114). -/
def damperOpen (z : ZoneId) (c : Cooling) : Bool := c.zones[z].demand && !thawing c

/-- The compressor demand (R116). -/
def compressorDemand (c : Cooling) : Bool :=
  decide (c.defrost.state = .none) && (c.zones[(0 : ZoneId)].demand || c.zones[(1 : ZoneId)].demand)

/-- The condenser fan runs (R122). -/
def condenserFan (c : Cooling) : Bool := c.compressor.relay || c.compressor.runOn.isSome

/-- The evaporator fan runs (R122). -/
def evaporatorFan (c : Cooling) : Bool :=
  !thawing c && (damperOpen 0 c || damperOpen 1 c || c.compressor.relay)

/-! ## Drive set (R74) -/

/-- The columns that are switched on, motor A's first. -/
def Drive.columns (d : Drive) : List (Fin 8) :=
  (if d.a.on then [d.motorA.col] else [])
    ++ (if d.b.on then d.motorB.toList else [])

/-- The motors whose columns are on (R82, R83). -/
def Drive.energised (d : Drive) : List Motor :=
  d.columns.map fun c => { row := d.motorA.row, col := c }

/-- The drive set: a row and its columns, or empty (R74). -/
def driveSet (d : Driver) : Option (Fin 10 × List (Fin 8)) :=
  match d.record with
  | none => none
  | some r => if r.columns = [] then none else some (r.motorA.row, r.columns)

/-! ## Accept set (R49) -/

/-- Whether the accept set can hold any class at all (R49). -/
def acceptOpen (s : State) : Bool :=
  decide (s.vend.sales = .selling) && !s.vend.doorOpen
    && (match roleEntry .coinValidator s.link with
        | none => true
        | some n => decide ((s.port n.port).state ≠ .quiet))

/-- Whether a class is in the accept set (R49). -/
def accepted (s : State) (c : Fin 16) : Bool :=
  let e := s.coins.table[c]
  decide (e.value ≠ 0)
    && (match e.policy with
        | .always => true
        | .whenAssured => s.coins.assured
        | .never => false)
    && decide (s.money.credit.cash.toNat + e.value ≤ s.money.credit.limit)
    && acceptOpen s

/-- The accept set, bit c for class c (R49). -/
def acceptSet (s : State) : BitVec 16 := BitVec.ofFnLE (accepted s)

/-! ## Outputs (section 5 of the scope file) -/

/-- The outputs of the part. -/
structure Outputs where
  /-- the row switched on, ROW0..ROW9 -/
  row : Option (Fin 10)
  /-- the columns switched on, COL0..COL7 -/
  columns : List (Fin 8)
  /-- the solenoid driven, PSOL0..PSOL5 -/
  solenoid : Option TubeId
  /-- FLAP0..FLAP5, high for CASHBOX -/
  flaps : Vector Bool 6
  comp : Bool
  heat : Bool
  cfan : Bool
  efan : Bool
  dampA : Bool
  dampB : Bool
  /-- LAMP, per cent -/
  lamp : Nat
deriving DecidableEq, Repr

/-- Every output off, the flaps low (R181). -/
def Outputs.off : Outputs where
  row := none
  columns := []
  solenoid := none
  flaps := Vector.replicate 6 false
  comp := false
  heat := false
  cfan := false
  efan := false
  dampA := false
  dampB := false
  lamp := 0

/-- What the part drives while it runs (R30, R41, R74, R114, R115, R122, R123, R139). -/
def drivenOutputs (s : State) : Outputs where
  row := (driveSet s.drive).map (·.1)
  columns := ((driveSet s.drive).map (·.2)).getD []
  solenoid := if s.coins.engine.phase = .pulse then s.coins.engine.current else none
  flaps := s.coins.tubes.map fun t => decide (t.flap = .cashbox)
  comp := s.cooling.compressor.relay
  heat := s.cooling.defrost.heater
  cfan := condenserFan s.cooling
  efan := evaporatorFan s.cooling
  dampA := damperOpen 0 s.cooling
  dampB := damperOpen 1 s.cooling
  lamp := s.cabinet.economy.lamp

/-- The outputs of the part: off while RESETn is low (R181). -/
def outputs (s : State) : Outputs := if s.resetLow then .off else drivenOutputs s

end Sys2Proof.Machine
end

