-- ==== Sys2Proof/Machine/Tubes.lean ====
section
/-! DEFINITION. The coin path unit: the payout plan, change assurance, the accept set, the flaps and
the in-flight list (chapter 2). -/

namespace Sys2Proof.Machine

/-! ## The payout plan (R36, R37) -/

/-- An eligible tube in its position: class value and count at the moment of the plan (R36). -/
structure Position where
  tube : TubeId
  value : Nat
  count : Nat
deriving DecidableEq, Repr

/-- Places a position behind those of higher or equal value (R36). -/
def insertPosition (p : Position) : List Position → List Position
  | [] => [p]
  | q :: qs => if q.value < p.value then p :: q :: qs else q :: insertPosition p qs

/-- Whether a tube may contribute to a plan (R36). -/
def eligible (excluded : List TubeId) (s : State) (t : TubeId) : Bool :=
  decide (1 ≤ tubeValue t s.coins) && !jammed t s && decide (1 ≤ s.coins.tubes[t].count)
    && !excluded.contains t

/-- The eligible tubes, highest value first and tubes of equal value in number order (R36). -/
def positions (excluded : List TubeId) (s : State) : List Position :=
  ((List.finRange 6).filter (eligible excluded s)).foldl
    (fun ps t => insertPosition
      { tube := t, value := tubeValue t s.coins, count := s.coins.tubes[t].count } ps) []

/-- The coins a greedy pass takes at each position from amount X with allowance Y, and the remainder
(R37). -/
def greedy : List Position → Nat → Nat → List Nat × Nat
  | [], x, _ => ([], x)
  | p :: ps, x, y =>
    let n := min p.count (min (x / p.value) y)
    let r := greedy ps (x - n * p.value) (y - n)
    (n :: r.1, r.2)

/-- Stage B: the first candidate with remainder 0. `x` and `y` are what the stage A coins before this
position leave of the amount and of the allowance (R37). -/
def stageB : List Position → List Nat → Nat → Nat → Option (List Nat)
  | p :: ps, n :: ns, x, y =>
    let c := greedy ps (x - (n - 1) * p.value) (y - (n - 1))
    if 1 ≤ n ∧ c.2 = 0 then some ((n - 1) :: c.1)
    else (stageB ps ns (x - n * p.value) (y - n)).map (n :: ·)
  | _, _, _, _ => none

/-- The coins per position and the remainder of the plan for amount A and allowance L (R37). -/
def planCounts (ps : List Position) (a l : Nat) : List Nat × Nat :=
  let stageA := greedy ps a l
  if stageA.2 = 0 then stageA
  else
    match stageB ps stageA.1 a l with
    | some c => (c, 0)
    | none => stageA

/-- The plan as (tube, number of coins) in position order without zero entries, and its remainder
(R37). -/
def payoutPlan (excluded : List TubeId) (a : Nat) (s : State) : List (TubeId × Nat) × Nat :=
  let ps := positions excluded s
  let c := planCounts ps a s.coins.allowance
  (((ps.map (·.tube)).zip c.1).filter fun e => e.2 ≠ 0, c.2)

/-- The value of a plan's coins. -/
def planValue (c : Coins) (plan : List (TubeId × Nat)) : Nat :=
  (plan.map fun e => tubeValue e.1 c * e.2).sum

/-- The number of a plan's coins. -/
def planCoins (plan : List (TubeId × Nat)) : Nat := (plan.map (·.2)).sum

/-! ## Accept set (R50) -/

/-- Hands the accept set to the frame switch, and it becomes the last issued (R50). -/
def issueAccept (s : State) : State :=
  let set := acceptSet s
  sendOwn .coinValidator typeAcceptSet (bytes16 set)
    (s.mapCoins fun c => { c with lastAccept := some set })

/-- Recomputes the accept set and issues it when it differs from the last issued or none was sent
(R50). -/
def recomputeAccept (s : State) : State :=
  if (roleEntry .coinValidator s.link).isSome ∧ s.coins.lastAccept ≠ some (acceptSet s) then
    issueAccept s
  else s

/-! ## Change assurance (R47, R48) -/

/-- The smallest class value among the eligible tubes (R47). -/
def smallestValue (ps : List Position) : Option Nat := (ps.map (·.value)).min?

/-- The first of the amounts g, 2g, ... that does not plan whole (R47). -/
def firstFailing (ps : List Position) (l g n : Nat) : Option Nat :=
  ((List.range n).map fun k => (k + 1) * g).find? fun a => decide ((planCounts ps a l).2 ≠ 0)

/-- The judgement of R47: absent when ASSURED, and the event value when NOT-ASSURED. -/
def shortfall (s : State) : Option Nat :=
  if s.coins.ceiling = 0 then none
  else
    let ps := positions [] s
    match smallestValue ps with
    | none => some s.coins.ceiling
    | some g => firstFailing ps s.coins.allowance g (s.coins.ceiling / g)

/-- Evaluates the assurance state, with ASSURANCE and the accept set on a change (R47, R48). -/
def evaluateAssurance (s : State) : State :=
  let f := shortfall s
  if f.isNone = s.coins.assured then s
  else
    recomputeAccept (raise .assurance (if f.isNone then 1 else 0) (amount (f.getD 0))
      (s.mapCoins fun c => { c with assured := f.isNone }))

/-! ## Flaps (R30) -/

/-- Whether an in-flight record of this chute is outstanding (R30). -/
def chuteBusy (t : TubeId) (c : Coins) : Bool := c.inflight.any fun r => decide (r.chute = some t)

/-- Changes one tube record. -/
def State.mapTube (s : State) (t : TubeId) (f : Tube → Tube) : State :=
  s.mapCoins fun c => { c with tubes := c.tubes.set t (f c.tubes[t]) }

/-- The flap takes its target as soon as no record of its chute is outstanding (R30). -/
def setFlap (t : TubeId) (s : State) : State :=
  if chuteBusy t s.coins then s else s.mapTube t fun x => { x with flap := flapTarget t s }

/-- What follows a change of a tube's count, configuration or state (R27, R30, R48). -/
def tubeChanged (t : TubeId) (s : State) : State := evaluateAssurance (setFlap t s)

/-- Looks again at the flap of a chute when one of its records has left the list (R30). -/
def chuteFreed (chute : Option TubeId) (s : State) : State :=
  match chute with
  | none => s
  | some t => setFlap t s

/-! ## Routing (R31) -/

/-- ROUTE: chooses the route and appends the in-flight record, or raises ROUTE-UNTRACKED (R31). -/
def route (c : Fin 16) (v : Nat) (s : State) : State :=
  let chute := s.coins.table[c].tube
  let toward := chute.bind fun t => if s.coins.tubes[t].flap = .tube then some t else none
  if s.coins.inflight.length < 4 then
    s.mapCoins fun k =>
      { k with inflight := k.inflight ++
                [{ cls := c, value := v, chute := chute, route := toward, deadlineMs := flightMs,
                   number := k.nextFlight }]
               nextFlight := k.nextFlight + 1 }
  else raise .routeUntracked (byteOf c) (amount v) s

/-- Removes the oldest record with this route (R32, R33). -/
def claimFlight (r : Option TubeId) (s : State) : State :=
  match s.coins.inflight.find? (fun x => decide (x.route = r)) with
  | none => s
  | some x =>
    chuteFreed x.chute (s.mapCoins fun c => { c with inflight := c.inflight.erase x })

/-- Whether the list holds a record with this route. -/
def hasFlight (r : Option TubeId) (s : State) : Bool :=
  s.coins.inflight.any fun x => decide (x.route = r)

end Sys2Proof.Machine
end

