-- ==== Sys2Proof/Machine/Credit.lean ====
section
/-! DEFINITION. The credit unit's requests (chapter 1): credit, commitment, release, the session, the
settlement list and the payout accounting. What sends START stands in Payout.lean. -/

namespace Sys2Proof.Machine

/-- Changes the credit record (R1). -/
def State.mapCredit (s : State) (f : Credit → Credit) : State :=
  s.mapMoney fun m => { m with credit := f m.credit }

/-- The cash credit available to a new selection, C − K (R1). -/
def available (c : Credit) : Word := c.cash - c.committed

/-- Passes C to the coin path unit when the request has changed it (R185). -/
def passCash (before : Word) (s : State) : State :=
  if s.money.credit.cash = before then s else recomputeAccept s

/-- Event CREDIT (R4, R10, R22). -/
def raiseCredit (s : State) : State := raise .credit 0 (available s.money.credit) s

/-- Whether a value would take C + Q above 2^32 − 1 (R2). -/
def aboveCeiling (v : Nat) (c : Credit) : Bool := decide (2 ^ 32 ≤ c.cash.toNat + c.payout.toNat + v)

/-- C and D rise by the value of a coin or a note (R4, R10). -/
def deposit (v : Nat) (s : State) : State :=
  s.mapMoney fun m =>
    { m with
      credit := { m.credit with cash := m.credit.cash + amount v }
      totals := { m.totals with deposited := m.totals.deposited + amount v } }

/-- Credits a coin or a note with CREDIT, or refuses it with CREDIT-CEILING; `after` is what follows
the credit (R2, R4, R10). -/
def creditOr (subject : Byte) (v : Nat) (after : State → State) (s : State) : State :=
  if aboveCeiling v s.money.credit then raise .creditCeiling subject (amount v) s
  else passCash s.money.credit.cash (after (raiseCredit (deposit v s)))

/-- The note escrow record becomes NONE (R6). -/
def clearEscrow (s : State) : State := s.mapMoney fun m => { m with escrow := Reset.money.escrow }

/-- The session becomes NONE and F absent, with CARD-CLOSED (R13, R19, R20). -/
def closeSession (s : State) : State :=
  raise .cardClosed 0 (s.money.credit.funds.getD 0)
    (s.mapCredit fun c => { c with session := .none, funds := none })

/-- Closes an ENDING session when the entry is the card-funded one it waits for (R19, R20). -/
def endSession (e : Entry) (s : State) : State :=
  if s.money.credit.session = .ending ∧ e.funds = .card ∧ e.driving = true then closeSession s else s

/-- RELEASE returns an entry's commitment (R20). -/
def releaseFunds (e : Entry) (s : State) : State :=
  endSession e (s.mapCredit fun c =>
    match e.funds with
    | .cash => { c with committed := c.committed - amount e.price }
    | .card => { c with cardCommitted := c.cardCommitted - amount e.price })

/-- Card-funded entries and settlement records together (R17). -/
def cardCount (s : State) : Nat :=
  (s.vend.queue.filter fun e => decide (e.funds = .card)).length + s.money.settlements.length

/-- Funds preference of a SELECT (R162). -/
inductive Preference where
  | any | cash | card
deriving DecidableEq, Repr

/-- The preference a byte names (R162). -/
def readPreference (b : Byte) : Option Preference :=
  match b.toNat with
  | 0 => some .any
  | 1 => some .cash
  | 2 => some .card
  | _ => none

/-- Answer of the credit unit to COMMIT (R17). -/
inductive CommitAnswer where
  | cash | card | credit | settleFull
deriving DecidableEq, Repr

/-- The funds choice of check 7 (R17). -/
def commitAnswer (pref : Preference) (price : Nat) (s : State) : CommitAnswer :=
  let c := s.money.credit
  if price = 0 then .cash
  else if pref ≠ .card ∧ c.committed.toNat + price ≤ c.cash.toNat then .cash
  else if pref ≠ .cash ∧ c.session = .opened
      ∧ c.cardCommitted.toNat + price ≤ (c.funds.getD 0).toNat then
    if 4 ≤ cardCount s then .settleFull else .card
  else .credit

/-- The commitment made with the answer CASH or CARD (R17). -/
def commitFunds (f : Funds) (price : Nat) (s : State) : State :=
  s.mapCredit fun c =>
    match f with
    | .cash => { c with committed := c.committed + amount price }
    | .card => { c with cardCommitted := c.cardCommitted + amount price }

/-- The first tag from `tag` on that is not in use, tried at most `fuel` further times (R14, R62). -/
def freeTag (used : Byte → Bool) : Nat → Byte → Byte
  | 0, tag => tag
  | n + 1, tag => if used tag then freeTag used n (tag + 1) else tag

/-- The type of SETTLE (R163). -/
def typeSettle : Byte := 0x78

/-- A settlement record is appended and SETTLE is sent (R14). -/
def settle (e : Entry) (s : State) : State :=
  let tag := freeTag (fun t => s.money.settlements.any fun r => r.tag == t) 4 s.money.nextSettleTag
  sendOwn .cardReader typeSettle ([tag, byteOf e.selection] ++ halfOf e.price)
    (s.mapMoney fun m =>
      { m with
        settlements := m.settlements ++
          [{ tag := tag, selection := e.selection, amount := e.price, state := .sent,
             timerMs := settleMs }]
        nextSettleTag := tag + 1 })

/-- DEBIT for a card-funded entry (R19). -/
def debitCard (e : Entry) (s : State) : State :=
  endSession e (settle e (s.mapMoney fun m =>
    { m with
      credit := { m.credit with
        funds := m.credit.funds.map (· - amount e.price)
        cardCommitted := m.credit.cardCommitted - amount e.price }
      totals := { m.totals with
        cardSales := m.totals.cardSales + amount e.price
        vends := m.totals.vends + 1 } }))

/-- C falls to K, and the rest moves to Q (R18, R21). -/
def returnRest (s : State) : State :=
  s.mapCredit fun c => { c with cash := c.committed, payout := c.payout + available c }

/-- What a cash-funded DEBIT charges (R18). -/
def chargeCash (e : Entry) (s : State) : State :=
  s.mapMoney fun m =>
    { m with
      credit := { m.credit with
        cash := m.credit.cash - amount e.price
        committed := m.credit.committed - amount e.price }
      totals := { m.totals with
        sales := m.totals.sales + amount e.price
        vends := m.totals.vends + 1 } }

/-- PAID for a confirmed payout coin (R22). -/
def paid (v : Nat) (s : State) : State :=
  s.mapMoney fun m =>
    { m with
      credit := { m.credit with payout := m.credit.payout - amount v }
      totals := { m.totals with paid := m.totals.paid + amount v } }

/-- MANUAL-PAID for a coin of a manual dispense (R22). -/
def manualPaid (v : Nat) (s : State) : State :=
  s.mapMoney fun m => { m with totals := { m.totals with manual := m.totals.manual + amount v } }

/-- UNPAID moves an amount from Q to C, with CREDIT (R22). -/
def unpaid (a : Word) (s : State) : State :=
  passCash s.money.credit.cash
    (raiseCredit (s.mapCredit fun c => { c with payout := c.payout - a, cash := c.cash + a }))

/-- What CREDIT-CLEAR writes off (R24). -/
def writeOff (s : State) : State :=
  passCash s.money.credit.cash (s.mapMoney fun m =>
    { m with
      credit := { m.credit with cash := m.credit.committed }
      totals := { m.totals with written := m.totals.written + available m.credit } })

end Sys2Proof.Machine
end

