-- ==== Sys2Proof/Machine/Payout.lean ====
section
/-! DEFINITION. The payout engine (R39 to R46), and the credit unit's requests that send it START. -/

namespace Sys2Proof.Machine

/-- Changes the payout engine. -/
def State.mapEngine (s : State) (f : Engine → Engine) : State :=
  s.mapCoins fun c => { c with engine := f c.engine }

/-- The engine returns to IDLE with an empty run record (R39). -/
def engineIdle (s : State) : State := s.mapEngine fun _ => Reset.engine

/-- A run that pays nothing more: UNPAID (Q), CHANGE-SHORT, PAYOUT-DONE and IDLE (R40, R42). -/
def endShort (done : Word) (s : State) : State :=
  let q := s.money.credit.payout
  engineIdle (raise .payoutDone 0 done (raise .changeShort 0 q (unpaid q s)))

/-- Plans the current Q without the excluded tubes and begins the first coin of the plan, or ends the
run when the plan is empty (R40, R42). -/
def planRun (excluded : List TubeId) (done : Word) (s : State) : State :=
  let p := payoutPlan excluded s.money.credit.payout.toNat s
  match p.1 with
  | [] => endShort done s
  | e :: rest =>
    s.mapEngine fun _ =>
      { manual := false, phase := .pulse, timerMs := pulseMs, plan := e :: rest,
        remainder := amount p.2, current := some e.1, excluded := excluded, paid := done,
        startWaiting := false }

/-- A change run begins when Q is above 0; otherwise the engine is IDLE (R40, R43, R45). -/
def runOrIdle (s : State) : State :=
  if s.money.credit.payout = 0 then engineIdle s else planRun [] 0 s

/-- START (R40). -/
def start (s : State) : State :=
  if s.coins.engine.phase = .idle then
    if s.money.credit.payout = 0 then s else planRun [] 0 s
  else if s.coins.engine.manual then s.mapEngine fun e => { e with startWaiting := true }
  else s

/-- The end of a manual run (R45). -/
def endManual (s : State) : State :=
  let t := raise .payoutDone 1 s.coins.engine.paid s
  if s.coins.engine.startWaiting then runOrIdle t else engineIdle t

/-- The end of a plan (R43). -/
def endPlan (s : State) : State :=
  let r := s.coins.engine.remainder
  let t := if r = 0 then s else raise .changeShort 0 r (unpaid r s)
  runOrIdle (raise .payoutDone 0 s.coins.engine.paid t)

/-- The check before a coin's pulse, and the pulse (R41, R45). -/
def beginCoin (t : TubeId) (s : State) : State :=
  if jammed t s then
    if s.coins.engine.manual then endManual s
    else planRun (s.coins.engine.excluded ++ [t]) s.coins.engine.paid s
  else
    s.mapEngine fun e => { e with phase := .pulse, timerMs := pulseMs, current := some t }

/-- The next coin of the plan, or the end of the plan or of the manual run (R41, R43, R45). -/
def nextCoin (s : State) : State :=
  match s.coins.engine.plan with
  | e :: _ => beginCoin e.1 s
  | [] => if s.coins.engine.manual then endManual s else endPlan s

/-- The first plan entry loses one coin, and is removed at 0 (R41). -/
def loseCoin : List (TubeId × Nat) → List (TubeId × Nat)
  | [] => []
  | (t, n) :: es => if n ≤ 1 then es else (t, n - 1) :: es

/-- A coin of tube t is confirmed at the exit: step 3 of R41. -/
def confirmCoin (t : TubeId) (s : State) : State :=
  let v := tubeValue t s.coins
  let u := (s.mapEngine fun e =>
      { e with phase := .gap, timerMs := gapMs, plan := loseCoin e.plan,
               paid := e.paid + amount v }).mapTube t fun x => { x with count := x.count - 1 }
  tubeChanged t (if s.coins.engine.manual then manualPaid v u else paid v u)

/-- The subject of STRAY-EXIT: the current tube, or 0xFF when IDLE (R44). -/
def straySubject (e : Engine) : Byte :=
  if e.phase = .idle then 0xFF else (e.current.map fun t => byteOf t).getD 0xFF

/-- A coin return request; the subject of RETURN names its source (R21). -/
def coinReturn (source : Byte) (s : State) : State :=
  let r := available s.money.credit
  if r = 0 then s
  else start (passCash s.money.credit.cash (raise .coinReturn source r (returnRest s)))

/-- DEBIT for a cash-funded entry (R18). -/
def debitCash (e : Entry) (s : State) : State :=
  let t := chargeCash e s
  if t.money.credit.vendMode = .single ∧ available t.money.credit ≠ 0 then
    start (passCash s.money.credit.cash (returnRest t))
  else passCash s.money.credit.cash t

/-- DEBIT (R18, R19). -/
def debit (e : Entry) (s : State) : State :=
  match e.funds with
  | .cash => debitCash e s
  | .card => debitCard e s

end Sys2Proof.Machine
end

