-- ==== Sys2Proof/Machine/Energise.lean ====
section
/-! DEFINITION. The matrix driver's first energising (R75) and what every switching-on does (R76 to
R81). How a drive goes on and ends stands in Drive.lean. -/

namespace Sys2Proof.Machine

/-- The trace interval in ms (R94). -/
def traceInterval (d : DriveSettings) : Nat :=
  match d.form with
  | .coarse => 10 * 2 ^ d.number
  | .fine => 10 * (d.number + 1)

/-- The trace buffer at a first energising: taken when FREE, else TRACE-BUSY (R93). Sample 0 is the
current at this moment, a free value (log entry 15). -/
def takeTrace (tag : Byte) (motor : Motor) (s : State) : State :=
  match s.drive.trace.state with
  | .free =>
    (s.mapDrive fun d =>
      { d with trace := { state := .filling, tag := tag, motor := motor.index,
                          intervalMs := traceInterval d.settings,
                          samples := [Config.freeCurrent s.fresh] } }).nextFresh
  | .filling | .full => raise .traceBusy tag 0 s

/-- The drive set is switched on for a turn or a TIMED run, with blanking (R74, R76, R79, R81). -/
def Drive.switchOn (r : Drive) : Drive :=
  match r.kind with
  | .spiral =>
    { r with a := { on := true, turn := .leaving, timerMs := turnMs },
             b := { on := false, turn := .ended, timerMs := 0 } }
  | .twinSpiral =>
    { r with a := { on := true, turn := .leaving, timerMs := turnMs },
             b := { on := true, turn := .leaving, timerMs := turnMs } }
  | .timed =>
    { r with a := { on := true, turn := .ended, timerMs := 0 },
             b := { on := false, turn := .ended, timerMs := 0 }, phaseMs := r.runTime * 100 }

/-- The driver with this record energised for a turn: both runs 0 and blanking started (R81). -/
def Driver.energise (d : Driver) (r : Drive) : Driver :=
  { d with phase := .energised, record := some r.switchOn, stallRun := 0, openRun := 0,
           blankLeft := blankSamples }

/-- The drive record of a vend at its first energising (R75). -/
def newDrive (tag : Byte) (x : Selection) (monitor : Monitor) : Drive where
  tag := tag
  kind := x.kind
  motorA := x.motorA
  motorB := x.motorB
  turns := x.turns
  runTime := x.runTime
  retriesLeft := x.retries
  continuous := x.continuous
  trace := x.trace
  verify := x.verify && decide (monitor ≠ .blocked)
  turnsDone := 0
  a := { on := false, turn := .ended, timerMs := 0 }
  b := { on := false, turn := .ended, timerMs := 0 }
  drops := 0
  phaseMs := 0

/-- The last drive of every motor of the selection takes the tag (R75, R92). -/
def markMotors (tag : Byte) (x : Selection) (v : Vector Byte 80) : Vector Byte 80 :=
  x.motors.foldl (fun v m => v.setIfInBounds m.index tag) v

/-- The first energising of a vend (R75). -/
def firstEnergise (tag : Byte) (x : Selection) (s : State) : State :=
  let t := s.mapDrive fun d =>
    { d.energise (newDrive tag x d.monitor) with
      lastTag := tag, lastDrive := markMotors tag x d.lastDrive }
  if x.trace then takeTrace tag x.motorA t else t

end Sys2Proof.Machine
end

