-- ==== Sys2Proof/Machine/Supply.lean ====
section
/-! DEFINITION. The supply arbiter (chapter 5): placing, granting, withdrawing, releasing and shrinking
claims, with what each grant switches on at its owner. -/

namespace Sys2Proof.Machine

/-- Whether a claim waits and its cost fits the free points (R101). -/
def Claim.fits (c : Claim) (p : Supply) : Bool :=
  decide (c.state = .waiting) && decide (c.cost ≤ freePoints p)

/-- A granted claim holds its cost (R101). -/
def Claim.granted (c : Claim) : Claim := { c with state := .granted, held := c.cost }

/-- A claim placed at this cost (R100). -/
def Claim.placed (cost : Nat) : Claim := { state := .waiting, cost := cost, held := 0 }

/-- Whether the head entry can take the vend grant: WAITING under the claim's tag, with an idle driver
and the check of R69 (log entry 12). -/
def vendReady (e : Entry) (s : State) : Bool :=
  !e.driving && e.tag == s.supply.vendTag && s.drive.record.isNone
    && !heldBlocks s.vend.selections[e.selection] s
    && !faultBlocks s.vend.selections[e.selection] s

/-- The vend grant: the head becomes DRIVING and energising begins in the same step (R69, R75). -/
def tryVend (s : State) : State :=
  match s.vend.queue with
  | [] => s
  | e :: es =>
    if s.supply.vend.fits s.supply ∧ vendReady e s = true then
      firstEnergise e.tag s.vend.selections[e.selection]
        ((s.mapSupply fun p => { p with vend := p.vend.granted }).mapVend fun v =>
          { v with queue := { e with driving := true } :: es })
    else s

/-- The compressor grant: relay on, STARTING (R118). The wait time stops where it is (R102, log entry
36). -/
def tryCompressor (s : State) : State :=
  if s.supply.compressor.fits s.supply then
    (s.mapSupply fun p =>
      { p with compressor := p.compressor.granted, deferring := false }).mapCooling
      fun c => { c with compressor :=
        { c.compressor with state := .starting, relay := true, onMs := 0, runningMs := 0,
                            noCool := false, runOn := none } }
  else s

/-- The heater grant: heater on (R125). -/
def tryHeater (s : State) : State :=
  if s.supply.heater.fits s.supply then
    (s.mapSupply fun p => { p with heater := p.heater.granted }).mapCooling
      fun c => { c with defrost := { c.defrost with heater := true } }
  else s

/-- The vend claim in the deferring order: passed over while the compressor claim waits (R102). -/
def tryVendBehind (s : State) : State :=
  if s.supply.compressor.state = .waiting then s else tryVend s

/-- A consideration (R101, R102). -/
def consider (s : State) : State :=
  if s.supply.deferring then tryHeater (tryVendBehind (tryCompressor s))
  else tryHeater (tryCompressor (tryVend s))

/-- The vend claim is placed for the head entry (R68, R100). -/
def placeVend (cost : Nat) (tag : Byte) (s : State) : State :=
  if s.supply.vend.state = .absent then
    consider (s.mapSupply fun p => { p with vend := .placed cost, vendTag := tag })
  else s

/-- The compressor claim is placed at the start cost (R100, R118). -/
def placeCompressor (s : State) : State :=
  if s.supply.compressor.state = .absent then
    consider (s.mapSupply fun p =>
      { p with compressor := .placed p.startCost, waitMs := 0, deferring := false })
  else s

/-- The heater claim is placed at the heater cost (R100, R125). -/
def placeHeater (s : State) : State :=
  if s.supply.heater.state = .absent then
    consider (s.mapSupply fun p => { p with heater := .placed p.heaterCost })
  else s

/-- A waiting vend claim is withdrawn (R103). -/
def withdrawVend (s : State) : State :=
  if s.supply.vend.state = .waiting then
    consider (s.mapSupply fun p => { p with vend := Reset.claim })
  else s

/-- A waiting compressor claim is withdrawn, and its wait time stops where it is (R102, R103, log entry
36). -/
def withdrawCompressor (s : State) : State :=
  if s.supply.compressor.state = .waiting then
    consider (s.mapSupply fun p =>
      { p with compressor := Reset.claim, deferring := false })
  else s

/-- A waiting heater claim is withdrawn (R103). -/
def withdrawHeater (s : State) : State :=
  if s.supply.heater.state = .waiting then
    consider (s.mapSupply fun p => { p with heater := Reset.claim })
  else s

/-- The vend grant is released (R104). -/
def releaseVend (s : State) : State :=
  if s.supply.vend.state = .granted then
    consider (s.mapSupply fun p => { p with vend := Reset.claim })
  else s

/-- The compressor grant is released (R104). -/
def releaseCompressor (s : State) : State :=
  if s.supply.compressor.state = .granted then
    consider (s.mapSupply fun p => { p with compressor := Reset.claim })
  else s

/-- The heater grant is released (R104). -/
def releaseHeater (s : State) : State :=
  if s.supply.heater.state = .granted then
    consider (s.mapSupply fun p => { p with heater := Reset.claim })
  else s

/-- The compressor grant shrinks to the run cost when that is less (R105). -/
def shrink (s : State) : State :=
  if s.supply.compressor.state = .granted then
    consider (s.mapSupply fun p =>
      { p with compressor := { p.compressor with held := min p.compressor.held p.runCost } })
  else s

/-- The cost a waiting claim takes from new settings (R98). -/
def Claim.repriced (c : Claim) (cost : Nat) : Claim :=
  if c.state = .waiting then { c with cost := cost } else c

end Sys2Proof.Machine
end

