-- ==== Sys2Proof/Machine/Vending.lean ====
section
/-! DEFINITION. The vend controller (chapter 3): starting and cancelling vends, the sales state, the
consistency check, and SELECT. -/

namespace Sys2Proof.Machine

/-- The head entry places its vend claim when R68 allows. -/
def startHead (s : State) : State :=
  match s.vend.queue with
  | [] => s
  | e :: _ =>
    if e.driving = false ∧ s.supply.vend.state = .absent ∧ s.vend.sales = .selling
        ∧ s.drive.record = none then
      placeVend (s.vend.selections[e.selection].motorCount * s.supply.motorCost) e.tag s
    else s

/-- The last-outcome record is written and VEND-DONE is raised (R63, R65, R71). -/
def finishEntry (e : Entry) (o : VendOutcome) (cause : Option CancelCause) (s : State) : State :=
  let last : LastOutcome :=
    { tag := e.tag, selection := e.selection, funds := e.funds, outcome := o, cause := cause }
  raise .vendDone e.tag (packed (byteOf e.selection) o.code (cancelCode cause) 0)
    (s.mapVend fun v => { v with lastOutcome := some last })

/-- One WAITING entry is removed with outcome CANCELLED (R65), all but the start of a new head. -/
def cancelOne (cause : CancelCause) (s : State) (e : Entry) : State :=
  let t := s.mapVend fun v => { v with queue := v.queue.erase e }
  let u := if s.vend.queue.head? = some e then withdrawVend t else t
  finishEntry e .cancelled (some cause) (releaseFunds e u)

/-- The WAITING entries a cause removes, oldest first. -/
def victims (p : Entry → Bool) (s : State) : List Entry :=
  s.vend.queue.filter fun e => !e.driving && p e

/-- Every WAITING entry that the cause concerns is removed, oldest first, and a new head starts once
after the last of them (R65). -/
def cancelWhere (p : Entry → Bool) (cause : CancelCause) (s : State) : State :=
  if victims p s = [] then s else startHead ((victims p s).foldl (cancelOne cause) s)

/-- Every EMPTY mark is lifted (R53, R57). -/
def clearEmpty (s : State) : State :=
  s.mapVend fun v => { v with selections := v.selections.map fun x => { x with empty := false } }

/-- A change of the sales state: the event, the claim of a waiting head on SUSPENDED, the accept set,
and the head's claim on SELLING (R54, R55, R57; order: log entry 30). -/
def enterSales (new : SalesState) (s : State) : State :=
  let t := s.mapVend fun v => { v with sales := new }
  let u := raise .salesState new.code (amount (causeCode t)) t
  match new with
  | .suspended => recomputeAccept (withdrawVend u)
  | .selling => startHead (recomputeAccept u)
  | .offline | .service => recomputeAccept u

/-- The cause set acts on the sales state (R55). -/
def suspendCheck (s : State) : State :=
  match s.vend.sales with
  | .selling => if noCause s then s else enterSales .suspended s
  | .suspended => if noCause s then enterSales .selling s else s
  | .offline | .service => s

/-! ## Consistency check (R58) -/

/-- The valid entries before index n (R58). -/
def validBefore (n : Nat) (l : Link) : List Node := (l.nodes.toList.take n).filter (·.valid)

/-- Row 2: an entry with the role not on port U, or a second valid one. -/
def controllerWrong (i : Fin 16) (l : Link) : Bool :=
  let n := l.nodes[i]
  n.valid && decide (n.role = .machineController)
    && (decide (n.port ≠ 0) || (validBefore i l).any fun m => decide (m.role = n.role))

/-- Row 3: a payment entry on port U, or a second valid one of its role. -/
def paymentWrong (i : Fin 16) (l : Link) : Bool :=
  let n := l.nodes[i]
  n.valid && (match n.role with
      | .coinValidator | .noteReader | .cardReader => true
      | .machineController | .cabinet | .other => false)
    && (decide (n.port = 0) || (validBefore i l).any fun m => decide (m.role = n.role))

/-- Row 4: the part's own number, or the number of an earlier valid entry. Of several pairs the one whose
later entry stands first is reported (log entry 19). -/
def numberWrong (i : Fin 16) (l : Link) : Bool :=
  let n := l.nodes[i]
  n.valid && (n.node == l.ownNode || (validBefore i l).any fun m => m.node == n.node)

/-- Row 5: a class names a tube that stores another class or none. -/
def classWrong (c : Fin 16) (k : Coins) : Bool :=
  match k.table[c].tube with
  | none => false
  | some t => decide (k.tubes[t].cls ≠ some c)

/-- Row 6: a tube's class does not name the tube. -/
def tubeWrong (t : TubeId) (k : Coins) : Bool :=
  match k.tubes[t].cls with
  | none => false
  | some c => decide (k.table[c].tube ≠ some t)

/-- The first failure of one row, as the table code and the index. -/
def firstWrong {n : Nat} (table : Byte) (p : Fin n → Bool) : Option (Byte × Byte) :=
  ((List.finRange n).find? p).map fun i => (table, byteOf i)

/-- The consistency check: the table and the index of its first failure (R58). -/
def inconsistency (s : State) : Option (Byte × Byte) :=
  (if s.link.nodes.toList.any fun n => n.valid && decide (n.role = .machineController) then none
    else some ((0x04 : Byte), (0xFF : Byte)))
  <|> firstWrong 0x04 (fun i => controllerWrong i s.link)
  <|> firstWrong 0x04 (fun i => paymentWrong i s.link)
  <|> firstWrong 0x04 (fun i => numberWrong i s.link)
  <|> firstWrong 0x01 (fun c => classWrong c s.coins)
  <|> firstWrong 0x03 (fun t => tubeWrong t s.coins)

/-! ## SELECT (R61, R62) -/

/-- Whether selection s passes checks 2 to 5 for some preference: known, enabled, not EMPTY, not
isolated, zone not HELD (R8, R61). -/
def vendable (x : Selection) (s : State) : Bool :=
  x.enabled && !x.empty && !faultBlocks x s && !heldBlocks x s

/-- The reason code of the first check from 1 to 6 that fails (R61). -/
def refusal (sel preference : Byte) (s : State) : Option Nat :=
  if s.vend.sales ≠ .selling then some 1
  else
    match readFin 96 sel, readPreference preference with
    | some i, some _ =>
      let x := s.vend.selections[i]
      if x.enabled = false then some 2
      else if x.empty then some 3
      else if faultBlocks x s then some 4
      else if heldBlocks x s then some 5
      else if 4 ≤ s.vend.queue.length then some 6
      else none
    | _, _ => some 2

/-- An accepted SELECT is appended to the queue, with VEND-ACCEPTED (R62). -/
def accept (i : Fin 96) (f : Funds) (s : State) : State :=
  let price := s.vend.selections[i].price
  let tag := freeTag (fun t => t == 0xFF || s.vend.queue.any fun e => e.tag == t) 5 s.vend.nextTag
  startHead (raise .vendAccepted tag (amount i)
    ((commitFunds f price s).mapVend fun v =>
      { v with
        queue := v.queue ++
          [{ tag := tag, selection := i, price := price, funds := f, driving := false }]
        nextTag := tag + 1 }))

/-- SELECT (R61), all but its activity. -/
def selectVend (sel preference : Byte) (s : State) : State :=
  let refuse (code : Nat) := raise .vendRefused sel (amount code) s
  match refusal sel preference s with
  | some code => refuse code
  | none =>
    match readFin 96 sel, readPreference preference with
    | some i, some p =>
      match commitAnswer p s.vend.selections[i].price s with
      | .cash => accept i .cash s
      | .card => accept i .card s
      | .credit => refuse 7
      | .settleFull => refuse 8
    | _, _ => refuse 2

end Sys2Proof.Machine
end

