-- ==== Sys2Proof/Machine/Faults.lean ====
section
/-! DEFINITION. The fault list (chapter 9): a report, the end of a condition, a disposition write, and
what each tells the owners. The re-reports of FAULT-CLEAR stand with it. -/

namespace Sys2Proof.Machine

/-- Whether a kind has a lasting condition (R166). -/
def FaultKind.lasting : FaultKind → Bool
  | .dropBlocked | .probeOpen | .probeShort | .portQuiet => true
  | .motorStall | .motorOpen | .motorHomeLost | .tubeJam | .tubeOverfill | .routeLost
  | .compressorNocool | .defrostTimeout => false

/-- The place of the record of a kind and a subject (R169). -/
def findPlace (k : FaultKind) (subject : Nat) (f : FaultList) : Option (Fin 24) :=
  (List.finRange 24).find? fun p =>
    match f.places[p] with
    | none => false
    | some r => decide (r.kind = k) && decide (r.subject = subject)

/-- The lowest empty place (R170). -/
def emptyPlace (f : FaultList) : Option (Fin 24) :=
  (List.finRange 24).find? fun p => f.places[p].isNone

/-- The record at a place when replacement may remove it: class NOTE, condition not present (R170). -/
def replaceable (p : Fin 24) (f : FaultList) : Option FaultRecord :=
  f.places[p].bind fun r =>
    if classOf f r.kind = .note ∧ r.present = false then some r else none

/-- The place of the oldest replaceable record in store order (R170). -/
def oldestNote (f : FaultList) : Option (Fin 24) :=
  ((List.finRange 24).foldl
    (fun best p =>
      match replaceable p f, best with
      | none, _ => best
      | some r, none => some (p, r.storeOrder)
      | some r, some b => if r.storeOrder < b.2 then some (p, r.storeOrder) else best)
    (none : Option (Fin 24 × Nat))).map (·.1)

/-- Where a new record goes: the lowest empty place, else the oldest replaceable record's (R170). -/
def storePlace (f : FaultList) : Option (Fin 24) := emptyPlace f <|> oldestNote f

/-- The value of FAULT-NEW, FAULT-REPEAT and FAULT-ENDED (R170, R171). -/
def faultValue (r : FaultRecord) : Word :=
  packed (byteOf r.kind.index) (byteOf r.subject) (byteOf r.count) (yesNo r.present)

/-- Puts a record at a place and takes the next order number. -/
def FaultList.put (f : FaultList) (p : Fin 24) (r : FaultRecord) : FaultList :=
  { f with places := f.places.set p (some r), nextOrder := f.nextOrder + 1 }

/-- An item's isolation begins (R168). -/
def isolationBegins (i : Item) (s : State) : State :=
  match i with
  | .tube t => tubeChanged t s
  | .motor _ | .curtain | .airProbe _ =>
    cancelWhere (fun e => s.vend.selections[e.selection].affectedBy i) .fault s

/-- An item's isolation ends (R168, R173). -/
def isolationEnds (i : Item) (s : State) : State :=
  match i with
  | .tube t => tubeChanged t s
  | .motor _ | .curtain | .airProbe _ => s

/-- A repeat of a stored record (R170). -/
def repeatFault (p : Fin 24) (r : FaultRecord) (s : State) : State :=
  let q := { r with count := saturate 255 r.count, present := r.present || r.kind.lasting,
                    reportOrder := s.faults.nextOrder }
  raise .faultRepeat (byteOf p) (faultValue q) (s.mapFaults fun f => f.put p q)

/-- A new record at a place, and what follows for the owners (R170). -/
def storeFault (p : Fin 24) (k : FaultKind) (subject : Nat) (s : State) : State :=
  let q : FaultRecord :=
    { kind := k, subject := subject, firstSeen := stamp s, count := 1, present := k.lasting,
      storeOrder := s.faults.nextOrder, reportOrder := s.faults.nextOrder }
  let t := raise .faultNew (byteOf p) (faultValue q) (s.mapFaults fun f => f.put p q)
  let u :=
    match itemOf k subject with
    | none => t
    | some i => if isolated i t.faults ∧ isolated i s.faults = false then isolationBegins i t else t
  suspendCheck u

/-- A report that cannot be stored (R170, R172). -/
def loseFault (k : FaultKind) (subject : Nat) (s : State) : State :=
  suspendCheck (raise .faultLost 0xFF (packed (byteOf k.index) (byteOf subject) 0 0)
    (s.mapFaults fun f => { f with overflow := true }))

/-- A fault report (R170). -/
def report (k : FaultKind) (subject : Nat) (s : State) : State :=
  match findPlace k subject s.faults with
  | some p =>
    match s.faults.places[p] with
    | some r => repeatFault p r s
    | none => s
  | none =>
    match storePlace s.faults with
    | some p => storeFault p k subject s
    | none => loseFault k subject s

/-- The record of a kind and subject without its condition. -/
def endPresent (k : FaultKind) (subject : Nat) (f : FaultList) : FaultList :=
  match findPlace k subject f with
  | none => f
  | some p => { f with places := f.places.set p (f.places[p].map fun r => { r with present := false }) }

/-- The lasting condition of a kind and subject has ended (R171). -/
def conditionEnded (k : FaultKind) (subject : Nat) (s : State) : State :=
  match findPlace k subject s.faults with
  | none => s
  | some p =>
    match s.faults.places[p] with
    | none => s
    | some r =>
      raise .faultEnded (byteOf p) (faultValue { r with present := false })
        (s.mapFaults (endPresent k subject))

/-- The isolation of an item begins or ends with a write of the class table (R167). -/
def rejudge (before : FaultList) (s : State) (i : Item) : State :=
  match isolated i before, isolated i s.faults with
  | false, true => isolationBegins i s
  | true, false => isolationEnds i s
  | _, _ => s

/-- The class of a kind is written, and the list acts on the stored records of the kind (R167): first on the
isolations that begin or end, one record after the other in the order of their places, then by the judgement
of STOP. R167 names neither order (log entry 50). -/
def writeClass (k : Fin 12) (c : FaultClass) (s : State) : State :=
  let items := ((records s.faults).filter fun r => decide (r.kind.index = k)).filterMap fun r =>
    itemOf r.kind r.subject
  suspendCheck (items.foldl (rejudge s.faults)
    (s.mapFaults fun f => { f with classes := f.classes.set k c }))

/-- Reports a condition again that is present and has no record (R172). -/
def reportAgain (k : FaultKind) (subject : Nat) (present : Bool) (s : State) : State :=
  if present && (findPlace k subject s.faults).isNone then report k subject s else s

/-- A probe's condition again (R172). -/
def probeAgain (s : State) (i : Fin 3) : State :=
  match s.cooling.probes[i].state with
  | .faultedOpen => reportAgain .probeOpen i true s
  | .faultedShort => reportAgain .probeShort i true s
  | .noSample | .valid => s

/-- OVERFLOW ends: LIST-FULL goes, and the owners report again, probes 0 to 2, curtain, ports 0 to 3
(R172). -/
def endOverflow (s : State) : State :=
  let t := suspendCheck (s.mapFaults fun f => { f with overflow := false })
  let u := (List.finRange 3).foldl probeAgain t
  let v := reportAgain .dropBlocked 0 (decide (u.drive.monitor = .blocked)) u
  (List.finRange 4).foldl
    (fun (w : State) (p : PortId) => reportAgain .portQuiet p (decide ((w.port p).state = .quiet)) w) v

/-- FAULT-CLEAR removes the record at a place (R173). -/
def removeFault (p : Fin 24) (r : FaultRecord) (s : State) : State :=
  let t := s.mapFaults fun f => { f with places := f.places.set p none }
  let u :=
    match itemOf r.kind r.subject with
    | none => t
    | some i => rejudge s.faults t i
  let v := suspendCheck u
  if s.faults.overflow then endOverflow v else v

end Sys2Proof.Machine
end

