-- ==== Sys2Proof/Machine/Refrigeration.lean ====
section
/-! DEFINITION. The refrigeration controller (chapter 6): probe samples, zone demand, the compressor and
the defrost; and the sale hold's accumulation (R130, R131). -/

namespace Sys2Proof.Machine

/-- Changes one probe channel. -/
def State.mapProbe (s : State) (i : Fin 3) (f : Probe → Probe) : State :=
  s.mapCooling fun c => { c with probes := c.probes.set i (f c.probes[i]) }

/-- Changes one zone record. -/
def State.mapZone (s : State) (z : ZoneId) (f : Zone → Zone) : State :=
  s.mapCooling fun c => { c with zones := c.zones.set z (f c.zones[z]) }

/-- Changes the compressor record. -/
def State.mapCompressor (s : State) (f : Compressor → Compressor) : State :=
  s.mapCooling fun c => { c with compressor := f c.compressor }

/-- Changes the defrost record. -/
def State.mapDefrost (s : State) (f : Defrost → Defrost) : State :=
  s.mapCooling fun c => { c with defrost := f c.defrost }

/-- Changes one hold record. -/
def State.mapHold (s : State) (z : ZoneId) (f : Hold → Hold) : State :=
  s.mapCabinet fun c => { c with holds := c.holds.set z (f c.holds[z]) }

/-- The channel of a zone's air probe (R108). -/
def airProbe (z : ZoneId) : Fin 3 := z.castSucc

/-! ## Compressor and defrost -/

/-- Event DEFROST with the new state (R123). -/
def raiseDefrost (value : Nat) (s : State) : State :=
  raise .defrost s.cooling.defrost.state.code (amount value) s

/-- The entry to HEATING (R125). -/
def enterHeating (s : State) : State :=
  placeHeater (raiseDefrost 0 (s.mapDefrost fun d =>
    { d with state := .heating, heatMs := heatMaxMs, heaterOnMs := 0 }))

/-- The stop of the compressor, in the order of R120. -/
def stopCompressor (s : State) : State :=
  let t := releaseCompressor (s.mapCompressor fun c => { c with relay := false })
  let u := t.mapCompressor fun c =>
    { c with state := .locked, offMs := offTimerMs, onMs := 0, runningMs := 0, runOn := some runOnMs }
  if u.cooling.defrost.state = .pending then enterHeating u else u

/-- The compressor takes the compressor demand in its present state (R116, R118, R120). -/
def reactCompressor (s : State) : State :=
  let c := s.cooling.compressor
  match c.state, compressorDemand s.cooling with
  | .ready, true => placeCompressor (s.mapCompressor fun c => { c with state := .waitingPower })
  | .waitingPower, false =>
    withdrawCompressor (s.mapCompressor fun c => { c with state := .ready })
  | .running, false => if minimumOnMs ≤ c.onMs then stopCompressor s else s
  | _, _ => s

/-- The defrost becomes PENDING; `cause` is 0 for the accumulator and 1 for DEFROST-NOW (R123, R124). -/
def enterPending (cause : Nat) (s : State) : State :=
  let t := reactCompressor (raiseDefrost cause (s.mapDefrost fun d => { d with state := .pending }))
  match t.cooling.defrost.state, t.cooling.compressor.state with
  | .pending, .locked => enterHeating t
  | .pending, .ready => enterHeating t
  | _, _ => t

/-- Heater off and its claim released or withdrawn: step 1 of R126. -/
def heaterOff (s : State) : State :=
  withdrawHeater (releaseHeater (s.mapDefrost fun d => { d with heater := false }))

/-- The end of HEATING, in the order of R126; the condenser fan's run-on ends (R122). -/
def endHeating (s : State) : State :=
  let t := (heaterOff s).mapCooling fun c =>
    { c with
      defrost := { c.defrost with state := .dripping, heatMs := 0, dripMs := dripMaxMs }
      compressor := { c.compressor with runOn := none } }
  raiseDefrost (seconds t.cooling.defrost.heaterOnMs) t

/-- The end of DRIPPING (R127). -/
def endDripping (s : State) : State :=
  reactCompressor (raiseDefrost 0 (s.mapCooling fun c =>
    { c with
      defrost := { c.defrost with state := .none, dripMs := 0 }
      compressor := { c.compressor with accumulatorMs := 0 } }))

/-- The run accumulator has reached the defrost interval (R123). -/
def intervalReached (c : Cooling) : Bool :=
  decide (c.intervalH * 3600000 ≤ c.compressor.accumulatorMs)

/-! ## Zones -/

/-- A zone's demand becomes this, and the compressor takes a change (R112, R116). -/
def setDemand (z : ZoneId) (on : Bool) (s : State) : State :=
  if s.cooling.zones[z].demand = on then s
  else reactCompressor (s.mapZone z fun x => { x with demand := on })

/-- The demand a filtered value asks for (R112). -/
def demandOf (x : Zone) (f : Int) : Bool :=
  if x.effective + x.differential ≤ f then true
  else if f ≤ x.effective then false
  else x.demand

/-- The demand of a zone is evaluated (R112). -/
def evalDemand (z : ZoneId) (s : State) : State :=
  let p := s.cooling.probes[airProbe z]
  match p.state with
  | .valid => setDemand z (demandOf s.cooling.zones[z] p.filtered) s
  | .noSample => setDemand z false s
  | .faultedOpen | .faultedShort => s

/-- The effective setpoint (R111). -/
def effectiveOf (setpoint limit : Int) (offset : Nat) (e : EconomyState) : Int :=
  match e with
  | .active | .dim => setpoint
  | .economy => min (setpoint + offset) (max setpoint (limit - 10))

/-- The effective setpoint of a zone is formed again and the demand evaluated (R111). -/
def formSetpoint (z : ZoneId) (s : State) : State :=
  evalDemand z (s.mapZone z fun x =>
    { x with effective := effectiveOf x.setpoint s.cabinet.holds[z].limit s.cabinet.economy.offset
                            s.cabinet.economy.state })

/-- A zone enters the limp cycle with an ON phase (R113). -/
def enterLimp (z : ZoneId) (s : State) : State :=
  setDemand z true (s.mapZone z fun x =>
    { x with limp := some { on := true, leftMs := s.cooling.limpOnMin * 60000 } })

/-! ## Probe samples (R108, R109) -/

/-- The filter step (R109). -/
def filterStep (d : Int) : Int :=
  if d ≠ 0 ∧ d.tdiv 8 = 0 then (if 0 < d then 1 else -1) else d.tdiv 8

/-- What a reading is to its channel (R108). -/
inductive Reading where
  | inRange | open_ | short
deriving DecidableEq, Repr

/-- The range of a reading (R108). -/
def readingOf (raw : Int) : Reading :=
  if raw < -400 then .short else if 850 < raw then .open_ else .inRange

/-- The channel after a sample (R108, R109). -/
def Probe.sample (p : Probe) (raw : Int) : Probe :=
  match readingOf raw with
  | .inRange =>
    match p.state with
    | .valid => { p with raw := raw, filtered := p.filtered + filterStep (raw - p.filtered) }
    | .noSample | .faultedOpen | .faultedShort => { raw := raw, filtered := raw, state := .valid }
  | .open_ => { p with raw := raw, state := .faultedOpen }
  | .short => { p with raw := raw, state := .faultedShort }

/-- The condition a channel state keeps present (R166). -/
def ChannelState.condition : ChannelState → Option FaultKind
  | .faultedOpen => some .probeOpen
  | .faultedShort => some .probeShort
  | .noSample | .valid => none

/-- The reports of a passage between channel states: the old condition ended, then the new one raised
(R108). -/
def reportPassage (i : Fin 3) (old new : ChannelState) (s : State) : State :=
  if old.condition = new.condition then s
  else
    let t := match old.condition with
      | none => s
      | some k => conditionEnded k i s
    match new.condition with
    | none => t
    | some k => report k i t

/-- One channel is sampled (R108). -/
def sampleProbe (i : Fin 3) (raw : Int) (s : State) : State :=
  let p := s.cooling.probes[i]
  reportPassage i p.state (p.sample raw).state (s.mapProbe i fun p => p.sample raw)

/-- What a zone does after its air channel went from `old` to its present state (R112, R113). -/
def airTaken (z : ZoneId) (old : ChannelState) (s : State) : State :=
  let new := s.cooling.probes[airProbe z].state
  match old.condition, new.condition with
  | none, some _ => enterLimp z s
  | some _, none => evalDemand z (s.mapZone z fun x => { x with limp := none })
  | none, none => evalDemand z s
  | some _, some _ => s

/-- A zone's air channel is sampled (R108, R112, R113). -/
def sampleAir (z : ZoneId) (raw : Int) (s : State) : State :=
  airTaken z s.cooling.probes[airProbe z].state (sampleProbe (airProbe z) raw s)

/-- The no-cool check at a filtered coil value (R121). -/
def checkNoCool (s : State) : State :=
  let c := s.cooling.compressor
  if c.state = .running ∧ noCoolMs ≤ c.runningMs ∧ c.noCool = false
      ∧ -50 < s.cooling.probes[(2 : Fin 3)].filtered then
    (report .compressorNocool 0 s).mapCompressor fun c => { c with noCool := true }
  else s

/-- The end of HEATING by temperature at a filtered coil value (R126). -/
def checkCoil (s : State) : State :=
  if s.cooling.defrost.state = .heating
      ∧ s.cooling.terminate ≤ s.cooling.probes[(2 : Fin 3)].filtered then endHeating s
  else s

/-- The coil channel is sampled, and a filtered value is judged (R108, R121, R126). -/
def sampleCoil (raw : Int) (s : State) : State :=
  let t := sampleProbe 2 raw s
  if t.cooling.probes[(2 : Fin 3)].state = .valid then checkCoil (checkNoCool t) else t

/-! ## Accumulation (R130, R131) -/

/-- The direction of an accumulation step: rising with its cause, or falling (R130). -/
def holdStep (h : Hold) (p : Probe) : Option HoldCause :=
  match p.state with
  | .faultedOpen | .faultedShort => some .probe
  | .valid => if h.limit < p.filtered then some .temperature else none
  | .noSample => none

/-- The hold record after a step, HELD apart (R130). -/
def Hold.count (h : Hold) (p : Probe) : Hold :=
  match holdStep h p with
  | some cause => { h with accumulator := min h.delay (h.accumulator + 1), cause := cause }
  | none => { h with accumulator := h.accumulator - 1 }

/-- The zone becomes HELD (R131). -/
def enterHeld (z : ZoneId) (s : State) : State :=
  let t := s.mapHold z fun h => { h with held := true }
  cancelWhere (fun e => decide (s.vend.selections[e.selection].zone = some z)) .held
    (raise .zoneHeld (byteOf z) (amount (t.cabinet.holds[z].cause.code.toNat)) t)

/-- One accumulation step of a zone (R130, R131). -/
def accumulate (z : ZoneId) (s : State) : State :=
  let h := s.cabinet.holds[z]
  let p := s.cooling.probes[airProbe z]
  if h.enabled = false then s
  else
    let t := s.mapHold z fun h => h.count p
    if (holdStep h p).isSome ∧ h.held = false ∧ (h.count p).accumulator = h.delay then enterHeld z t
    else t

end Sys2Proof.Machine
end

