-- ==== Sys2Proof/Machine/Economy.lean ====
section
/-! DEFINITION. The economy unit (R134 to R143): activities, state changes, the lamp and the windows. -/

namespace Sys2Proof.Machine

/-- Changes the economy record. -/
def State.mapEconomy (s : State) (f : Economy → Economy) : State :=
  s.mapCabinet fun c => { c with economy := f c.economy }

/-- Changes the time-of-week counter. -/
def State.mapClock (s : State) (f : Clock → Clock) : State :=
  s.mapCabinet fun c => { c with clock := f c.clock }

/-- The lamp level of a state (R139). -/
def lampOf (e : EconomyState) (dimLevel : Nat) : Nat :=
  match e with
  | .active => 100
  | .dim => dimLevel
  | .economy => 0

/-- A change of the economy state, in the order of R140. -/
def changeEconomy (new : EconomyState) (value : Nat) (s : State) : State :=
  raise .economy new.code (amount value) (formSetpoint 1 (formSetpoint 0 (s.mapEconomy fun e =>
    { e with state := new, lamp := lampOf new e.dimLevel })))

/-- The passages forward of R136. -/
def judgeEconomy (s : State) : State :=
  let t := if s.cabinet.economy.state = .active
        ∧ s.cabinet.economy.dimDelay * 1000 ≤ s.cabinet.economy.quietMs then
      changeEconomy .dim 0 s else s
  let e := t.cabinet.economy
  if e.state = .dim ∧ (e.dimDelay + e.economyDelay) * 1000 ≤ e.quietMs ∧ t.cabinet.clock.valid = true
      ∧ e.inWindow = true then
    changeEconomy .economy 0 t
  else t

/-- The day before (R142). -/
def dayBefore (d : Nat) : Nat := (d + 6) % 7

/-- Whether a window covers a second of the week (R142). -/
def Window.covers (w : Window) (second : Nat) : Bool :=
  let day := second / 86400
  let minute := second % 86400 / 60
  w.enabled &&
    (if w.startMinute < w.endMinute then
      w.days.getLsbD day && decide (w.startMinute ≤ minute) && decide (minute < w.endMinute)
    else
      (w.days.getLsbD day && decide (w.startMinute ≤ minute))
        || (w.days.getLsbD (dayBefore day) && decide (minute < w.endMinute)))

/-- In window (R142). -/
def inWindow (c : Cabinet) : Bool :=
  c.clock.valid && c.schedule.toList.any fun w => w.covers c.clock.second

/-- In window is judged again, and a change is taken (R136, R137, R142). -/
def judgeWindow (s : State) : State :=
  let w := inWindow s.cabinet
  if s.cabinet.economy.inWindow = w then s
  else
    let t := s.mapEconomy fun e => { e with inWindow := w }
    judgeEconomy (if w = false ∧ t.cabinet.economy.state = .economy then changeEconomy .dim 0 t else t)

/-- An activity (R135, R138). -/
def activity (k : Activity) (s : State) : State :=
  if s.cabinet.economy.mask.getLsbD k.bit = false then s
  else
    let t := s.mapEconomy fun e => { e with quietMs := 0 }
    if s.cabinet.economy.state = .active then t
    else
      changeEconomy .active (k.bit + 1)
        (t.mapEconomy fun e => { e with wakeCause := some k, wakeTime := stamp s })

end Sys2Proof.Machine
end

