-- ==== Sys2Proof/Machine/Drive.lean ====
section
/-! DEFINITION. How a drive goes on and ends (chapter 4): turns, tail, drops, the current checks and
the outcome, and what the vend controller does at an outcome (R71). -/

namespace Sys2Proof.Machine

/-! ## Outcome at the vend controller (R71) -/

/-- Changes one selection entry. -/
def State.mapSelection (s : State) (i : Fin 96) (f : Selection → Selection) : State :=
  s.mapVend fun v => { v with selections := v.selections.set i (f v.selections[i]) }

/-- The outcome was a delivery (R63). -/
def VendOutcome.isDelivery : VendOutcome → Bool
  | .delivered | .deliveredUnverified => true
  | .notDelivered | .motorFault | .cancelled | .aborted => false

/-- The kept fields of a selection after an outcome: step 3 of R71 (R53). -/
def Selection.after (x : Selection) (o : VendOutcome) : Selection :=
  match o with
  | .delivered | .deliveredUnverified => { x with vendCount := saturate 65535 x.vendCount }
  | .notDelivered => { x with empty := true, failCount := saturate 255 x.failCount }
  | .motorFault => { x with failCount := saturate 255 x.failCount }
  | .cancelled | .aborted => x

/-- The outcome of the DRIVING head entry, in the order of R71. -/
def settleVend (e : Entry) (o : VendOutcome) (s : State) : State :=
  let s1 := releaseVend s
  let s2 := s1.mapVend fun v => { v with queue := v.queue.tail }
  let s3 := if o.isDelivery then debit e s2 else releaseFunds e s2
  let s4 := s3.mapSelection e.selection fun x => x.after o
  let s5 := finishEntry e o none s4
  let s6 := if o = .notDelivered then
      cancelWhere (fun x => decide (x.selection = e.selection)) .empty s5 else s5
  startHead s6

/-- The vend controller takes a report of the matrix driver (R71, R72). -/
def vendOutcome (tag : Byte) (o : VendOutcome) (s : State) : State :=
  match s.vend.queue with
  | [] => s
  | e :: _ => if e.driving = true ∧ e.tag = tag then settleVend e o s else s

/-! ## The end of a drive -/

/-- The trace buffer held by a drive becomes FULL (R93). -/
def Trace.close (t : Trace) : Trace := if t.state = .filling then { t with state := .full } else t

/-- The driver IDLE with no drive (R74). -/
def Driver.idle (d : Driver) : Driver :=
  { d with phase := .idle, record := none, stallRun := 0, openRun := 0, blankLeft := 0,
           trace := d.trace.close }

/-- A drive ends with an outcome: window CLOSED, trace FULL, IDLE, report (R89, R90). -/
def endDrive (r : Drive) (o : VendOutcome) (s : State) : State :=
  vendOutcome r.tag o (s.mapDrive Driver.idle)

/-- Both columns off. -/
def Drive.switchOff (r : Drive) : Drive :=
  { r with a := { r.a with on := false }, b := { r.b with on := false } }

/-- A stall, an open circuit or a lost home, in the order of R85; of two motors motor A's fault is handed over
first (log entry 49). -/
def driveFault (k : FaultKind) (motors : List Motor) (r : Drive) (s : State) : State :=
  let t := s.mapDrive fun d =>
    { d with phase := .idle, record := some r.switchOff, stallRun := 0, openRun := 0, blankLeft := 0 }
  let u := motors.foldl (fun v m => report k m.index v) t
  endDrive r .motorFault u

/-- The end of the last turn, with the drive set empty (R80). -/
def endOfLastTurn (r : Drive) (s : State) : State :=
  let q := r.switchOff
  let t := s.mapDrive fun d =>
    { d with phase := .tail, record := some { q with phaseMs := tailMs }, stallRun := 0, openRun := 0,
             blankLeft := 0 }
  if r.verify = true ∧ 1 ≤ r.drops then endDrive r .delivered t else t

/-- The next turn of a continuous drive: every motor's turn starts, and a column that was off is
switched on with blanking (R77, R78). -/
def nextContinuous (r : Drive) (s : State) : State :=
  s.mapDrive fun d =>
    let off := r.kind = .twinSpiral ∧ (r.a.on && r.b.on) = false
    { d with
      record := some r.switchOn
      stallRun := if off then 0 else d.stallRun
      openRun := if off then 0 else d.openRun
      blankLeft := if off then blankSamples else d.blankLeft }

/-- The end of a turn of the drive (R77, R78). -/
def turnEnded (r : Drive) (s : State) : State :=
  let q := { r with turnsDone := r.turnsDone + 1 }
  if q.turnsDone < q.turns then
    if q.continuous then nextContinuous q s
    else
      s.mapDrive fun d =>
        { d with phase := .paused, record := some { q.switchOff with phaseMs := pauseMs },
                 stallRun := 0, openRun := 0, blankLeft := 0 }
  else endOfLastTurn q s

/-- Whether a motor's closing home switch ends its turn: on and AWAY (R76). -/
def MotorTurn.ends (m : MotorTurn) : Bool := m.on && decide (m.turn = .away)

/-- A motor whose turn has ended (R76). -/
def MotorTurn.ended (m : MotorTurn) : MotorTurn := { m with turn := .ended, timerMs := 0 }

/-- Home switches close (R77, R78). -/
def switchesClose (m : TurnEnd) (r : Drive) (s : State) : State :=
  let endsA := decide (m ≠ .b) && r.a.ends
  let endsB := decide (m ≠ .a) && r.b.ends
  let q := { r with a := if endsA then r.a.ended else r.a, b := if endsB then r.b.ended else r.b }
  if endsA = false ∧ endsB = false then s
  else if q.a.turn = .ended ∧ q.b.turn = .ended then turnEnded q s
  else
    s.mapDrive fun d =>
      { d with
        record := some { q with a := { q.a with on := q.a.on && !endsA },
                                b := { q.b with on := q.b.on && !endsB } }
        stallRun := 0
        openRun := 0 }

/-- The tail runs out (R89, R90). -/
def tailEnds (r : Drive) (s : State) : State :=
  if r.verify = false then endDrive r .deliveredUnverified s
  else if 1 ≤ r.drops then endDrive r .delivered s
  else if r.retriesLeft = 0 then endDrive r .notDelivered s
  else s.mapDrive fun d => d.energise { r with retriesLeft := r.retriesLeft - 1 }

/-! ## Current checks (R81 to R83) -/

/-- The stall limit in mA (R82). -/
def stallLimit (r : Drive) (d : DriveSettings) : Nat :=
  if r.a.on && r.b.on then min 2550 (2 * d.threshold) else d.threshold

/-- Judged samples of a stall (R82). -/
def stallSamples (d : DriveSettings) : Nat := d.stallMs / 10

/-- A judged sample in the two runs: the stall run and the open run after it (R82, R83). -/
def judgeSample (current : Byte) (r : Drive) (d : Driver) : Nat × Nat :=
  let ma := current.toNat * 10
  (if r.kind ≠ .timed ∧ stallLimit r d.settings ≤ ma then d.stallRun + 1 else 0,
   if ma < 60 then d.openRun + 1 else 0)

/-- One current sample (R81 to R83). -/
def sampleCurrent (current : Byte) (r : Drive) (s : State) : State :=
  if 0 < s.drive.blankLeft then
    s.mapDrive fun d => { d with blankLeft := d.blankLeft - 1, stallRun := 0, openRun := 0 }
  else
    let runs := judgeSample current r s.drive
    let t := s.mapDrive fun d => { d with stallRun := runs.1, openRun := runs.2 }
    if r.kind ≠ .timed ∧ 0 < runs.1 ∧ stallSamples s.drive.settings ≤ runs.1 then
      driveFault .motorStall r.energised r t
    else if openSamples ≤ runs.2 then driveFault .motorOpen r.energised r t
    else t

/-! ## Drops (R88, R89) -/

/-- A drop is counted (R88). -/
def countDrop (s : State) : State :=
  match s.drive.record with
  | none => raise .strayDrop s.drive.lastTag 0 s
  | some r =>
    let q := { r with drops := saturate 255 r.drops }
    let t := s.mapDrive fun d => { d with record := some q }
    if r.drops = 0 then
      if r.verify = true ∧ s.drive.phase = .tail then endDrive q .delivered t else t
    else raise .extraDrop r.tag (amount q.drops) t

/-- The effect of a blocked beam on the drive under way (R91). -/
def blockDrive (d : Driver) : Driver :=
  { d with record := d.record.map fun r => if r.drops = 0 then { r with verify := false } else r }

end Sys2Proof.Machine
end

