-- ==== Sys2Proof/Machine/Links.lean ====
section
/-! DEFINITION. The link ports (R147 to R151): error scores, QUIET and recovery, forwarding. -/

namespace Sys2Proof.Machine

/-- Whether the port carries the COIN-VALIDATOR node (R148, R149). -/
def carriesValidator (p : PortId) (l : Link) : Bool :=
  match roleEntry .coinValidator l with
  | none => false
  | some n => decide (n.port = p)

/-- Whether a port's queue holds the REPLY that a pending warm restart waits for (R179). -/
def holdsRestart (q : Port) : Bool := q.tx.any fun f => decide (f.kind = .restartReply)

/-- The port's own part of the entry to QUIET: steps 1 to 3 of R148. -/
def Port.quieten (q : Port) : Port := { q with state := .quiet, tx := [], recovery := 0 }

/-- The entry to QUIET, in the order of R148. -/
def enterQuiet (p : PortId) (s : State) : State :=
  let t := s.mapPort p Port.quieten
  let u := if p = 0 then t.mapLink fun l => { l with hold := none } else t
  let v := report .portQuiet p u
  if carriesValidator p v.link then issueAccept v else v

/-- A bad frame at a port (R145, R147, R148). -/
def scoreBad (p : PortId) (s : State) : State :=
  let q := s.port p
  match q.state with
  | .quiet => s.mapPort p fun q => { q with recovery := 0 }
  | .active =>
    let score := min 255 (q.score + 8)
    let t := s.mapPort p fun q => { q with score := score }
    if 64 ≤ score ∧ score ≤ 191 then
      raise .portWarn (byteOf p) (amount score) (t.mapPort p fun q => { q with state := .warned })
    else t
  | .warned =>
    let score := min 255 (q.score + 8)
    let t := s.mapPort p fun q => { q with score := score }
    if 192 ≤ score then enterQuiet p t else t

/-- A good frame at a port that is not QUIET (R147). -/
def scoreGood (p : PortId) (s : State) : State :=
  s.mapPort p fun q =>
    { q with score := q.score - 1,
             state := if q.state = .warned ∧ q.score - 1 < 64 then .active else q.state }

/-- The port's own part of the return from QUIET (R149). -/
def Port.revive (q : Port) : Port := { q with state := .active, score := 0, recovery := 0 }

/-- The return from QUIET, in the order of R149. -/
def recover (p : PortId) (s : State) : State :=
  let t := conditionEnded .portQuiet p (s.mapPort p Port.revive)
  let u := if carriesValidator p t.link then recomputeAccept t else t
  u.mapPort p fun q => q.fillPending p

/-- A frame that a full queue drops: the overflow count, and QUEUE-FULL at the first of a run
(R151, R152). -/
def overflowDrop (p : PortId) (s : State) : State :=
  let t := s.mapPort p fun q => { q with overflow := saturate 255 q.overflow, runOpen := true }
  if (s.port p).runOpen then t
  else raise .queueFull (byteOf p) (amount (t.port p).overflow) t

/-- A forwarded frame or a copy is offered to a port (R151). -/
def forward (p : PortId) (f : Frame) (s : State) : State :=
  let q := s.port p
  if q.state ≠ .quiet ∧ q.waiting = [] ∧ 0 < freePlaces p q then
    s.mapPort p fun q => { q.enqueue f .forwarded with runOpen := false }
  else overflowDrop p s

end Sys2Proof.Machine
end

