-- ==== Sys2Proof/Machine/Restart.lean ====
section
/-! DEFINITION. The warm restart (R180): each block's part, the event RESTART, and what follows it. -/

namespace Sys2Proof.Machine

/-- The ports whose PORT-QUIET condition the restart ends (R159). -/
def endQuietConditions (s : State) (f : FaultList) : FaultList :=
  (List.finRange 4).foldl
    (fun f (p : PortId) => if (s.port p).state = .quiet then endPresent .portQuiet p f else f) f

/-- A port after warm restart (R159). -/
def Port.restarted (q : Port) : Port :=
  { q with assembly := .outside, state := .active, score := 0, recovery := 0, tx := [], waiting := [],
           runOpen := false }

/-- The link's part (R159). -/
def Link.restarted (l : Link) : Link :=
  { l with ports := l.ports.map Port.restarted, hold := none, restartPending := false }

/-- The vend controller's part (R73). -/
def Vend.restarted (v : Vend) : Vend :=
  let aborted := (v.queue.find? (·.driving)).map fun e =>
    ({ tag := e.tag, selection := e.selection, funds := e.funds, outcome := .aborted, cause := none }
      : LastOutcome)
  { v with queue := [], sales := .service, lastOutcome := aborted <|> v.lastOutcome }

/-- A claim that waited becomes ABSENT; a grant is kept (R106). -/
def Claim.restarted (c : Claim) : Claim := if c.state = .waiting then Reset.claim else c

/-- The supply arbiter's part; the vend grant is released, and the wait time stops where it is (R106,
log entry 36). -/
def Supply.restarted (p : Supply) : Supply :=
  { p with vend := Reset.claim, compressor := p.compressor.restarted, deferring := false,
           heater := p.heater.restarted }

/-- The session after warm restart: whether a card-funded entry was DRIVING decides (R25). -/
def Credit.restarted (driving : Bool) (c : Credit) : Credit :=
  let t := { c with committed := 0, cardCommitted := 0 }
  if driving = true ∧ c.session = .opened then t else { t with session := .none, funds := none }

/-- The credit unit's part (R25). The lever's debounce starts again: no press is taken before the lever has
been seen released (R21, log entry 10). -/
def Money.restarted (driving : Bool) (m : Money) : Money :=
  { m with
    credit := m.credit.restarted driving
    escrow := match m.escrow.state with
      | .decidedReturn => Reset.money.escrow
      | .none | .decidedStack | .uncertain => m.escrow
    leverArmed := false }

/-- The coin path unit's part: engine IDLE, in-flight list empty, flaps at their targets, the accept set
"not yet sent" (R35, R46, R50). -/
def coinsRestarted (s : State) : Coins :=
  { s.coins with
    engine := Reset.engine
    inflight := []
    tubes := Vector.ofFn fun t => { s.coins.tubes[t] with flap := flapTarget t s }
    lastAccept := none }

/-- Whether a card-funded entry is DRIVING (R25). -/
def cardDriving (v : Vend) : Bool := v.queue.any fun e => e.driving && decide (e.funds = .card)

/-- Every block acts on its own state, and the event queue then holds RESTART alone (R180). -/
def restartBlocks (s : State) : State :=
  { s with
    money := s.money.restarted (cardDriving s.vend)
    coins := coinsRestarted s
    vend := s.vend.restarted
    drive := s.drive.idle
    supply := s.supply.restarted
    link := s.link.restarted
    faults := endQuietConditions s s.faults
    events := { queue := [{ code := .restart, subject := 0, value := 0, time := stamp s }], lost := 0 } }

/-- The refrigeration controller places again what waited (R106, R128). -/
def placeAgain (old s : State) : State :=
  let t := if old.supply.compressor.state = .waiting then placeCompressor s else s
  if old.supply.heater.state = .waiting then placeHeater t else consider t

/-- What follows the restart: claims, assurance, accept set, and a change run when Q is above 0
(R46, R48, R50, R106). -/
def warmRestart (s : State) : State :=
  start (recomputeAccept (evaluateAssurance (placeAgain s (restartBlocks s))))

end Sys2Proof.Machine
end

