-- ==== Sys2Proof/Machine/Payments.lean ====
section
/-! DEFINITION. The frames of the payment peripherals and the door and lever, as their unit takes them
(R4 to R15, R21, R56). -/

namespace Sys2Proof.Machine

/-- COIN-IN (R4). -/
def coinIn (cls : Byte) (s : State) : State :=
  activity .coin
    (match readFin 16 cls with
     | none => raise .coinUnknown cls 0 s
     | some c =>
       if s.coins.table[c].value = 0 then raise .coinUnknown cls 0 s
       else creditOr cls s.coins.table[c].value (route c s.coins.table[c].value) s)

/-- The smallest price above 0 among the selections that pass checks 2 to 5 (R8). -/
def cheapest (s : State) : Option Nat :=
  ((s.vend.selections.toList.filter fun x => vendable x s && decide (0 < x.price)).map (·.price)).min?

/-- The change test of a note of value w (R8). -/
def changeTest (w : Nat) (s : State) : Bool :=
  match cheapest s with
  | none => true
  | some p =>
    if s.money.credit.cash.toNat + w ≤ p then true
    else decide ((payoutPlan [] (s.money.credit.cash.toNat + w - p) s).2 = 0)

/-- The value taken for a note class, 0 above 7 (R7). -/
def noteValue (n : Byte) (s : State) : Nat :=
  match readFin 8 n with
  | none => 0
  | some i => s.money.notes[i].value

/-- Whether a note is decided STACK (R7). -/
def noteAccepted (n : Byte) (s : State) : Bool :=
  match readFin 8 n with
  | none => false
  | some i =>
    let e := s.money.notes[i]
    decide (s.vend.sales = .selling) && e.enabled && decide (e.value ≠ 0)
      && decide (s.money.credit.cash.toNat + e.value ≤ s.money.credit.limit)
      && (!e.changeTest || changeTest e.value s)
      && !aboveCeiling e.value s.money.credit

/-- The escrow record takes a decision (R7). -/
def decideNote (state : EscrowState) (n : Byte) (s : State) : State :=
  s.mapMoney fun m =>
    { m with escrow := { state := state, cls := n, value := noteValue n s, timerMs := escrowMs } }

/-- NOTE-HELD (R7, R9). -/
def noteHeld (n : Byte) (s : State) : State :=
  activity .note
    (if s.money.escrow.state = .none then
      if noteAccepted n s then sendOwn .noteReader 0x68 [n] (decideNote .decidedStack n s)
      else sendOwn .noteReader 0x69 [n] (decideNote .decidedReturn n s)
    else sendOwn .noteReader 0x69 [n] s)

/-- The credit of a stacked note, by the value in the escrow record; CREDIT-CEILING carries 16 plus the
recorded class, not the class of the frame (R2, R10; log entry 37). -/
def creditStacked (s : State) : State :=
  creditOr (16 + s.money.escrow.cls) s.money.escrow.value id (clearEscrow s)

/-- NOTE-STACKED (R10). -/
def noteStacked (n : Byte) (s : State) : State :=
  match s.money.escrow.state with
  | .decidedStack => creditStacked s
  | .uncertain =>
    creditStacked (raise .noteLate s.money.escrow.cls (amount s.money.escrow.value) s)
  | .decidedReturn => raise .noteUnexpected n 0 (clearEscrow s)
  | .none => raise .noteUnexpected n 0 s

/-- The expiry of the escrow timer (R11). -/
def escrowExpires (s : State) : State :=
  match s.money.escrow.state with
  | .decidedStack =>
    raise .noteUncertain s.money.escrow.cls (amount s.money.escrow.value)
      (s.mapMoney fun m => { m with escrow := { m.escrow with state := .uncertain, timerMs := 0 } })
  | .decidedReturn => clearEscrow s
  | .none | .uncertain => s

/-- FUNDS (R12). -/
def fundsReported (a : Half) (s : State) : State :=
  let w : Word := a.setWidth 32
  activity .card
    (match s.money.credit.session with
     | .none =>
       raise .cardOpen 0 w
         (s.mapCredit fun c => { c with session := .opened, funds := some w, cardCommitted := 0 })
     | .opened =>
       if s.money.credit.cardCommitted = 0 then
         raise .cardOpen 0 w (s.mapCredit fun c => { c with funds := some w })
       else raise .fundsIgnored 0 w s
     | .ending => raise .fundsIgnored 0 w s)

/-- SESSION-END (R13). -/
def sessionEnds (s : State) : State :=
  activity .card
    (if s.money.credit.session = .opened then
      let t := cancelWhere (fun e => decide (e.funds = .card)) .cardEnd s
      if cardDriving t.vend then t.mapCredit fun c => { c with session := .ending }
      else closeSession t
    else s)

/-- The settlement record with a tag (R15). -/
def findSettlement (tag : Byte) (m : Money) : Option Settlement :=
  m.settlements.find? fun r => r.tag == tag

/-- Whether a frame is the SETTLE of the settlement record with a tag (R14, R163). -/
def isSettleOf (tag : Byte) (f : Frame) : Bool := f.type == typeSettle && f.payload.head? == some tag

/-- A port's pending list without the SETTLE of a settlement record (R152). -/
def Port.withoutSettle (tag : Byte) (q : Port) : Port :=
  { q with waiting := q.waiting.filter fun f => !isSettleOf tag f }

/-- A settlement record leaves the list, and a SETTLE of it that still waits leaves its pending list with it,
so that no list holds more SETTLE frames than there are records; one that is in a transmit queue already is
sent (R15, R16, R152; log entry 45). -/
def dropSettlement (r : Settlement) (s : State) : State :=
  (s.mapMoney fun m => { m with settlements := m.settlements.erase r }).mapLink fun l =>
    { l with ports := l.ports.map (Port.withoutSettle r.tag) }

/-- SETTLE-ACK (R15). -/
def settleAcked (tag : Byte) (s : State) : State :=
  match findSettlement tag s.money with
  | none => raise .settleUnknown tag 0 s
  | some r =>
    match r.state with
    | .sent => dropSettlement r s
    | .unconfirmed => raise .settleLate tag (amount r.amount) (dropSettlement r s)

/-- A settlement record becomes UNCONFIRMED (R15). -/
def unconfirm (r : Settlement) (s : State) : State :=
  raise .settleUnconfirmed r.tag (amount r.amount)
    (s.mapMoney fun m =>
      { m with settlements := m.settlements.map fun x =>
          if x = r then { x with state := .unconfirmed, timerMs := 0 } else x })

/-- The taken door state changes (R55, R56). -/
def doorTaken (opened : Bool) (s : State) : State :=
  activity .door (recomputeAccept (suspendCheck (s.mapVend fun v => { v with doorOpen := opened })))

end Sys2Proof.Machine
end

