-- ==== Sys2Proof/Machine/Records.lean ====
section
/-! DEFINITION. What TABLE-READ and RECORD-READ return (R160, R165, R176, R177). An item whose reading
the spec does not state is an opaque constant of Config (log entry 16). -/

namespace Sys2Proof.Machine

/-- An unstated item in one byte, for the number the model holds for it. -/
def unstated8 (site : Config.Site) (n : Nat) : Byte := (Config.unstated site n).setWidth 8

/-- An unstated item in two bytes. -/
def unstated16 (site : Config.Site) (n : Nat) : List Byte :=
  bytes16 ((Config.unstated site n).setWidth 16)

/-- A list of varying length: a count byte and its entries (R160). -/
def counted {α : Type} (entry : α → List Byte) (l : List α) : List Byte :=
  byteOf l.length :: l.flatMap entry

/-! ## Table entries (R176) -/

/-- A selection entry with its kept fields (R51, R53). -/
def selectionBytes (x : Selection) : List Byte :=
  [yesNo x.enabled] ++ halfOf x.price
    ++ [x.kind.code, byteOf x.motorA.row, byteOf x.motorA.col]
    ++ (match x.motorB with
        | none => [0xFF, 0xFF]
        | some c => [byteOf x.motorA.row, byteOf c])
    ++ [byteOf x.turns, byteOf x.runTime, byteOf x.retries, firstIf x.verify, yesNo x.continuous,
        yesNo x.trace, zoneCode x.zone, yesNo x.empty]
    ++ halfOf x.vendCount ++ [byteOf x.failCount]

/-- A coin table entry (R26). -/
def coinBytes (e : CoinEntry) : List Byte := halfOf e.value ++ [e.policy.code, tubeCode e.tube]

/-- A note table entry (R5). -/
def noteBytes (e : NoteEntry) : List Byte := halfOf e.value ++ [yesNo e.enabled, firstIf e.changeTest]

/-- The assigned class of a tube (R165). -/
def assignedByte (c : Option (Fin 16)) : Byte := (c.map fun k => byteOf k).getD 0xFF

/-- A tube configuration (R27). -/
def tubeBytes (t : Tube) : List Byte :=
  [assignedByte t.cls, byteOf t.capacity, byteOf t.fullLevel]

/-- A node table entry (R154). -/
def nodeBytes (n : Node) : List Byte := [yesNo n.valid, n.node, byteOf n.port, n.role.code]

/-- A disposition table entry (R156). -/
def dispositionBytes (d : Disposition) : List Byte :=
  [yesNo d.enabled, d.type, d.ports.setWidth 8, d.dest.code, d.action.code]

/-- A motor record (R92). -/
def motorBytes (i : Fin 80) (s : State) : List Byte :=
  [motorStateCode i s.faults, s.drive.lastDrive[i]]

/-- The sale hold settings of a zone (R129). -/
def holdBytes (h : Hold) : List Byte := [yesNo h.enabled] ++ signedOf h.limit ++ halfOf h.delay

/-- The economy settings (R134). -/
def economyBytes (e : Economy) : List Byte :=
  [e.mask.setWidth 8] ++ halfOf e.dimDelay ++ halfOf e.economyDelay
    ++ [byteOf e.dimLevel, byteOf e.offset]

/-- A schedule window (R141). -/
def windowBytes (w : Window) : List Byte :=
  [yesNo w.enabled, w.days.setWidth 8] ++ halfOf w.startMinute ++ halfOf w.endMinute

/-- The entry of a settings table, whose index is 0. -/
def settings (index : Byte) (b : List Byte) : Option (List Byte) := if index = 0 then some b else none

/-- The entry TABLE-READ returns; none for a table or an index out of range (R165, R176). -/
def tableEntry (code index : Byte) (s : State) : Option (List Byte) :=
  match code.toNat with
  | 0x00 => (readFin 96 index).map fun i => selectionBytes s.vend.selections[i]
  | 0x01 => (readFin 16 index).map fun i => coinBytes s.coins.table[i]
  | 0x02 => (readFin 8 index).map fun i => noteBytes s.money.notes[i]
  | 0x03 => (readFin 6 index).map fun i => tubeBytes s.coins.tubes[i]
  | 0x04 => (readFin 16 index).map fun i => nodeBytes s.link.nodes[i]
  | 0x05 => (readFin 32 index).map fun i => dispositionBytes s.link.dispositions[i]
  | 0x06 => (readFin 12 index).map fun i => [s.faults.classes[i].code]
  | 0x07 => settings index (halfOf s.money.credit.limit ++ [s.money.credit.vendMode.code])
  | 0x08 => settings index (byteOf s.coins.allowance :: halfOf s.coins.ceiling)
  | 0x09 => settings index
      [byteOf s.supply.budget, byteOf s.supply.motorCost, byteOf s.supply.startCost,
       byteOf s.supply.runCost, byteOf s.supply.heaterCost]
  | 0x0A => settings index
      (halfOf s.drive.settings.threshold ++ halfOf s.drive.settings.stallMs
        ++ [s.drive.settings.form.code, byteOf s.drive.settings.number])
  | 0x0B => (readFin 80 index).map fun i => motorBytes i s
  | 0x0C => (readFin 2 index).map fun i =>
      signedOf s.cooling.zones[i].setpoint ++ [byteOf s.cooling.zones[i].differential]
  | 0x0D => settings index
      ([byteOf s.cooling.limpOnMin, byteOf s.cooling.limpOffMin, byteOf s.cooling.intervalH]
        ++ signedOf s.cooling.terminate)
  | 0x0E => (readFin 2 index).map fun i => holdBytes s.cabinet.holds[i]
  | 0x0F => settings index (economyBytes s.cabinet.economy)
  | 0x10 => (readFin 8 index).map fun i => windowBytes s.cabinet.schedule[i]
  | _ => none

/-! ## Record blocks (R177) -/

/-- The credit record (R1). -/
def creditBlock (c : Credit) : List Byte :=
  bytes32 c.cash ++ bytes32 c.committed ++ bytes32 c.payout
    ++ bytes32 (c.funds.getD (Config.unstated .fundsAbsent 0))
    ++ bytes32 c.cardCommitted ++ [c.session.code] ++ halfOf c.limit ++ [c.vendMode.code]

/-- The totals (R3). -/
def totalsBlock (t : Totals) : List Byte :=
  bytes32 t.deposited ++ bytes32 t.sales ++ bytes32 t.paid ++ bytes32 t.written
    ++ bytes32 t.cardSales ++ bytes32 t.manual ++ bytes32 t.vends

/-- One tube, with its flap state and target (R27, R30). -/
def tubeBlock (t : TubeId) (s : State) : List Byte :=
  let x := s.coins.tubes[t]
  tubeBytes x ++ [byteOf x.count, yesNo (jammed t s), byteOf x.overfill, x.flap.code,
    (flapTarget t s).code]

/-- State of the payout engine (R39). -/
def engineCode (e : Engine) : Byte :=
  match e.phase with
  | .idle => 0
  | .pulse => if e.manual then 4 else 1
  | .exitWait => if e.manual then 4 else 2
  | .gap => if e.manual then 4 else 3

/-- The payout engine and its run record (R39). The set of excluded tubes takes one byte (log entry 48). -/
def engineBlock (e : Engine) : List Byte :=
  [engineCode e] ++ counted (fun (p : TubeId × Nat) => [byteOf p.1, byteOf p.2]) e.plan
    ++ bytes32 e.remainder
    ++ [(e.current.map fun t => byteOf t).getD (unstated8 .noTube 0),
        unstated8 .tubeSet (((List.finRange 6).filter fun t => e.excluded.contains t).foldl
          (fun n t => n + 2 ^ t.val) 0)]
    ++ bytes32 e.paid ++ [yesNo e.startWaiting]

/-- An in-flight record (R31). -/
def flightBytes (r : Flight) : List Byte :=
  [byteOf r.cls] ++ halfOf r.value
    ++ [(r.chute.map fun t => byteOf t).getD (unstated8 .chuteNone 0), tubeCode r.route]
    ++ halfOf r.deadlineMs

/-- A probe channel (R108). -/
def probeBytes (p : Probe) : List Byte := signedOf p.raw ++ signedOf p.filtered ++ [p.state.code]

/-- A zone with its probe channel and hold record (R108, R110, R129). The time left in the limp phase takes two
bytes (log entry 40). -/
def zoneBlock (z : ZoneId) (s : State) : List Byte :=
  let x := s.cooling.zones[z]
  let h := s.cabinet.holds[z]
  signedOf x.setpoint ++ [byteOf x.differential] ++ signedOf x.effective
    ++ [firstIf x.demand, yesNo x.limp.isSome]
    ++ (match x.limp with
        | none => unstated8 .limpPhase 0 :: unstated16 .limpTime 0
        | some l => firstIf l.on :: unstated16 .limpTime l.leftMs)
    ++ [firstIf (damperOpen z s.cooling)] ++ probeBytes s.cooling.probes[airProbe z]
    ++ holdBytes h ++ halfOf h.accumulator ++ [firstIf h.held, h.cause.code]

/-- Compressor, defrost and fans (R115, R122, R123). The off, heat and drip timers are read as whole seconds
left, in two bytes (log entry 41), and the run accumulator stands once, among the compressor's fields (log
entry 42). A running fan is 0 and a fan that is off 1, as the relay and the heater of the block are (log entry
52). -/
def compressorBlock (s : State) : List Byte :=
  let c := s.cooling.compressor
  let d := s.cooling.defrost
  [c.state.code, firstIf c.relay]
    ++ (if c.state = .locked then halfOf (seconds c.offMs) else unstated16 .offTimer c.offMs)
    ++ (if c.relay then wordOf (seconds c.onMs) else bytes32 (Config.unstated .onTime c.onMs))
    ++ (if c.state = .running then wordOf (seconds c.runningMs)
        else bytes32 (Config.unstated .runningTime c.runningMs))
    ++ [yesNo c.noCool] ++ wordOf (seconds c.accumulatorMs)
    ++ [d.state.code, firstIf d.heater, s.supply.heater.state.code]
    ++ (if d.state = .heating then halfOf (seconds d.heatMs) else unstated16 .heatTimer d.heatMs)
    ++ halfOf (seconds d.heaterOnMs)
    ++ (if d.state = .dripping then halfOf (seconds d.dripMs) else unstated16 .dripTimer d.dripMs)
    ++ [firstIf (condenserFan s.cooling), firstIf (evaporatorFan s.cooling)]

/-- The cost or the held points of a claim (R107). -/
def claimPoints (c : Claim) : Byte :=
  match c.state with
  | .absent => unstated8 .claimPoints c.cost
  | .waiting => byteOf c.cost
  | .granted => byteOf c.held

/-- The supply arbiter (R107). The wait time is a time in seconds and so takes two bytes (R160). -/
def supplyBlock (p : Supply) : List Byte :=
  [byteOf p.budget, byteOf (pointsGranted p), byteOf (freePoints p),
   p.vend.state.code, claimPoints p.vend,
   if p.vend.state = .absent then unstated8 .claimTag p.vendTag.toNat else p.vendTag,
   p.compressor.state.code, claimPoints p.compressor] ++ halfOf (min 255 (seconds p.waitMs))
    ++ [yesNo p.deferring, p.heater.state.code, claimPoints p.heater]

/-- Economy and time (R134, R143). -/
def economyBlock (c : Cabinet) : List Byte :=
  let e := c.economy
  [e.state.code] ++ wordOf (seconds e.quietMs) ++ [yesNo e.inWindow, wakeCode e.wakeCause]
    ++ bytes32 e.wakeTime ++ [byteOf e.lamp] ++ wordOf c.clock.second ++ [yesNo c.clock.valid]

/-- A pending send (R160). -/
def pendingBytes (f : Frame) : List Byte := [f.dest, f.type, byteOf f.payload.length] ++ f.payload

/-- A port (R165). -/
def portBlock (p : PortId) (s : State) : List Byte :=
  let q := s.port p
  [q.state.code, byteOf q.score, byteOf q.recovery, byteOf q.tx.length, byteOf q.overflow,
   byteOf q.unroutable] ++ counted pendingBytes q.waiting ++ [s.link.ownNode]

/-- A place of the fault list, with the list's state (R169). The presence byte stands first and the state last
(log entry 51). -/
def faultBlock (p : Fin 24) (f : FaultList) : List Byte :=
  (match f.places[p] with
   | none => [0]
   | some r =>
     [1, byteOf r.kind.index, byteOf r.subject] ++ bytes32 r.firstSeen
       ++ [byteOf r.count, firstIf r.present, unstated8 .faultOrder r.storeOrder,
           unstated8 .faultOrder r.reportOrder])
    ++ [yesNo f.overflow]

/-- A position of the settlement list (R14). -/
def settlementBlock (r : Option Settlement) : List Byte :=
  match r with
  | none => [0]
  | some r =>
    [1, r.tag, byteOf r.selection] ++ halfOf r.amount ++ [r.state.code]
      ++ unstated16 .settleTimer r.timerMs

/-- The claim of the entry at a position: the head's is the vend claim's, others have none (R62,
R107). -/
def entryClaim (position : Nat) (p : Supply) : ClaimState :=
  if position = 0 then p.vend.state else .absent

/-- A position of the vend queue (R62). WAITING is 0 and DRIVING is 1 (log entry 43). -/
def entryBlock (position : Nat) (s : State) : List Byte :=
  match s.vend.queue[position]? with
  | none => [0]
  | some e =>
    [1, e.tag, byteOf e.selection] ++ halfOf e.price
      ++ [e.funds.code, yesNo e.driving, (entryClaim position s.supply).code]

/-- The number the model holds for a drive set: 0 when empty, else 1 plus row and columns. -/
def driveSetNumber (d : Driver) : Nat :=
  match driveSet d with
  | none => 0
  | some (r, cs) => 1 + r.val * 256 + cs.foldl (fun n c => n + 2 ^ c.val) 0

/-- The last-outcome record (R63). -/
def outcomeBytes (o : Option LastOutcome) : List Byte :=
  match o with
  | none => (List.range 5).map fun i => unstated8 .noOutcome i
  | some o => [o.tag, byteOf o.selection, o.funds.code, o.outcome.code, cancelCode o.cause]

/-- Sales state, cause set, door, drive phase and set, last outcome (R63, R74). The drive set takes two bytes
behind the phase (log entry 39). -/
def salesBlock (s : State) : List Byte :=
  [s.vend.sales.code, byteOf (causeCode s), unstated8 .door (if s.vend.doorOpen then 1 else 0),
   s.drive.phase.code] ++ unstated16 .driveSet (driveSetNumber s.drive)
    ++ outcomeBytes s.vend.lastOutcome

/-- A trace block: the header and 16 samples, 0 beyond the samples taken (R95). -/
def traceBlock (b : Nat) (t : Trace) : List Byte :=
  (if t.state = .free then
      [t.state.code, unstated8 .traceHeader 0, unstated8 .traceHeader 1]
        ++ unstated16 .traceHeader 2
    else [t.state.code, t.tag, byteOf t.motor] ++ halfOf t.intervalMs)
    ++ [byteOf t.samples.length] ++ (List.range 16).map fun j => (t.samples[16 * b + j]?).getD 0

/-- The block RECORD-READ returns; none for a record or a block out of range (R165, R177). -/
def recordBlock (code block : Byte) (s : State) : Option (List Byte) :=
  let b := block.toNat
  match code.toNat with
  | 0x00 => if b = 0 then some (creditBlock s.money.credit) else none
  | 0x01 => if b = 0 then some (totalsBlock s.money.totals) else none
  | 0x02 => if b = 6 then some (engineBlock s.coins.engine)
      else (readFin 6 block).map fun t => tubeBlock t s
  | 0x03 => if b = 0 then some (counted flightBytes s.coins.inflight) else none
  | 0x04 => if b = 2 then some (probeBytes s.cooling.probes[(2 : Fin 3)])
      else (readFin 2 block).map fun z => zoneBlock z s
  | 0x05 => if b = 0 then some (compressorBlock s)
      else if b = 1 then some (supplyBlock s.supply) else none
  | 0x06 => if b = 0 then some (economyBlock s.cabinet) else none
  | 0x07 => (readFin 4 block).map fun p => portBlock p s
  | 0x08 => (readFin 24 block).map fun p => faultBlock p s.faults
  | 0x09 => if b < 4 then some (settlementBlock s.money.settlements[b]?) else none
  | 0x0A => if b = 4 then some (salesBlock s)
      else if b < 4 then some (entryBlock b s) else none
  | 0x0B => if b < 4 then some (traceBlock b s.drive.trace) else none
  | _ => none

/-- The data of a REPLY, at most 38 bytes; longer data is an opaque function of Config (R163, log entry
17). -/
def fitted (data : List Byte) : List Byte :=
  if data.length ≤ 38 then data else (Config.overlong data).take 38

end Sys2Proof.Machine
end

