-- ==== Sys2Proof/Machine/Writes.lean ====
section
/-! DEFINITION. TABLE-WRITE: the checks of each table in the order of its owning rule, and what the
owning block does on DONE (R175). -/

namespace Sys2Proof.Machine

/-- What a request leaves behind: the state, and the REPLY's status, data and kind (R174). -/
structure Answer where
  state : State
  status : Status
  data : List Byte
  kind : TxKind

/-- A refused request changes no state (R174). -/
def refused (status : Status) (s : State) : Answer :=
  { state := s, status := status, data := [], kind := .reply }

/-- DONE with data. -/
def done (data : List Byte) (s : State) : Answer :=
  { state := s, status := .done, data := data, kind := .reply }

/-- DONE of a TABLE-WRITE, or RANGE when the entry did not read (R175). -/
def written (table index : Byte) (new : Option State) (s : State) : Answer :=
  match new with
  | none => refused .range s
  | some t => done [table, index] t

/-- The tables restricted to OFFLINE and SERVICE refuse with MODE (R175). -/
def restricted (s : State) : Bool :=
  match s.vend.sales with
  | .selling | .suspended => true
  | .offline | .service => false

/-- The index of a settings table is 0 (R175). -/
def readZero (b : Byte) : Option Unit := if b = 0 then some () else none

/-! ## Selection table (R52) -/

/-- Motor B of a written entry: absent but for TWIN-SPIRAL, which needs another column of the row of
motor A (R51, R52). -/
def readMotorB (kind : DriveKind) (a : Motor) (row col : Byte) : Option (Option (Fin 8)) :=
  match kind with
  | .spiral | .timed => some none
  | .twinSpiral =>
    match readFin 10 row, readFin 8 col with
    | some r, some c => if r = a.row ∧ c ≠ a.col then some (some c) else none
    | _, _ => none

/-- The entry a write asks for, with the kept fields of the old one; none for a field out of range
(R51, R52). -/
def readSelection (e : SelectionEntry) (old : Selection) : Option Selection := do
  let enabled ← readYesNo e.enabled
  let kind ← readDriveKind e.kind
  let row ← readFin 10 e.rowA
  let col ← readFin 8 e.colA
  let motorB ← readMotorB kind { row := row, col := col } e.rowB e.colB
  let turns ← readRange 1 3 e.turns.toNat
  let runTime ← readRange 1 100 e.runTime.toNat
  let retries ← readRange 0 2 e.retries.toNat
  let verify ← readFirst e.verify
  let continuous ← readYesNo e.continuous
  let trace ← readYesNo e.trace
  let zone ← readZone e.zone
  return { old with
    enabled := enabled, price := e.price.toNat, kind := kind,
    motorA := { row := row, col := col }, motorB := motorB, turns := turns, runTime := runTime,
    retries := retries, verify := verify, continuous := continuous, trace := trace, zone := zone }

/-- TABLE-WRITE of the selection table (R52). -/
def writeSelection (index : Byte) (e : SelectionEntry) (s : State) : Answer :=
  if restricted s then refused .mode s
  else
    match readFin 96 index with
    | none => refused .range s
    | some i =>
      match readSelection e s.vend.selections[i] with
      | none => refused .range s
      | some x =>
        if s.vend.queue.any fun q => q.driving && decide (q.selection = i) then refused .busy s
        else done [0x00, index] (s.mapSelection i fun _ => x)

/-! ## Coin, note and tube tables -/

/-- TABLE-WRITE of the coin table (R26). -/
def writeCoin (index : Byte) (value : Half) (policy tube : Byte) (s : State) : Answer :=
  if restricted s then refused .mode s
  else
    match readFin 16 index, readRange 0 5000 value.toNat, readPolicy policy, readCoinTube tube with
    | some i, some v, some p, some t =>
      if s.coins.engine.phase ≠ .idle then refused .busy s
      else done [0x01, index] (recomputeAccept (evaluateAssurance (s.mapCoins fun c =>
        { c with table := c.table.set i { value := v, policy := p, tube := t } })))
    | _, _, _, _ => refused .range s

/-- TABLE-WRITE of the note table (R5). -/
def writeNote (index : Byte) (value : Half) (enabled changeTest : Byte) (s : State) : Answer :=
  if restricted s then refused .mode s
  else
    written 0x02 index (do
      let i ← readFin 8 index
      let v ← readRange 0 60000 value.toNat
      let e ← readYesNo enabled
      let c ← readFirst changeTest
      return s.mapMoney fun m =>
        { m with notes := m.notes.set i { value := v, enabled := e, changeTest := c } }) s

/-- TABLE-WRITE of the tube configuration (R27). -/
def writeTube (index cls capacity fullLevel : Byte) (s : State) : Answer :=
  if restricted s then refused .mode s
  else
    match readFin 6 index, readAssigned cls, readRange 1 250 capacity.toNat,
        readRange 1 capacity.toNat fullLevel.toNat with
    | some t, some k, some cap, some full =>
      if s.coins.engine.phase ≠ .idle then refused .busy s
      else if cap < s.coins.tubes[t].count then refused .conflict s
      else done [0x03, index] (tubeChanged t (s.mapTube t fun x =>
        { x with cls := k, capacity := cap, fullLevel := full }))
    | _, _, _, _ => refused .range s

/-! ## Link tables -/

/-- What the accept set is sent to: the validator's node number and port (R50). -/
def validatorAt (l : Link) : Option (Byte × PortId) :=
  (roleEntry .coinValidator l).map fun n => (n.node, n.port)

/-- The pending ACCEPT-SET of a port is discarded (R152). -/
def Port.discardAccept (q : Port) : Port :=
  { q with waiting := q.waiting.filter fun f => f.type != typeAcceptSet }

/-- What follows a write that adds, moves, renumbers or removes the COIN-VALIDATOR entry (R50, R152). -/
def validatorChanged (old new : Option (Byte × PortId)) (s : State) : State :=
  if old = new then s
  else
    let t := match old with
      | none => s
      | some a => s.mapPort a.2 Port.discardAccept
    recomputeAccept
      (if new.isSome then t.mapCoins fun c => { c with lastAccept := none } else t)

/-- TABLE-WRITE of the node table (R154). -/
def writeNode (index valid node port role : Byte) (s : State) : Answer :=
  if restricted s then refused .mode s
  else
    written 0x04 index (do
      let i ← readFin 16 index
      let v ← readYesNo valid
      let n ← readRange 1 31 node.toNat
      let p ← readFin 4 port
      let r ← readRole role
      let t := s.mapLink fun l =>
        { l with nodes := l.nodes.set i { valid := v, node := byteOf n, port := p, role := r } }
      return validatorChanged (validatorAt s.link) (validatorAt t.link) t) s

/-- TABLE-WRITE of the disposition table (R156). -/
def writeDisposition (index enabled type ports dest action : Byte) (s : State) : Answer :=
  written 0x05 index (do
    let i ← readFin 32 index
    let e ← readYesNo enabled
    let p ← readPorts ports
    let d ← readDest dest
    let a ← readAction action
    let new : Disposition := { enabled := e, type := type, ports := p, dest := d, action := a }
    return s.mapLink fun l => { l with dispositions := l.dispositions.set i new }) s

/-- TABLE-WRITE of the fault disposition table (R167). -/
def writeFaultClass (index cls : Byte) (s : State) : Answer :=
  written 0x06 index (do
    let k ← readFin 12 index
    let c ← readClass cls
    return writeClass k c s) s

/-! ## Settings -/

/-- TABLE-WRITE of the credit settings (R23). -/
def writeCreditSettings (index : Byte) (limit : Half) (mode : Byte) (s : State) : Answer :=
  written 0x07 index (do
    let _ ← readZero index
    let l ← readRange 0 60000 limit.toNat
    let m ← readVendMode mode
    return recomputeAccept (s.mapCredit fun c => { c with limit := l, vendMode := m })) s

/-- TABLE-WRITE of the change settings (R36, R48). -/
def writeChangeSettings (index allowance : Byte) (ceiling : Half) (s : State) : Answer :=
  written 0x08 index (do
    let _ ← readZero index
    let a ← readRange 1 40 allowance.toNat
    let c ← readRange 0 2000 ceiling.toNat
    return evaluateAssurance (s.mapCoins fun k => { k with allowance := a, ceiling := c })) s

/-- The largest single cost (R98). -/
def largestCost (motor start heater : Nat) : Nat := max (2 * motor) (max start heater)

/-- The motors of the entry the vend claim stands for, by which it is repriced (R98). -/
def headMotors (s : State) : Nat :=
  match s.vend.queue with
  | [] => 1
  | e :: _ => s.vend.selections[e.selection].motorCount

/-- The supply settings are replaced and every waiting claim is repriced (R98). -/
def repriceSupply (budget motor start run heater : Nat) (s : State) : State :=
  consider (s.mapSupply fun p =>
    { p with budget := budget, motorCost := motor, startCost := start, runCost := run,
             heaterCost := heater,
             vend := p.vend.repriced (headMotors s * motor),
             compressor := p.compressor.repriced start,
             heater := p.heater.repriced heater })

/-- TABLE-WRITE of the supply settings (R98). -/
def writeSupply (index budget motor start run heater : Byte) (s : State) : Answer :=
  if restricted s then refused .mode s
  else
    match readZero index, readRange 1 31 budget.toNat, readRange 1 15 motor.toNat,
        readRange 1 31 start.toNat, readRange 1 31 run.toNat, readRange 1 31 heater.toNat with
    | some _, some b, some m, some st, some r, some h =>
      if st < r ∨ b < largestCost m st h then refused .range s
      else if b < pointsGranted s.supply then refused .busy s
      else done [0x09, index] (repriceSupply b m st r h s)
    | _, _, _, _, _, _ => refused .range s

/-- A number within a range and a multiple of its step (R86). -/
def readStep (lo hi step n : Nat) : Option Nat :=
  if lo ≤ n ∧ n ≤ hi ∧ n % step = 0 then some n else none

/-- The largest trace interval number of a form (R86). -/
def formLimit (f : TraceForm) : Nat :=
  match f with
  | .coarse => 5
  | .fine => 31

/-- The drive settings a write asks for (R86). -/
def readDriveSettings (threshold time : Half) (form number : Byte) : Option DriveSettings := do
  let t ← readStep 100 2550 10 threshold.toNat
  let m ← readStep 50 1000 10 time.toNat
  let f ← readForm form
  let n ← readRange 0 (formLimit f) number.toNat
  return { threshold := t, stallMs := m, form := f, number := n }

/-- TABLE-WRITE of the drive settings (R86). -/
def writeDrive (index : Byte) (threshold time : Half) (form number : Byte) (s : State) : Answer :=
  if restricted s then refused .mode s
  else
    match readZero index, readDriveSettings threshold time form number with
    | some _, some d =>
      if s.vend.queue.any (·.driving) then refused .busy s
      else done [0x0A, index] (s.mapDrive fun v => { v with settings := d })
    | _, _ => refused .range s

/-- TABLE-WRITE of the zone table (R110). -/
def writeZone (index : Byte) (setpoint : Half) (differential : Byte) (s : State) : Answer :=
  written 0x0C index (do
    let z ← readFin 2 index
    let p ← readSigned (-50) 200 setpoint
    let d ← readRange 5 50 differential.toNat
    return formSetpoint z (s.mapZone z fun x => { x with setpoint := p, differential := d })) s

/-- The refrigeration settings are replaced; a lowered interval may make the defrost PENDING (R110,
R123). -/
def setRefrigeration (on off interval : Nat) (terminate : Int) (s : State) : State :=
  let t := s.mapCooling fun c =>
    { c with limpOnMin := on, limpOffMin := off, intervalH := interval, terminate := terminate }
  if t.cooling.defrost.state = .none ∧ intervalReached t.cooling = true then enterPending 0 t else t

/-- TABLE-WRITE of the refrigeration settings (R110). -/
def writeRefrigeration (index limpOn limpOff interval : Byte) (terminate : Half) (s : State) : Answer :=
  written 0x0D index (do
    let _ ← readZero index
    let a ← readRange 1 30 limpOn.toNat
    let b ← readRange 1 30 limpOff.toNat
    let i ← readRange 1 24 interval.toNat
    let t ← readSigned 0 300 terminate
    return setRefrigeration a b i t s) s

/-- The hold record after a write (R132). -/
def Hold.rewritten (h : Hold) (enabled : Bool) (limit : Int) (delay : Nat) : Hold :=
  if enabled = true ∧ h.enabled = true then
    { h with limit := limit, delay := delay, accumulator := min h.accumulator delay }
  else
    { h with enabled := enabled, limit := limit, delay := delay, accumulator := 0, held := false }

/-- The sale hold settings of a zone are replaced, with the effects of R132. -/
def setHold (z : ZoneId) (enabled : Bool) (limit : Int) (delay : Nat) (s : State) : State :=
  let t := s.mapHold z fun h => h.rewritten enabled limit delay
  formSetpoint z
    (if enabled = false ∧ s.cabinet.holds[z].held = true then raise .zoneReleased (byteOf z) 1 t else t)

/-- TABLE-WRITE of the sale hold table (R129, R132). -/
def writeHold (index enabled : Byte) (limit delay : Half) (s : State) : Answer :=
  written 0x0E index (do
    let z ← readFin 2 index
    let e ← readYesNo enabled
    let l ← readSigned (-50) 300 limit
    let d ← readRange 60 7200 delay.toNat
    return setHold z e l d s) s

/-- The economy settings are replaced: lamp, setpoints, then the judgement of R136 (R134). -/
def setEconomy (mask : BitVec 6) (dim eco level offset : Nat) (s : State) : State :=
  judgeEconomy (formSetpoint 1 (formSetpoint 0 (s.mapEconomy fun e =>
    { e with mask := mask, dimDelay := dim, economyDelay := eco, dimLevel := level, offset := offset,
             lamp := if e.state = .dim then level else e.lamp })))

/-- TABLE-WRITE of the economy settings (R134). -/
def writeEconomy (index mask : Byte) (dim eco : Half) (level offset : Byte) (s : State) : Answer :=
  written 0x0F index (do
    let _ ← readZero index
    let m ← readMask mask
    let d ← readRange 10 3600 dim.toNat
    let e ← readRange 60 14400 eco.toNat
    let l ← readRange 0 100 level.toNat
    let o ← readRange 0 100 offset.toNat
    return setEconomy m d e l o s) s

/-- TABLE-WRITE of the schedule table (R141). -/
def writeSchedule (index enabled days : Byte) (startMinute endMinute : Half) (s : State) : Answer :=
  written 0x10 index (do
    let i ← readFin 8 index
    let e ← readYesNo enabled
    let d ← readDays days
    let a ← readRange 0 1439 startMinute.toNat
    let b ← readRange 0 1439 endMinute.toNat
    let new : Window := { enabled := e, days := d, startMinute := a, endMinute := b }
    return judgeWindow (s.mapCabinet fun c => { c with schedule := c.schedule.set i new })) s

/-! ## TABLE-WRITE (R175) -/

/-- TABLE-WRITE of the bytes after the table code: the length against the table's layout, then the
table's own checks (R174, R175). -/
def tableWrite (table : Byte) (rest : List Byte) (s : State) : Answer :=
  match table.toNat, rest with
  | 0x00, [i, en, p1, p2, k, ra, ca, rb, cb, t, rt, re, v, c, tr, z] =>
    writeSelection i
      { enabled := en, price := half p1 p2, kind := k, rowA := ra, colA := ca, rowB := rb,
        colB := cb, turns := t, runTime := rt, retries := re, verify := v, continuous := c,
        trace := tr, zone := z } s
  | 0x01, [i, v1, v2, p, t] => writeCoin i (half v1 v2) p t s
  | 0x02, [i, v1, v2, e, c] => writeNote i (half v1 v2) e c s
  | 0x03, [i, k, c, f] => writeTube i k c f s
  | 0x04, [i, v, n, p, r] => writeNode i v n p r s
  | 0x05, [i, e, t, p, d, a] => writeDisposition i e t p d a s
  | 0x06, [i, c] => writeFaultClass i c s
  | 0x07, [i, l1, l2, m] => writeCreditSettings i (half l1 l2) m s
  | 0x08, [i, a, c1, c2] => writeChangeSettings i a (half c1 c2) s
  | 0x09, [i, b, m, st, r, h] => writeSupply i b m st r h s
  | 0x0A, [i, t1, t2, m1, m2, f, n] => writeDrive i (half t1 t2) (half m1 m2) f n s
  | 0x0C, [i, p1, p2, d] => writeZone i (half p1 p2) d s
  | 0x0D, [i, a, b, h, t1, t2] => writeRefrigeration i a b h (half t1 t2) s
  | 0x0E, [i, e, l1, l2, d1, d2] => writeHold i e (half l1 l2) (half d1 d2) s
  | 0x0F, [i, m, d1, d2, e1, e2, l, o] => writeEconomy i m (half d1 d2) (half e1 e2) l o s
  | 0x10, [i, e, d, a1, a2, b1, b2] => writeSchedule i e d (half a1 a2) (half b1 b2) s
  | _, _ => refused .range s

end Sys2Proof.Machine
end

