-- ==== Sys2Proof/Machine/Responder.lean ====
section
/-! DEFINITION. The service responder (chapter 10): the service requests other than TABLE-WRITE, CANCEL
of the vend controller (R64), and the REPLY to each. -/

namespace Sys2Proof.Machine

/-! ## Requests -/

/-- TABLE-READ (R176). -/
def tableRead (table index : Byte) (s : State) : Answer :=
  match tableEntry table index s with
  | none => refused .range s
  | some b => done ([table, index] ++ b) s

/-- RECORD-READ (R177). -/
def recordRead (record block : Byte) (s : State) : Answer :=
  match recordBlock record block s with
  | none => refused .range s
  | some b => done ([record, block] ++ b) s

/-- The entry to SERVICE from SELLING or SUSPENDED, with its cancellation (R60). -/
def serviceEntered (s : State) : State := cancelWhere (fun _ => true) .service (enterSales .service s)

/-- OFFLINE or SERVICE is left after a passed consistency check (R53, R57). -/
def leaveIdleState (new : SalesState) (s : State) : State := enterSales new (clearEmpty s)

/-- DONE of MODE-SET carries the sales state after the request (R57). -/
def modeDone (s : State) : Answer := done [s.vend.sales.code] s

/-- A request that needs the consistency check (R57, R58). -/
def modeChecked (new : SalesState) (s : State) : Answer :=
  match inconsistency s with
  | some e => { state := s, status := .conflict, data := [e.1, e.2], kind := .reply }
  | none => modeDone (leaveIdleState new s)

/-- MODE-SET with target SERVICE (R57). -/
def modeService (s : State) : Answer :=
  match s.vend.sales with
  | .offline => modeChecked .service s
  | .service => modeDone s
  | .selling | .suspended => modeDone (serviceEntered s)

/-- MODE-SET with target SELLING (R57). -/
def modeSelling (s : State) : Answer :=
  match s.vend.sales with
  | .offline | .service => modeChecked (if noCause s then .selling else .suspended) s
  | .selling | .suspended => modeDone s

/-- MODE-SET (R57). -/
def modeSet (target : Byte) (s : State) : Answer :=
  match target.toNat with
  | 0 => modeService s
  | 1 => modeSelling s
  | _ => refused .range s

/-- TUBE-SET (R28). A flap change that waits goes on waiting, toward the target that R30 gives for the new count
(log entry 38). -/
def setTube (tube count : Byte) (s : State) : Answer :=
  if s.vend.sales ≠ .service then refused .mode s
  else
    match readFin 6 tube with
    | none => refused .range s
    | some t =>
      if s.coins.tubes[t].capacity < count.toNat then refused .range s
      else if s.coins.engine.phase ≠ .idle then refused .busy s
      else done [] (tubeChanged t (s.mapTube t fun x =>
        { x with count := count.toNat, overfill := 0 }))

/-- TUBE-DISPENSE (R45). -/
def dispense (tube coins : Byte) (s : State) : Answer :=
  if s.vend.sales ≠ .service then refused .mode s
  else
    match readFin 6 tube, readRange 1 50 coins.toNat with
    | some t, some n =>
      if s.coins.tubes[t].count < n then refused .range s
      else if s.coins.engine.phase ≠ .idle then refused .busy s
      else if tubeValue t s.coins = 0 then refused .conflict s
      else if jammed t s then refused .notReady s
      else done [] (s.mapEngine fun _ =>
        { manual := true, phase := .pulse, timerMs := pulseMs, plan := [(t, n)], remainder := 0,
          current := some t, excluded := [], paid := 0, startWaiting := false })
    | _, _ => refused .range s

/-- CREDIT-CLEAR (R24). -/
def clearCredit (s : State) : Answer :=
  if s.vend.sales ≠ .service then refused .mode s
  else if s.vend.queue ≠ [] then refused .busy s
  else done (bytes32 (available s.money.credit)) (writeOff s)

/-- SALE-RELEASE (R133). -/
def releaseSale (zone : Byte) (s : State) : Answer :=
  match readFin 2 zone with
  | none => refused .range s
  | some z =>
    let p := s.cooling.probes[airProbe z]
    if s.cabinet.holds[z].held = false then refused .conflict s
    else if p.state ≠ .valid ∨ s.cabinet.holds[z].limit < p.filtered then
      { state := s, status := .notReady, data := p.state.code :: signedOf p.filtered, kind := .reply }
    else done [] (raise .zoneReleased (byteOf z) 0
      (s.mapHold z fun h => { h with held := false, accumulator := 0 }))

/-- FAULT-CLEAR (R173). -/
def clearFault (index : Byte) (s : State) : Answer :=
  match readFin 24 index with
  | none => refused .range s
  | some p =>
    match s.faults.places[p] with
    | none => refused .conflict s
    | some r =>
      if r.present then
        { state := s, status := .notReady, data := [byteOf r.kind.index, byteOf r.subject],
          kind := .reply }
      else
        done [byteOf r.kind.index, byteOf r.subject, byteOf r.count] (removeFault p r s)

/-- SETTLE-CLEAR (R16). -/
def clearSettle (tag : Byte) (s : State) : Answer :=
  match findSettlement tag s.money with
  | none => refused .conflict s
  | some r =>
    match r.state with
    | .sent => refused .notReady s
    | .unconfirmed => done (byteOf r.selection :: halfOf r.amount) (dropSettlement r s)

/-- TIME-SET (R143). -/
def setTime (second : Word) (s : State) : Answer :=
  if weekSeconds ≤ second.toNat then refused .range s
  else done [] (judgeEconomy (judgeWindow (s.mapClock fun _ =>
    { valid := true, second := second.toNat, phaseMs := 0 })))

/-- TRACE-RELEASE (R95). -/
def releaseTrace (s : State) : Answer := done [] (s.mapDrive fun d => { d with trace := Reset.drive.trace })

/-- What PORT-RESTART does to the port (R178). -/
def restartPort (p : PortId) (s : State) : State :=
  match (s.port p).state with
  | .quiet => recover p s
  | .warned | .active => s.mapPort p fun q => { q with state := .active, score := 0 }

/-- PORT-RESTART (R178). -/
def portRestart (port : Byte) (s : State) : Answer :=
  match readFin 4 port with
  | none => refused .range s
  | some p => if p = 0 then refused .range s else done [(s.port p).state.code] (restartPort p s)

/-- DEFROST-NOW (R123). -/
def defrostNow (s : State) : Answer :=
  if s.cooling.defrost.state = .none then done [] (enterPending 1 s) else refused .busy s

/-- RESTART: the first one's REPLY brings the warm restart, a second one joins it (R179). -/
def restartAsked (s : State) : Answer :=
  if s.link.restartPending then done [] s
  else
    { state := s.mapLink fun l => { l with restartPending := true }, status := .done, data := [],
      kind := .restartReply }

/-- CANCEL (R64). -/
def cancelTag (tag : Byte) (s : State) : Answer :=
  if tag = 0xFF then
    done [byteOf (victims (fun _ => true) s).length] (cancelWhere (fun _ => true) .request s)
  else
    match s.vend.queue.find? fun e => e.tag == tag with
    | none => refused .conflict s
    | some e =>
      if e.driving then refused .busy s
      else done [1] (cancelWhere (fun x => x == e) .request s)

/-! ## Taking a request -/

/-- A service request: the length against its layout, then its own checks (R165, R174). -/
def serve (type : Byte) (payload : List Byte) (s : State) : Answer :=
  match type.toNat, payload with
  | 0x40, table :: rest => tableWrite table rest s
  | 0x41, [table, index] => tableRead table index s
  | 0x42, [target] => modeSet target s
  | 0x43, [record, block] => recordRead record block s
  | 0x44, [tube, count] => setTube tube count s
  | 0x45, [tube, coins] => dispense tube coins s
  | 0x46, [] => clearCredit s
  | 0x47, [zone] => releaseSale zone s
  | 0x48, [index] => clearFault index s
  | 0x49, [tag] => clearSettle tag s
  | 0x4A, [a, b, c, d] => setTime (word a b c d) s
  | 0x4B, [] => releaseTrace s
  | 0x4C, [port] => portRestart port s
  | 0x4D, [] => defrostNow s
  | 0x4E, [] => restartAsked s
  | _, _ => refused .range s

/-- The REPLY of an answer enters U's queue (R174). -/
def sendAnswer (src type : Byte) (a : Answer) : State :=
  reply src type a.status (fitted a.data) a.kind a.state

/-- A service request is taken: handled whole, answered, and passed as an activity (R174; order: log
entry 7). The activity of an economy settings write is judged by the mask it has written (R134, log entry 44). -/
def takeService (src type : Byte) (payload : List Byte) (s : State) : State :=
  activity .serviceRequest (sendAnswer src type (serve type payload s))

/-- Whether a type is a service request (R158). -/
def isService (type : Byte) : Bool := decide (0x40 ≤ type.toNat ∧ type.toNat ≤ 0x4E)

/-- The type of CANCEL (R163). -/
def typeCancel : Byte := 0x21

/-- A frame that gets a REPLY is taken: a service request, CANCEL, or an unknown type (R150, R158). -/
def takeRequest (f : Frame) (s : State) : State :=
  if isService f.type then takeService f.src f.type f.payload s
  else
    match f.type == typeCancel, f.payload with
    | true, [tag] => sendAnswer f.src f.type (cancelTag tag s)
    | _, _ => sendAnswer f.src f.type (refused .unknown s)

/-- A frame that gets a REPLY is taken when a place for it is free, waits in the request hold, or is
dropped (R150). -/
def request (port : PortId) (f : Frame) (s : State) : State :=
  if replyPlace s then takeRequest f s
  else if s.link.hold.isNone then s.mapLink fun l => { l with hold := some (port, f) }
  else raise .requestDropped f.type (f.src.setWidth 32) s

/-- A request row: the frame that node `src` sends from port U with its role check passed. No frame is
delivered while U is QUIET (R148; log entries 4 and 22). -/
def fromController (src type : Byte) (payload : List Byte) (s : State) : State :=
  if (s.port 0).state = .quiet then s
  else request 0 { dest := s.link.ownNode, src := src, type := type, payload := payload } s

end Sys2Proof.Machine
end

