-- ==== Sys2Proof/Machine/Switch.lean ====
section
/-! DEFINITION. The frame switch (R154 to R158) and what each port event brings: a good frame, a bad
frame, a sent frame. -/

namespace Sys2Proof.Machine

/-! ## Delivery to the part's own units (R155, R158) -/

/-- SELECT as the vend controller takes it (R61). -/
def takeSelect (sel preference : Byte) (s : State) : State :=
  activity .select (selectVend sel preference s)

/-- Whether a pending send is a note decision (R152). -/
def isDecision (f : Frame) : Bool := f.type == 0x68 || f.type == 0x69

/-- NOTE-HELD as the frame switch hands it on: not delivered while the note reader's port holds 4
pending note decisions (R152). -/
def takeNoteHeld (n : Byte) (s : State) : State :=
  match roleEntry .noteReader s.link with
  | none => noteHeld n s
  | some m =>
    if 4 ≤ ((s.port m.port).waiting.filter isDecision).length then overflowDrop m.port s
    else noteHeld n s

/-- The role that may send a consumed type of this length; none for a type the part does not consume
(R155, R158, R163). -/
def senderRole (type : Byte) (length : Nat) : Option Role :=
  if isService type then some .machineController
  else
    match type.toNat, length with
    | 0x20, 2 => some .machineController
    | 0x21, 1 => some .machineController
    | 0x22, 0 => some .machineController
    | 0x50, 1 => some .coinValidator
    | 0x60, 1 => some .noteReader
    | 0x61, 1 => some .noteReader
    | 0x62, 1 => some .noteReader
    | 0x70, 2 => some .cardReader
    | 0x71, 0 => some .cardReader
    | 0x72, 1 => some .cardReader
    | _, _ => none

/-- The role check (R155). -/
def rolePasses (role : Role) (port : PortId) (src : Byte) (l : Link) : Bool :=
  match roleEntry role l with
  | none => decide (role = .machineController) && decide (port = 0)
  | some n => n.node == src && decide (n.port = port)

/-- A consumed frame goes to its owner (R158). -/
def deliver (port : PortId) (f : Frame) (s : State) : State :=
  match f.type.toNat, f.payload with
  | 0x20, [sel, preference] => takeSelect sel preference s
  | 0x22, [] => coinReturn 0 s
  | 0x50, [cls] => coinIn cls s
  | 0x60, [n] => takeNoteHeld n s
  | 0x61, [n] => noteStacked n s
  | 0x62, [_] => clearEscrow s
  | 0x70, [a, b] => fundsReported (half a b) s
  | 0x71, [] => sessionEnds s
  | 0x72, [tag] => settleAcked tag s
  | _, _ => request port f s

/-- Handling by type (R158). -/
def handleByType (port : PortId) (f : Frame) (s : State) : State :=
  match senderRole f.type f.payload.length with
  | none =>
    if port = 0 then request port f s else raise .badType f.type (amount port) s
  | some r =>
    if rolePasses r port f.src s.link then deliver port f s
    else raise .roleMismatch f.src (f.type.setWidth 32) s

/-! ## Routing (R156 to R158) -/

/-- Whether a destination falls in a destination class (R156). -/
def DestClass.holds (c : DestClass) (dest own : Byte) : Bool :=
  match c with
  | .own => dest == own
  | .other => dest != 0 && dest != own
  | .broadcast => dest == 0
  | .any => true

/-- Whether a disposition entry matches a frame (R156). -/
def Disposition.holds (d : Disposition) (port : PortId) (f : Frame) (own : Byte) : Bool :=
  d.enabled && d.type == f.type && d.ports.getLsbD port && d.dest.holds f.dest own

/-- The action that decides a frame; types 0x40..0x4F on port U are not looked up (R156). -/
def actionOf (port : PortId) (f : Frame) (l : Link) : Action :=
  if port = 0 ∧ 0x40 ≤ f.type.toNat ∧ f.type.toNat ≤ 0x4F then .pass
  else ((l.dispositions.toList.find? fun d => d.holds port f l.ownNode).map (·.action)).getD .pass

/-- A broadcast frame is forwarded to the other three ports, in the order of their numbers, which R158 leaves
open (log entry 54). -/
def broadcast (port : PortId) (f : Frame) (s : State) : State :=
  ((List.finRange 4).filter fun p => decide (p ≠ port)).foldl
    (fun (t : State) (p : PortId) => forward p f t) s

/-- A frame handled by its destination (R158). A broadcast of a consumed type is forwarded first and then
handled by type, an order that R158 leaves open (log entry 54). -/
def handle (port : PortId) (f : Frame) (s : State) : State :=
  if f.dest = s.link.ownNode then handleByType port f s
  else if f.dest = 0 then
    let t := broadcast port f s
    if (senderRole f.type f.payload.length).isSome then handleByType port f t else t
  else
    match nodeEntry f.dest s.link with
    | none => s.mapPort port fun q => { q with unroutable := saturate 255 q.unroutable }
    | some n => if n.port = port then s else forward n.port f s

/-- Whether the handling without the table forwards the frame to port U (R157), whether or not U then takes it
(log entry 47). -/
def forwardsToU (f : Frame) (l : Link) : Bool :=
  f.dest != l.ownNode &&
    (f.dest == 0 ||
      (match nodeEntry f.dest l with
       | none => false
       | some n => decide (n.port = 0)))

/-- A copy for the machine controller (R157). -/
def copyUp (f : Frame) (s : State) : State := forward 0 { f with dest := controllerNode s.link } s

/-- A good frame that reaches the frame switch (R156 to R158). With COPY-UP the frame is handled first, and then
the copy is offered to port U: R157 puts both in one step and names no order (log entry 53). -/
def switchFrame (port : PortId) (f : Frame) (s : State) : State :=
  match actionOf port f s.link with
  | .pass => handle port f s
  | .copyUp =>
    if port = 0 ∨ forwardsToU f s.link = true then handle port f s
    else copyUp f (handle port f s)
  | .divert => handleByType port f s
  | .drop => s

/-! ## Port events -/

/-- The held request is taken as soon as a place for its REPLY is free (R150). -/
def takeHeld (s : State) : State :=
  match s.link.hold with
  | none => s
  | some h =>
    if replyPlace s then handleByType h.1 h.2 (s.mapLink fun l => { l with hold := none }) else s

/-- A good frame in QUIET (R148, R149). -/
def recoveryFrame (p : PortId) (s : State) : State :=
  if 32 ≤ (s.port p).recovery + 1 then
    if p = 0 then takeHeld (recover p s) else recover p s
  else s.mapPort p fun q => { q with recovery := q.recovery + 1 }

/-- The assembly of a port takes a state (R145). -/
def setAssembly (p : PortId) (a : Assembly) (s : State) : State :=
  s.mapPort p fun q => { q with assembly := a }

/-- A good frame at a port (R146, R147, R158). -/
def goodFrame (p : PortId) (f : Frame) (s : State) : State :=
  let t := setAssembly p .outside s
  if (s.port p).state = .quiet then recoveryFrame p t else switchFrame p f (scoreGood p t)

/-- The assembly after a bad frame: the 0xA5 of a Start cause begins a new frame (R145). -/
def afterBad (cause : BadCause) : Assembly :=
  match cause with
  | .start => .inside [] false
  | .length | .escape | .byteError | .crc => .outside

/-- Whether the step has discarded the REPLY that a pending warm restart waits for (R179). -/
def restartDiscarded (before after : State) : Bool :=
  after.link.restartPending && holdsRestart (before.port 0) && !holdsRestart (after.port 0)

/-- A bad frame at a port: its score, and the warm restart when U's entry to QUIET discards the REPLY to
RESTART (R145, R147, R179). -/
def badFrame (p : PortId) (a : Assembly) (s : State) : State :=
  let t := scoreBad p (setAssembly p a s)
  if restartDiscarded s t then warmRestart t else pump t

/-- The oldest frame of a port's queue has been sent: a pending send, the held request and EVENT frames
take the places (R150, R152, R153), or the warm restart acts (R179). -/
def frameSent (p : PortId) (s : State) : State :=
  match (s.port p).tx with
  | [] => pump s
  | f :: rest =>
    let t := s.mapPort p fun q => { q with tx := rest }
    if f.kind = .restartReply ∧ s.link.restartPending = true then warmRestart t
    else
      let u := t.mapPort p fun q => q.fillPending p
      pump (if p = 0 then takeHeld u else u)

end Sys2Proof.Machine
end

