-- ==== Sys2Proof/Machine/Clock.lean ====
section
/-! DEFINITION. The passing of one millisecond: what step does when no command waits (log entry 1). Each
timer and count that runs moves by one ms; what happens at its end is a command of the table. -/

namespace Sys2Proof.Machine

/-- The credit unit's timers (R6, R14). -/
def Money.tick (m : Money) : Money :=
  { m with
    escrow := match m.escrow.state with
      | .decidedStack | .decidedReturn => { m.escrow with timerMs := m.escrow.timerMs - 1 }
      | .none | .uncertain => m.escrow
    settlements := m.settlements.map fun r =>
      match r.state with
      | .sent => { r with timerMs := r.timerMs - 1 }
      | .unconfirmed => r }

/-- The deadlines of the in-flight list and the payout engine's timer (R31, R41). -/
def Coins.tick (c : Coins) : Coins :=
  { c with
    inflight := c.inflight.map fun r => { r with deadlineMs := r.deadlineMs - 1 }
    engine := { c.engine with timerMs := c.engine.timerMs - 1 } }

/-- A turn timer runs while its motor is on and its turn has not ended (R76). -/
def MotorTurn.tick (m : MotorTurn) : MotorTurn :=
  if m.on = true ∧ m.turn ≠ .ended then { m with timerMs := m.timerMs - 1 } else m

/-- The times of a drive (R76, R77, R79, R89). -/
def Drive.tick (r : Drive) : Drive :=
  { r with a := r.a.tick, b := r.b.tick, phaseMs := r.phaseMs - 1 }

/-- The matrix driver's times (R76 to R79, R87, R89). -/
def Driver.tick (d : Driver) : Driver :=
  { d with
    record := d.record.map Drive.tick
    brokenMs := if d.monitor = .broken then d.brokenMs + 1 else d.brokenMs }

/-- The wait time of the compressor claim (R102). -/
def Supply.tick (p : Supply) : Supply :=
  if p.compressor.state = .waiting then { p with waitMs := p.waitMs + 1 } else p

/-- A limp phase (R113). -/
def Zone.tick (z : Zone) : Zone :=
  { z with limp := z.limp.map fun l => { l with leftMs := l.leftMs - 1 } }

/-- The compressor's times (R115, R117, R119, R122, R123). -/
def Compressor.tick (c : Compressor) : Compressor :=
  let running := decide (c.state = .running)
  { c with
    offMs := if c.state = .locked then c.offMs - 1 else c.offMs
    onMs := if c.relay then c.onMs + 1 else c.onMs
    runningMs := if running then c.runningMs + 1 else c.runningMs
    accumulatorMs :=
      if running then min accumulatorMaxMs (c.accumulatorMs + 1) else c.accumulatorMs
    runOn := c.runOn.map (· - 1) }

/-- The defrost's times (R123, R125, R127). -/
def Defrost.tick (d : Defrost) : Defrost :=
  { d with
    heatMs := if d.state = .heating then d.heatMs - 1 else d.heatMs
    heaterOnMs := if d.heater then d.heaterOnMs + 1 else d.heaterOnMs
    dripMs := if d.state = .dripping then d.dripMs - 1 else d.dripMs }

/-- The refrigeration controller's times (R108). -/
def Cooling.tick (c : Cooling) : Cooling :=
  { c with
    sampleMs := c.sampleMs + 1
    zones := c.zones.map Zone.tick
    compressor := c.compressor.tick
    defrost := c.defrost.tick }

/-- The quiet time and the phase of a valid time-of-week counter (R136, R143). -/
def Cabinet.tick (c : Cabinet) : Cabinet :=
  { c with
    economy := { c.economy with quietMs := min quietMaxMs (c.economy.quietMs + 1) }
    clock := if c.clock.valid then { c.clock with phaseMs := c.clock.phaseMs + 1 } else c.clock }

/-- One millisecond with no command, and the condition of R153 judged again. While RESETn is low nothing
moves (R181). -/
def tick (s : State) : State :=
  if s.resetLow then s
  else pump { s with
    money := s.money.tick, coins := s.coins.tick, drive := s.drive.tick, supply := s.supply.tick,
    cooling := s.cooling.tick, cabinet := s.cabinet.tick }

end Sys2Proof.Machine
end

