-- ==== Sys2Proof/Machine/ExecCoins.lean ====
section
/-! DEFINITION. The meanings of the coin path's sensor pulses and of the payout engine's cycle (R32 to R45). -/

namespace Sys2Proof.Machine

/-- SOLENOID_PULSE_END (R41). -/
def execSolenoidPulseEnd (s : State) : Host.Outcome State Fault Refusal :=
  act s (pump (if s.coins.engine.phase = .pulse then
      s.mapEngine fun e => { e with phase := .exitWait, timerMs := exitWaitMs } else s))

/-- EXIT_PULSE (R41, R44). -/
def execExitPulse (s : State) : Host.Outcome State Fault Refusal :=
  act s (pump
    (match s.coins.engine.phase, s.coins.engine.current with
     | .exitWait, some t => confirmCoin t s
     | _, _ => raise .strayExit (straySubject s.coins.engine) 0 s))

/-- EXIT_WAIT_EXPIRY, in the order of R186 (R42, R45). -/
def execExitWaitExpiry (s : State) : Host.Outcome State Fault Refusal :=
  act s (pump
    (match s.coins.engine.phase, s.coins.engine.current with
     | .exitWait, some t =>
       let u := report .tubeJam t s
       if s.coins.engine.manual then endManual u
       else planRun (s.coins.engine.excluded ++ [t]) s.coins.engine.paid u
     | _, _ => s))

/-- GAP_END (R41, R43, R45). -/
def execGapEnd (s : State) : Host.Outcome State Fault Refusal :=
  act s (pump (if s.coins.engine.phase = .gap then nextCoin s else s))

/-- TIN_PULSE (R32). -/
def execTinPulse (tube : TubeId) (s : State) : Host.Outcome State Fault Refusal :=
  let x := s.coins.tubes[tube]
  let full := decide (x.capacity ≤ x.count)
  let t := if hasFlight (some tube) s then claimFlight (some tube) s
    else raise .unclaimedCoin (byteOf tube) (amount (if full then x.count else x.count + 1)) s
  act s (pump (if full then
      report .tubeOverfill tube (t.mapTube tube fun y => { y with overfill := saturate 255 y.overfill })
    else tubeChanged tube (t.mapTube tube fun y => { y with count := y.count + 1 })))

/-- CBIN_PULSE (R33). -/
def execCbinPulse (s : State) : Host.Outcome State Fault Refusal :=
  act s (pump (if hasFlight none s then claimFlight none s else raise .unclaimedCoin 6 0 s))

/-- ROUTE_DEADLINE_EXPIRY (R34): the deadline of a record that a pulse has removed finds none. -/
def execRouteDeadlineExpiry (number : Nat) (s : State) : Host.Outcome State Fault Refusal :=
  act s (pump
    (match s.coins.inflight.find? fun r => decide (r.number = number) with
     | none => s
     | some r =>
       report .routeLost (tubeCode r.route).toNat (chuteFreed r.chute
         (s.mapCoins fun c => { c with inflight := c.inflight.erase r }))))

end Sys2Proof.Machine
end

