-- ==== Sys2Proof/Machine/ExecCooling.lean ====
section
/-! DEFINITION. The meanings of the refrigeration controller's samples and timers (chapter 6) and of the sale hold and
economy unit's moments (chapter 7). A row that names the end of a time is that moment itself (log entry 2), and one
that names a count at its limit is the last rise of the count (log entry 3). -/

namespace Sys2Proof.Machine

/-- PROBE_SAMPLE (R108, R109, R112, R113, R121, R126, R130; order: log entry 13). -/
def execProbeSample (airA airB coil : Half) (s : State) : Host.Outcome State Fault Refusal :=
  let t := s.mapCooling fun c => { c with sampleMs := 0 }
  act s (pump (accumulate 1 (accumulate 0
    (sampleCoil coil.toInt (sampleAir 1 airB.toInt (sampleAir 0 airA.toInt t))))))

/-- ZONE_HELD (R131): the accumulation step that completes the count (log entry 3). -/
def execZoneHeld (zone : ZoneId) (s : State) : Host.Outcome State Fault Refusal :=
  let h := s.cabinet.holds[zone]
  act s (pump
    (if h.enabled && !h.held && (holdStep h s.cooling.probes[airProbe zone]).isSome
        && decide (h.delay ≤ h.accumulator + 1) then accumulate zone s else s))

/-- LIMP_PHASE_END (R113). -/
def execLimpPhaseEnd (zone : ZoneId) (s : State) : Host.Outcome State Fault Refusal :=
  act s (pump
    (match s.cooling.zones[zone].limp with
     | none => s
     | some l =>
       let minutes := if l.on then s.cooling.limpOffMin else s.cooling.limpOnMin
       setDemand zone (!l.on)
         (s.mapZone zone fun x => { x with limp := some { on := !l.on, leftMs := minutes * 60000 } })))

/-- OFF_TIMER_EXPIRY (R117). -/
def execOffTimerExpiry (s : State) : Host.Outcome State Fault Refusal :=
  act s (pump
    (if s.cooling.compressor.state = .locked then
      reactCompressor (s.mapCompressor fun c => { c with state := .ready, offMs := 0 })
    else s))

/-- START_WINDOW_END (R119). -/
def execStartWindowEnd (s : State) : Host.Outcome State Fault Refusal :=
  act s (pump
    (if s.cooling.compressor.state = .starting then
      shrink (s.mapCompressor fun c =>
        { c with state := .running, onMs := max c.onMs startWindowMs, runningMs := 0 })
    else s))

/-- COMPRESSOR_STOP (R120): the second that brings the on time to 60 s, with demand off. -/
def execCompressorStop (s : State) : Host.Outcome State Fault Refusal :=
  act s (pump
    (if s.cooling.compressor.state = .running ∧ compressorDemand s.cooling = false
        ∧ risesTo s.cooling.compressor.onMs minimumOnMs = true then
      stopCompressor (s.mapCompressor fun c => { c with onMs := max c.onMs minimumOnMs })
    else s))

/-- CONDENSER_RUN_ON_END (R122). -/
def execCondenserRunOnEnd (s : State) : Host.Outcome State Fault Refusal :=
  act s (pump (s.mapCompressor fun c => { c with runOn := none }))

/-- DEFROST_PENDING (R123): the second of RUNNING that brings the accumulator to the interval. -/
def execDefrostPending (s : State) : Host.Outcome State Fault Refusal :=
  act s (pump
    (if s.cooling.defrost.state = .none
        ∧ (s.cooling.compressor.state = .running
            ∧ risesTo s.cooling.compressor.accumulatorMs (s.cooling.intervalH * 3600000) = true
          ∨ intervalReached s.cooling = true) then
      enterPending 0 (s.mapCooling fun k =>
        { k with compressor := { k.compressor with
            accumulatorMs := max k.compressor.accumulatorMs (k.intervalH * 3600000) } })
    else s))

/-- HEAT_TIMER_EXPIRY (R126). -/
def execHeatTimerExpiry (s : State) : Host.Outcome State Fault Refusal :=
  act s (pump
    (if s.cooling.defrost.state = .heating then endHeating (report .defrostTimeout 0 s) else s))

/-- DRIP_TIMER_EXPIRY (R127). -/
def execDripTimerExpiry (s : State) : Host.Outcome State Fault Refusal :=
  act s (pump (if s.cooling.defrost.state = .dripping then endDripping s else s))

/-- DIM_ENTRY (R136): the rise that brings the quiet time to the dim delay. A masked activity taken first has set
the quiet time to 0, and no state changes. -/
def execDimEntry (s : State) : Host.Outcome State Fault Refusal :=
  act s (pump
    (if s.cabinet.economy.state = .active
        ∧ risesTo s.cabinet.economy.quietMs (s.cabinet.economy.dimDelay * 1000) = true then
      judgeEconomy (s.mapEconomy fun e => { e with quietMs := max e.quietMs (e.dimDelay * 1000) })
    else s))

/-- ECONOMY_ENTRY (R136): the rise that brings the quiet time to both delays. -/
def execEconomyEntry (s : State) : Host.Outcome State Fault Refusal :=
  act s (pump
    (if s.cabinet.economy.state = .dim ∧ s.cabinet.clock.valid = true
        ∧ s.cabinet.economy.inWindow = true
        ∧ risesTo s.cabinet.economy.quietMs
            ((s.cabinet.economy.dimDelay + s.cabinet.economy.economyDelay) * 1000) = true then
      judgeEconomy (s.mapEconomy fun e =>
        { e with quietMs := max e.quietMs ((e.dimDelay + e.economyDelay) * 1000) })
    else s))

/-- TIME_OF_WEEK_TICK (R143). -/
def execTimeOfWeekTick (s : State) : Host.Outcome State Fault Refusal :=
  act s (pump
    (if s.cabinet.clock.valid then
      judgeWindow (s.mapClock fun c =>
        { c with second := (c.second + 1) % weekSeconds, phaseMs := 0 })
    else s))

end Sys2Proof.Machine
end

