-- ==== Sys2Proof/Machine/ExecCredit.lean ====
section
/-! DEFINITION. The meanings of the frames and pins of the credit unit and the vend controller. Each frame stands
for one that the frame switch delivers, its role check passed (log entry 4). -/

namespace Sys2Proof.Machine

/-- SELECT (R61). -/
def execSelect (selection preference : Byte) (s : State) : Host.Outcome State Fault Refusal :=
  act s (pump (takeSelect selection preference s))

/-- CANCEL (R64), under the request hold (R150). -/
def execCancel (src tag : Byte) (s : State) : Host.Outcome State Fault Refusal :=
  act s (pump (fromController src typeCancel [tag] s))

/-- CREDIT_RETURN (R21). -/
def execCreditReturn (s : State) : Host.Outcome State Fault Refusal :=
  act s (pump (coinReturn 0 s))

/-- COIN_RETURN_LEVER_PRESS (R21). -/
def execCoinReturnLeverPress (s : State) : Host.Outcome State Fault Refusal :=
  act s (pump (if s.money.leverArmed then
      coinReturn 1 (s.mapMoney fun m => { m with leverArmed := false }) else s))

/-- COIN_RETURN_LEVER_RELEASE (R21). -/
def execCoinReturnLeverRelease (s : State) : Host.Outcome State Fault Refusal :=
  act s (pump (s.mapMoney fun m => { m with leverArmed := true }))

/-- COIN_IN (R4). -/
def execCoinIn (cls : Byte) (s : State) : Host.Outcome State Fault Refusal :=
  act s (pump (coinIn cls s))

/-- NOTE_HELD (R7, R9), under the bound of R152. -/
def execNoteHeld (cls : Byte) (s : State) : Host.Outcome State Fault Refusal :=
  act s (pump (takeNoteHeld cls s))

/-- NOTE_STACKED (R10). -/
def execNoteStacked (cls : Byte) (s : State) : Host.Outcome State Fault Refusal :=
  act s (pump (noteStacked cls s))

/-- NOTE_RETURNED (R10): the record becomes NONE whatever the class. -/
def execNoteReturned (_cls : Byte) (s : State) : Host.Outcome State Fault Refusal :=
  act s (pump (clearEscrow s))

/-- NOTE_ESCROW_TIMER_EXPIRY (R11). -/
def execNoteEscrowTimerExpiry (s : State) : Host.Outcome State Fault Refusal :=
  act s (pump (escrowExpires s))

/-- FUNDS (R12). -/
def execFunds (amount : Half) (s : State) : Host.Outcome State Fault Refusal :=
  act s (pump (fundsReported amount s))

/-- SESSION_END (R13). -/
def execSessionEnd (s : State) : Host.Outcome State Fault Refusal :=
  act s (pump (sessionEnds s))

/-- SETTLE_ACK (R15). -/
def execSettleAck (tag : Byte) (s : State) : Host.Outcome State Fault Refusal :=
  act s (pump (settleAcked tag s))

/-- SETTLEMENT_TIMER_EXPIRY (R15): a SENT record's timer. -/
def execSettlementTimerExpiry (tag : Byte) (s : State) : Host.Outcome State Fault Refusal :=
  act s (pump
    (match s.money.settlements.find? fun r => r.tag == tag && decide (r.state = .sent) with
     | none => s
     | some r => unconfirm r s))

/-- DOOR_CHANGE (R56): a level that is taken already is no change. -/
def execDoorChange (opened : Bool) (s : State) : Host.Outcome State Fault Refusal :=
  act s (pump (if s.vend.doorOpen = opened then s else doorTaken opened s))

end Sys2Proof.Machine
end

