-- ==== Sys2Proof/Machine/ExecDrive.lean ====
section
/-! DEFINITION. The meanings of the matrix driver's samples, switches, timers and beam (chapter 4), and of SUPPLY_DEFER. -/

namespace Sys2Proof.Machine

/-- Whether the driver is ENERGISED (R74). -/
def energised (d : Driver) : Bool := decide (d.phase = .energised)

/-- CURRENT_SAMPLE (R81): samples are not taken while the drive set is empty. -/
def execCurrentSample (current : Byte) (s : State) : Host.Outcome State Fault Refusal :=
  act s (pump
    (match s.drive.record with
     | none => s
     | some r => if energised s.drive && r.columns != [] then sampleCurrent current r s else s))

/-- MOTOR_STALL (R82, R85): the judged sample that completes the stall run (log entry 3). -/
def execMotorStall (s : State) : Host.Outcome State Fault Refusal :=
  act s (pump
    (match s.drive.record with
     | none => s
     | some r =>
       if energised s.drive && r.columns != [] && decide (r.kind ≠ .timed)
           && decide (s.drive.blankLeft = 0)
           && decide (stallSamples s.drive.settings ≤ s.drive.stallRun + 1) then
         driveFault .motorStall r.energised r s
       else s))

/-- MOTOR_OPEN (R83, R85): the judged sample that completes the open run (log entry 3). -/
def execMotorOpen (s : State) : Host.Outcome State Fault Refusal :=
  act s (pump
    (match s.drive.record with
     | none => s
     | some r =>
       if energised s.drive && r.columns != [] && decide (s.drive.blankLeft = 0)
           && decide (openSamples ≤ s.drive.openRun + 1) then
         driveFault .motorOpen r.energised r s
       else s))

/-- The turn of one motor of a drive. -/
def Drive.turn (r : Drive) (m : MotorSel) : MotorTurn :=
  match m with
  | .a => r.a
  | .b => r.b

/-- The drive with another turn of one motor. -/
def Drive.setTurn (r : Drive) (m : MotorSel) (t : MotorTurn) : Drive :=
  match m with
  | .a => { r with a := t }
  | .b => { r with b := t }

/-- The position of one motor of a drive. -/
def Drive.motorAt (r : Drive) (m : MotorSel) : Motor :=
  match m with
  | .a => r.motorA
  | .b => { row := r.motorA.row, col := r.motorB.getD r.motorA.col }

/-- SWITCH_SEEN_OPEN (R76), of the drive that is under way. -/
def execSwitchSeenOpen (motor : DriveMotor) (s : State) : Host.Outcome State Fault Refusal :=
  act s (pump
    (match s.drive.record with
     | none => s
     | some r =>
       let m := motor.motor
       if energised s.drive && r.tag == motor.tag && (r.turn m).on
           && decide ((r.turn m).turn = .leaving) then
         s.mapDrive fun d => { d with record := some (r.setTurn m { r.turn m with turn := .away }) }
       else s))

/-- MOTOR_TURN_END (R77, R78). -/
def execMotorTurnEnd (motors : TurnEnd) (s : State) : Host.Outcome State Fault Refusal :=
  act s (pump
    (match s.drive.record with
     | none => s
     | some r => if energised s.drive then switchesClose motors r s else s))

/-- TURN_TIMER_EXPIRY (R84, R85): the timer of a turn that has ended, or of a drive that has, is stopped, and
its expiry has no effect on the turn or the drive that has begun since. -/
def execTurnTimerExpiry (timer : TurnTimer) (s : State) : Host.Outcome State Fault Refusal :=
  act s (pump
    (match s.drive.record with
     | none => s
     | some r =>
       let m := timer.motor
       if energised s.drive && r.tag == timer.tag && decide (r.turnsDone = timer.turn) && (r.turn m).on
           && decide ((r.turn m).turn ≠ .ended) then
         driveFault .motorHomeLost [r.motorAt m] r s
       else s))

/-- PAUSE_END (R77). -/
def execPauseEnd (s : State) : Host.Outcome State Fault Refusal :=
  act s (pump
    (match s.drive.record with
     | none => s
     | some r => if s.drive.phase = .paused then s.mapDrive fun d => d.energise r else s))

/-- TIMED_RUN_END (R79). -/
def execTimedRunEnd (s : State) : Host.Outcome State Fault Refusal :=
  act s (pump
    (match s.drive.record with
     | none => s
     | some r => if energised s.drive && decide (r.kind = .timed) then endOfLastTurn r s else s))

/-- TAIL_END (R89, R90). -/
def execTailEnd (s : State) : Host.Outcome State Fault Refusal :=
  act s (pump
    (match s.drive.record with
     | none => s
     | some r => if s.drive.phase = .tail then tailEnds r s else s))

/-- BEAM_BROKEN (R87, R88): the first level taken after cold reset counts no drop. -/
def execBeamBroken (s : State) : Host.Outcome State Fault Refusal :=
  let t := s.mapDrive fun d => { d with monitor := .broken, brokenMs := 5 }
  act s (pump
    (match s.drive.monitor with
     | .unknown => t
     | .clear => countDrop t
     | .broken | .blocked => s))

/-- BEAM_CLEAR (R87, R91). -/
def execBeamClear (s : State) : Host.Outcome State Fault Refusal :=
  let t := s.mapDrive fun d => { d with monitor := .clear, brokenMs := 0 }
  act s (pump
    (match s.drive.monitor with
     | .unknown | .broken | .clear => t
     | .blocked => conditionEnded .dropBlocked 0 t))

/-- DROP_BLOCKED (R87, R91). -/
def execDropBlocked (s : State) : Host.Outcome State Fault Refusal :=
  act s (pump
    (if s.drive.monitor = .broken then
      report .dropBlocked 0
        (s.mapDrive fun d =>
          blockDrive { d with monitor := .blocked, brokenMs := max d.brokenMs blockedMs })
    else s))

/-- TRACE_SAMPLE (R93, R94): 0 mA while the drive set is empty. -/
def execTraceSample (current : Byte) (s : State) : Host.Outcome State Fault Refusal :=
  act s (pump
    (if s.drive.trace.state = .filling then
      s.mapDrive fun d =>
        let samples := d.trace.samples ++ [if (driveSet d).isSome then current else 0]
        { d with trace := { d.trace with
            samples := samples, state := if 64 ≤ samples.length then .full else .filling } }
    else s))

/-- SUPPLY_DEFER (R102): the second that brings the wait time to 30 s (log entry 3). -/
def execSupplyDefer (s : State) : Host.Outcome State Fault Refusal :=
  act s (pump
    (if s.supply.compressor.state = .waiting ∧ s.supply.deferring = false
        ∧ risesTo s.supply.waitMs deferMs = true then
      raise .supplyDefer 0 (amount (freePoints s.supply))
        (s.mapSupply fun p => { p with waitMs := max p.waitMs deferMs, deferring := true })
    else s))

end Sys2Proof.Machine
end

