-- ==== Sys2Proof/Machine/ExecLink.lean ====
section
/-! DEFINITION. The meanings of the resets and of the port events. A meaning ends with the condition of R153 judged
(pump), but a reset leaves its one event standing (log entry 6). -/

namespace Sys2Proof.Machine

/-- COLD_RESET (R181): while RESETn is low the outputs are off and nothing else happens; at its return every
item takes its value after cold reset. The commands that wait, and the number of the next free value, are
the model's own and stay. -/
def execColdReset (straps : BitVec 2) (edge : ResetEdge) (s : State) : Host.Outcome State Fault Refusal :=
  match edge with
  | .goesLow => .next { s with resetLow := true }
  | .returns cause => .next { State.cold straps cause with pending := s.pending, fresh := s.fresh }

/-- WARM_RESTART (R180), while one is pending (log entry 24). -/
def execWarmRestart (s : State) : Host.Outcome State Fault Refusal :=
  act s (if s.link.restartPending then warmRestart s else pump s)

/-- GOOD_FRAME (R146, R158). A frame longer than a good frame can be is the bad frame of R145's Length
cause (log entry 27). -/
def execGoodFrame (port : PortId) (dest src type : Byte) (payload : List Byte) (s : State) :
    Host.Outcome State Fault Refusal :=
  act s (if 40 < payload.length then badFrame port .outside s
    else pump (goodFrame port { dest := dest, src := src, type := type, payload := payload } s))

/-- BAD_FRAME (R145). -/
def execBadFrame (port : PortId) (cause : BadCause) (s : State) : Host.Outcome State Fault Refusal :=
  act s (badFrame port (afterBad cause) s)

/-- FRAME_GAP_EXPIRY (R145). -/
def execFrameGapExpiry (port : PortId) (s : State) : Host.Outcome State Fault Refusal :=
  act s (badFrame port .outside s)

/-- FRAME_SENT (R150). -/
def execFrameSent (port : PortId) (s : State) : Host.Outcome State Fault Refusal :=
  act s (frameSent port s)

end Sys2Proof.Machine
end

