-- ==== Sys2Proof/Machine/ExecRequests.lean ====
section
/-! DEFINITION. The meanings of the other service request rows (chapter 10), taken under the request hold (R150). -/

namespace Sys2Proof.Machine

/-- TABLE_READ (R176). -/
def execTableRead (src table index : Byte) (s : State) : Host.Outcome State Fault Refusal :=
  act s (pump (fromController src 0x41 [table, index] s))

/-- RECORD_READ (R177). -/
def execRecordRead (src record block : Byte) (s : State) : Host.Outcome State Fault Refusal :=
  act s (pump (fromController src 0x43 [record, block] s))

/-- MODE_SET_SERVICE (R57). -/
def execModeSetService (src : Byte) (s : State) : Host.Outcome State Fault Refusal :=
  act s (pump (fromController src 0x42 [0] s))

/-- MODE_SET_SELLING (R57). -/
def execModeSetSelling (src : Byte) (s : State) : Host.Outcome State Fault Refusal :=
  act s (pump (fromController src 0x42 [1] s))

/-- TUBE_SET (R28). -/
def execTubeSet (src tube count : Byte) (s : State) : Host.Outcome State Fault Refusal :=
  act s (pump (fromController src 0x44 [tube, count] s))

/-- TUBE_DISPENSE (R45). -/
def execTubeDispense (src tube coins : Byte) (s : State) : Host.Outcome State Fault Refusal :=
  act s (pump (fromController src 0x45 [tube, coins] s))

/-- CREDIT_CLEAR (R24). -/
def execCreditClear (src : Byte) (s : State) : Host.Outcome State Fault Refusal :=
  act s (pump (fromController src 0x46 [] s))

/-- SALE_RELEASE (R133). -/
def execSaleRelease (src zone : Byte) (s : State) : Host.Outcome State Fault Refusal :=
  act s (pump (fromController src 0x47 [zone] s))

/-- FAULT_CLEAR (R173). -/
def execFaultClear (src index : Byte) (s : State) : Host.Outcome State Fault Refusal :=
  act s (pump (fromController src 0x48 [index] s))

/-- SETTLE_CLEAR (R16). -/
def execSettleClear (src tag : Byte) (s : State) : Host.Outcome State Fault Refusal :=
  act s (pump (fromController src 0x49 [tag] s))

/-- TIME_SET (R143). -/
def execTimeSet (src : Byte) (second : Word) (s : State) : Host.Outcome State Fault Refusal :=
  act s (pump (fromController src 0x4A (bytes32 second) s))

/-- TRACE_RELEASE (R95). -/
def execTraceRelease (src : Byte) (s : State) : Host.Outcome State Fault Refusal :=
  act s (pump (fromController src 0x4B [] s))

/-- PORT_RESTART (R178). -/
def execPortRestart (src port : Byte) (s : State) : Host.Outcome State Fault Refusal :=
  act s (pump (fromController src 0x4C [port] s))

/-- DEFROST_NOW (R123). -/
def execDefrostNow (src : Byte) (s : State) : Host.Outcome State Fault Refusal :=
  act s (pump (fromController src 0x4D [] s))

/-- RESTART (R179). -/
def execRestart (src : Byte) (s : State) : Host.Outcome State Fault Refusal :=
  act s (pump (fromController src 0x4E [] s))

end Sys2Proof.Machine
end

