-- ==== Sys2Proof/Machine/ExecWrites.lean ====
section
/-! DEFINITION. The meanings of the TABLE-WRITE rows: each is the request with the bytes of section 8.7.5, taken
under the request hold (R150, R165, R175). -/

namespace Sys2Proof.Machine

/-- The bytes of a selection entry (R165). -/
def entryBytes (e : SelectionEntry) : List Byte :=
  [e.enabled, hi8 e.price, lo8 e.price, e.kind, e.rowA, e.colA, e.rowB, e.colB, e.turns, e.runTime,
   e.retries, e.verify, e.continuous, e.trace, e.zone]

/-- SELECTION_TABLE_WRITE (R52). -/
def execSelectionTableWrite (src index : Byte) (entry : SelectionEntry) (s : State) : Host.Outcome State Fault Refusal :=
  act s (pump (fromController src 0x40
    (0x00 :: index :: entryBytes entry) s))

/-- COIN_TABLE_WRITE (R26). -/
def execCoinTableWrite (src index : Byte) (value : Half) (policy tube : Byte)
    (s : State) : Host.Outcome State Fault Refusal :=
  act s (pump (fromController src 0x40
    ([0x01, index] ++ bytes16 value ++ [policy, tube]) s))

/-- NOTE_TABLE_WRITE (R5). -/
def execNoteTableWrite (src index : Byte) (value : Half) (enabled changeTest : Byte)
    (s : State) : Host.Outcome State Fault Refusal :=
  act s (pump (fromController src 0x40
    ([0x02, index] ++ bytes16 value ++ [enabled, changeTest]) s))

/-- TUBE_CONFIGURATION_WRITE (R27). -/
def execTubeConfigurationWrite (src index cls capacity fullLevel : Byte) (s : State) : Host.Outcome State Fault Refusal :=
  act s (pump (fromController src 0x40
    [0x03, index, cls, capacity, fullLevel] s))

/-- NODE_TABLE_WRITE (R154). -/
def execNodeTableWrite (src index valid node port role : Byte) (s : State) : Host.Outcome State Fault Refusal :=
  act s (pump (fromController src 0x40
    [0x04, index, valid, node, port, role] s))

/-- DISPOSITION_TABLE_WRITE (R156). -/
def execDispositionTableWrite (src index enabled type ports dest action : Byte)
    (s : State) : Host.Outcome State Fault Refusal :=
  act s (pump (fromController src 0x40
    [0x05, index, enabled, type, ports, dest, action] s))

/-- FAULT_DISPOSITION_WRITE (R167). -/
def execFaultDispositionWrite (src index cls : Byte) (s : State) : Host.Outcome State Fault Refusal :=
  act s (pump (fromController src 0x40 [0x06, index, cls] s))

/-- CREDIT_SETTINGS_WRITE (R23). -/
def execCreditSettingsWrite (src index : Byte) (limit : Half) (vendMode : Byte)
    (s : State) : Host.Outcome State Fault Refusal :=
  act s (pump (fromController src 0x40
    ([0x07, index] ++ bytes16 limit ++ [vendMode]) s))

/-- CHANGE_SETTINGS_WRITE (R36, R48). -/
def execChangeSettingsWrite (src index allowance : Byte) (ceiling : Half)
    (s : State) : Host.Outcome State Fault Refusal :=
  act s (pump (fromController src 0x40
    ([0x08, index, allowance] ++ bytes16 ceiling) s))

/-- SUPPLY_SETTINGS_WRITE (R98). -/
def execSupplySettingsWrite (src index budget motor start run heater : Byte)
    (s : State) : Host.Outcome State Fault Refusal :=
  act s (pump (fromController src 0x40
    [0x09, index, budget, motor, start, run, heater] s))

/-- DRIVE_SETTINGS_WRITE (R86). -/
def execDriveSettingsWrite (src index : Byte) (threshold time : Half) (form number : Byte)
    (s : State) : Host.Outcome State Fault Refusal :=
  act s (pump (fromController src 0x40
    ([0x0A, index] ++ bytes16 threshold ++ bytes16 time ++ [form, number]) s))

/-- ZONE_TABLE_WRITE (R110). -/
def execZoneTableWrite (src index : Byte) (setpoint : Half) (differential : Byte)
    (s : State) : Host.Outcome State Fault Refusal :=
  act s (pump (fromController src 0x40
    ([0x0C, index] ++ bytes16 setpoint ++ [differential]) s))

/-- REFRIGERATION_SETTINGS_WRITE (R110). -/
def execRefrigerationSettingsWrite (src index limpOn limpOff interval : Byte) (terminate : Half)
    (s : State) : Host.Outcome State Fault Refusal :=
  act s (pump (fromController src 0x40
    ([0x0D, index, limpOn, limpOff, interval] ++ bytes16 terminate) s))

/-- SALE_HOLD_TABLE_WRITE (R129, R132). -/
def execSaleHoldTableWrite (src index enabled : Byte) (limit delay : Half)
    (s : State) : Host.Outcome State Fault Refusal :=
  act s (pump (fromController src 0x40
    ([0x0E, index, enabled] ++ bytes16 limit ++ bytes16 delay) s))

/-- ECONOMY_SETTINGS_WRITE (R134). -/
def execEconomySettingsWrite (src index mask : Byte) (dimDelay economyDelay : Half)
    (dimLevel offset : Byte) (s : State) : Host.Outcome State Fault Refusal :=
  act s (pump (fromController src 0x40
    ([0x0F, index, mask] ++ bytes16 dimDelay ++ bytes16 economyDelay ++ [dimLevel, offset]) s))

/-- SCHEDULE_TABLE_WRITE (R141). -/
def execScheduleTableWrite (src index enabled days : Byte) (startMinute endMinute : Half)
    (s : State) : Host.Outcome State Fault Refusal :=
  act s (pump (fromController src 0x40
    ([0x10, index, enabled, days] ++ bytes16 startMinute ++ bytes16 endMinute) s))

end Sys2Proof.Machine
end

