-- ==== Sys2Proof/Machine/Dispatch.lean ====
section
/-! DEFINITION. One arm per command of the table. -/

namespace Sys2Proof.Machine

def exec (i : Instr) (s : State) : Host.Outcome State Fault Refusal :=
  match i with
  | .coldReset straps edge => Sys2Proof.Machine.execColdReset straps edge s
  | .warmRestart => Sys2Proof.Machine.execWarmRestart s
  | .goodFrame port dest src type payload => Sys2Proof.Machine.execGoodFrame port dest src type payload s
  | .badFrame port cause => Sys2Proof.Machine.execBadFrame port cause s
  | .frameGapExpiry port => Sys2Proof.Machine.execFrameGapExpiry port s
  | .frameSent port => Sys2Proof.Machine.execFrameSent port s
  | .select selection preference => Sys2Proof.Machine.execSelect selection preference s
  | .cancel src tag => Sys2Proof.Machine.execCancel src tag s
  | .creditReturn => Sys2Proof.Machine.execCreditReturn s
  | .coinReturnLeverPress => Sys2Proof.Machine.execCoinReturnLeverPress s
  | .coinReturnLeverRelease => Sys2Proof.Machine.execCoinReturnLeverRelease s
  | .coinIn cls => Sys2Proof.Machine.execCoinIn cls s
  | .noteHeld cls => Sys2Proof.Machine.execNoteHeld cls s
  | .noteStacked cls => Sys2Proof.Machine.execNoteStacked cls s
  | .noteReturned cls => Sys2Proof.Machine.execNoteReturned cls s
  | .noteEscrowTimerExpiry => Sys2Proof.Machine.execNoteEscrowTimerExpiry s
  | .funds amount => Sys2Proof.Machine.execFunds amount s
  | .sessionEnd => Sys2Proof.Machine.execSessionEnd s
  | .settleAck tag => Sys2Proof.Machine.execSettleAck tag s
  | .settlementTimerExpiry tag => Sys2Proof.Machine.execSettlementTimerExpiry tag s
  | .solenoidPulseEnd => Sys2Proof.Machine.execSolenoidPulseEnd s
  | .exitPulse => Sys2Proof.Machine.execExitPulse s
  | .exitWaitExpiry => Sys2Proof.Machine.execExitWaitExpiry s
  | .gapEnd => Sys2Proof.Machine.execGapEnd s
  | .tinPulse tube => Sys2Proof.Machine.execTinPulse tube s
  | .cbinPulse => Sys2Proof.Machine.execCbinPulse s
  | .routeDeadlineExpiry number => Sys2Proof.Machine.execRouteDeadlineExpiry number s
  | .doorChange opened => Sys2Proof.Machine.execDoorChange opened s
  | .currentSample current => Sys2Proof.Machine.execCurrentSample current s
  | .motorStall => Sys2Proof.Machine.execMotorStall s
  | .motorOpen => Sys2Proof.Machine.execMotorOpen s
  | .switchSeenOpen motor => Sys2Proof.Machine.execSwitchSeenOpen motor s
  | .motorTurnEnd motors => Sys2Proof.Machine.execMotorTurnEnd motors s
  | .turnTimerExpiry timer => Sys2Proof.Machine.execTurnTimerExpiry timer s
  | .pauseEnd => Sys2Proof.Machine.execPauseEnd s
  | .timedRunEnd => Sys2Proof.Machine.execTimedRunEnd s
  | .tailEnd => Sys2Proof.Machine.execTailEnd s
  | .beamBroken => Sys2Proof.Machine.execBeamBroken s
  | .beamClear => Sys2Proof.Machine.execBeamClear s
  | .dropBlocked => Sys2Proof.Machine.execDropBlocked s
  | .traceSample current => Sys2Proof.Machine.execTraceSample current s
  | .supplyDefer => Sys2Proof.Machine.execSupplyDefer s
  | .probeSample airA airB coil => Sys2Proof.Machine.execProbeSample airA airB coil s
  | .zoneHeld zone => Sys2Proof.Machine.execZoneHeld zone s
  | .limpPhaseEnd zone => Sys2Proof.Machine.execLimpPhaseEnd zone s
  | .offTimerExpiry => Sys2Proof.Machine.execOffTimerExpiry s
  | .startWindowEnd => Sys2Proof.Machine.execStartWindowEnd s
  | .compressorStop => Sys2Proof.Machine.execCompressorStop s
  | .condenserRunOnEnd => Sys2Proof.Machine.execCondenserRunOnEnd s
  | .defrostPending => Sys2Proof.Machine.execDefrostPending s
  | .heatTimerExpiry => Sys2Proof.Machine.execHeatTimerExpiry s
  | .dripTimerExpiry => Sys2Proof.Machine.execDripTimerExpiry s
  | .dimEntry => Sys2Proof.Machine.execDimEntry s
  | .economyEntry => Sys2Proof.Machine.execEconomyEntry s
  | .timeOfWeekTick => Sys2Proof.Machine.execTimeOfWeekTick s
  | .selectionTableWrite src index entry => Sys2Proof.Machine.execSelectionTableWrite src index entry s
  | .coinTableWrite src index value policy tube => Sys2Proof.Machine.execCoinTableWrite src index value policy tube s
  | .noteTableWrite src index value enabled changeTest => Sys2Proof.Machine.execNoteTableWrite src index value enabled changeTest s
  | .tubeConfigurationWrite src index cls capacity fullLevel => Sys2Proof.Machine.execTubeConfigurationWrite src index cls capacity fullLevel s
  | .nodeTableWrite src index valid node port role => Sys2Proof.Machine.execNodeTableWrite src index valid node port role s
  | .dispositionTableWrite src index enabled type ports dest action => Sys2Proof.Machine.execDispositionTableWrite src index enabled type ports dest action s
  | .faultDispositionWrite src index cls => Sys2Proof.Machine.execFaultDispositionWrite src index cls s
  | .creditSettingsWrite src index limit vendMode => Sys2Proof.Machine.execCreditSettingsWrite src index limit vendMode s
  | .changeSettingsWrite src index allowance ceiling => Sys2Proof.Machine.execChangeSettingsWrite src index allowance ceiling s
  | .supplySettingsWrite src index budget motor start run heater => Sys2Proof.Machine.execSupplySettingsWrite src index budget motor start run heater s
  | .driveSettingsWrite src index threshold time form number => Sys2Proof.Machine.execDriveSettingsWrite src index threshold time form number s
  | .zoneTableWrite src index setpoint differential => Sys2Proof.Machine.execZoneTableWrite src index setpoint differential s
  | .refrigerationSettingsWrite src index limpOn limpOff interval terminate => Sys2Proof.Machine.execRefrigerationSettingsWrite src index limpOn limpOff interval terminate s
  | .saleHoldTableWrite src index enabled limit delay => Sys2Proof.Machine.execSaleHoldTableWrite src index enabled limit delay s
  | .economySettingsWrite src index mask dimDelay economyDelay dimLevel offset => Sys2Proof.Machine.execEconomySettingsWrite src index mask dimDelay economyDelay dimLevel offset s
  | .scheduleTableWrite src index enabled days startMinute endMinute => Sys2Proof.Machine.execScheduleTableWrite src index enabled days startMinute endMinute s
  | .tableRead src table index => Sys2Proof.Machine.execTableRead src table index s
  | .recordRead src record block => Sys2Proof.Machine.execRecordRead src record block s
  | .modeSetService src => Sys2Proof.Machine.execModeSetService src s
  | .modeSetSelling src => Sys2Proof.Machine.execModeSetSelling src s
  | .tubeSet src tube count => Sys2Proof.Machine.execTubeSet src tube count s
  | .tubeDispense src tube coins => Sys2Proof.Machine.execTubeDispense src tube coins s
  | .creditClear src => Sys2Proof.Machine.execCreditClear src s
  | .saleRelease src zone => Sys2Proof.Machine.execSaleRelease src zone s
  | .faultClear src index => Sys2Proof.Machine.execFaultClear src index s
  | .settleClear src tag => Sys2Proof.Machine.execSettleClear src tag s
  | .timeSet src second => Sys2Proof.Machine.execTimeSet src second s
  | .traceRelease src => Sys2Proof.Machine.execTraceRelease src s
  | .portRestart src port => Sys2Proof.Machine.execPortRestart src port s
  | .defrostNow src => Sys2Proof.Machine.execDefrostNow src s
  | .restart src => Sys2Proof.Machine.execRestart src s

end Sys2Proof.Machine
end

