-- ==== Sys2Proof/Machine/Framing.lean ====
section
/-! DEFINITION. Framing of a port (R144 to R146): the bytes a frame is sent as, the CRC, and the
assembly of received bytes. The commands of the table start where this ends: with a completed frame, a
bad frame or a sent frame (log entry 23). -/

namespace Sys2Proof.Machine

/-- One bit of the CRC: polynomial 0x1021 (R146). -/
def crcBit (c : Half) : Half := if c.msb then (c <<< 1) ^^^ 0x1021 else c <<< 1

/-- One content byte shifted into the CRC, most significant bit first (R146). -/
def crcByte (c : Half) (b : Byte) : Half :=
  (List.range 8).foldl (fun c _ => crcBit c) (c ^^^ (b ++ (0 : Byte)))

/-- The CRC of content bytes, initial value 0xFFFF (R146). -/
def crc (bytes : List Byte) : Half := bytes.foldl crcByte 0xFFFF

/-- Destination, source, type, length and payload (R161). -/
def Frame.header (f : Frame) : List Byte :=
  [f.dest, f.src, f.type, byteOf f.payload.length] ++ f.payload

/-- The content bytes of a frame with a fresh CRC (R146, R161). -/
def Frame.content (f : Frame) : List Byte := f.header ++ bytes16 (crc f.header)

/-- The escapes of one content byte (R144). -/
def escapeByte (b : Byte) : List Byte :=
  if b = 0xA5 then [0xA6, 0x05] else if b = 0xA6 then [0xA6, 0x06] else [b]

/-- A frame on the line: the start byte and the escaped content bytes (R144). -/
def lineBytes (f : Frame) : List Byte := 0xA5 :: f.content.flatMap escapeByte

/-- What a received byte brings about (R145). -/
inductive Received where
  /-- nothing is complete -/
  | more
  /-- a good frame -/
  | good (f : Frame)
  /-- the frame in assembly is bad -/
  | bad (cause : BadCause)
deriving DecidableEq, Repr

/-- The check of a complete frame (R146). -/
def checkFrame (content : List Byte) : Received :=
  match content with
  | d :: s :: t :: l :: rest =>
    let f : Frame := { dest := d, src := s, type := t, payload := rest.take l.toNat }
    if rest.drop l.toNat = bytes16 (crc (d :: s :: t :: l :: rest.take l.toNat)) then .good f
    else .bad .crc
  | _ => .bad .crc

/-- Whether the length byte has been assembled, and what it says (R145). -/
def lengthOf (content : List Byte) : Option Nat := (content[3]?).map (·.toNat)

/-- One content byte joins the frame in assembly (R145). -/
def takeContent (content : List Byte) (b : Byte) : Assembly × Received :=
  let c := content ++ [b]
  match lengthOf c with
  | none => (.inside c false, .more)
  | some l =>
    if 40 < l then (.outside, .bad .length)
    else if c.length = 4 + l + 2 then (.outside, checkFrame c)
    else (.inside c false, .more)

/-- One received byte (R145). -/
def receiveByte (a : Assembly) (b : Byte) : Assembly × Received :=
  match a with
  | .outside => if b = 0xA5 then (.inside [] false, .more) else (.outside, .more)
  | .inside content escape =>
    if b = 0xA5 then (.inside [] false, .bad .start)
    else if escape then
      if b = 0x05 then takeContent content 0xA5
      else if b = 0x06 then takeContent content 0xA6
      else (.outside, .bad .escape)
    else if b = 0xA6 then (.inside content true, .more)
    else takeContent content b

/-- Received bytes one after another, with everything they bring about (R145). -/
def receiveBytes : Assembly → List Byte → Assembly × List Received
  | a, [] => (a, [])
  | a, b :: bs =>
    let r := receiveByte a b
    let rs := receiveBytes r.1 bs
    (rs.1, if r.2 = .more then rs.2 else r.2 :: rs.2)

end Sys2Proof.Machine
end

