-- ==== Sys2Proof/Safety.lean ====
section
/-! DEFINITION. What counts as safe: the promises the rules make about every moment, each a proposition
about one state; and the words the statements use for what a command leaves behind. -/

namespace Sys2Proof.Machine

/-- The totals account for every unit of cash (R3). -/
def MoneyBalanced (s : State) : Prop :=
  s.money.totals.deposited =
    s.money.credit.cash + s.money.credit.payout + s.money.totals.sales + s.money.totals.paid
      + s.money.totals.written

/-- The points granted never exceed the budget (R101). -/
def WithinBudget (s : State) : Prop := pointsGranted s.supply ≤ s.supply.budget

/-- No tube count exceeds its tube's capacity (R27). -/
def TubesHold (s : State) : Prop :=
  ∀ t : TubeId, s.coins.tubes[t].count ≤ s.coins.tubes[t].capacity

/-- The in-flight list holds up to 4 records (R31). -/
def FlightsFit (s : State) : Prop := s.coins.inflight.length ≤ 4

/-- The event queue holds up to 16 records and a lost count up to 255 (R182). -/
def EventsFit (s : State) : Prop := s.events.queue.length ≤ 16 ∧ s.events.lost ≤ 255

/-- The vend queue holds up to 4 entries (R63). -/
def QueueFits (s : State) : Prop := s.vend.queue.length ≤ 4

/-- Card-funded entries and settlement records together number at most four (R62). -/
def CardPlacesFit (s : State) : Prop := cardCount s ≤ 4

/-- The cash side of the credit record is sound: C + Q keeps under its ceiling (R2), K is the sum of the
prices of the cash-funded entries and does not exceed C (R1, R17), and what a change run has still to pay,
its remainder included, does not exceed Q (R22), each entry of its plan having a coin and the coin under way
being the first of them (R41). -/
def CashSound (s : State) : Prop :=
  let c := s.money.credit
  let e := s.coins.engine
  c.cash.toNat + c.payout.toNat < 2 ^ 32 ∧
  c.committed.toNat = ((s.vend.queue.filter fun x => decide (x.funds = .cash)).map (·.price)).sum ∧
  c.committed.toNat ≤ c.cash.toNat ∧
  (e.phase ≠ .idle → e.manual = false →
    planValue s.coins e.plan + e.remainder.toNat ≤ c.payout.toNat) ∧
  (∀ x ∈ e.plan, 1 ≤ x.2) ∧
  (e.phase = .pulse ∨ e.phase = .exitWait → ∃ x rest, e.plan = x :: rest ∧ e.current = some x.1)

/-- The card side of the credit record is sound: KC is the sum of the prices of the card-funded entries and
does not exceed F while a session is OPEN or ENDING (R1, R12); without a session no entry is card-funded, in
ENDING each card-funded entry is DRIVING (R13), and only the head can be (R63). -/
def CardSound (s : State) : Prop :=
  let c := s.money.credit
  c.cardCommitted.toNat = ((s.vend.queue.filter fun x => decide (x.funds = .card)).map (·.price)).sum ∧
  (c.session ≠ .none → c.cardCommitted.toNat ≤ (c.funds.getD 0).toNat) ∧
  (c.session = .none → ∀ e ∈ s.vend.queue, e.funds = .cash) ∧
  (c.session = .ending → ∀ e ∈ s.vend.queue, e.funds = .card → e.driving = true) ∧
  ∀ e es, s.vend.queue = e :: es → ∀ x ∈ es, x.driving = false

/-- Each transmit queue keeps to its 6 places, and on port U frames other than REPLY to 5 of them (R150). -/
def QueuesHold (s : State) : Prop :=
  (∀ p : PortId, (s.port p).tx.length ≤ 6) ∧
  ((s.port 0).tx.filter fun f => !f.kind.isReply).length ≤ 5

/-- What waits in a port's pending list are the part's own frames: at most 4 note decisions, at most one
ACCEPT-SET, and SETTLE frames of different settlement records that the list still has (R152). -/
def PendingFit (s : State) : Prop :=
  ∀ p : PortId,
    let l := (s.port p).waiting
    (l.filter isDecision).length ≤ 4 ∧
    (l.filter fun f => f.type == typeAcceptSet).length ≤ 1 ∧
    ((l.filter fun f => f.type == typeSettle).map fun f => f.payload.head?).Nodup ∧
    ∀ f ∈ l, isDecision f = true ∨ f.type = typeAcceptSet ∨
      (f.type = typeSettle ∧ ∃ r ∈ s.money.settlements, f.payload.head? = some r.tag)

/-- A drive record exists only for the DRIVING head entry, under its tag and while the vend claim is granted
(R63, R68, R74); no other entry is DRIVING, and without a drive neither an entry nor a grant is left. -/
def DriveNeedsGrant (s : State) : Prop :=
  (∀ r, s.drive.record = some r → s.supply.vend.state = .granted ∧
    ∃ e es, s.vend.queue = e :: es ∧ e.driving = true ∧ e.tag = r.tag) ∧
  (s.drive.record = none → s.supply.vend.state ≠ .granted ∧ ∀ e ∈ s.vend.queue, e.driving = false) ∧
  ∀ e es, s.vend.queue = e :: es → ∀ x ∈ es, x.driving = false

/-- The relay is on in STARTING and RUNNING and under a granted claim alone, a waiting compressor claim stands
for WAITING-POWER, the heater is on under a granted claim alone, whose claim stands for HEATING, and in
HEATING and DRIPPING the compressor is LOCKED or READY (R115, R118, R125). -/
def LoadsApart (s : State) : Prop :=
  let c := s.cooling.compressor
  let d := s.cooling.defrost
  (c.relay = true ↔ c.state = .starting ∨ c.state = .running) ∧
  (s.supply.compressor.state = .granted ↔ c.relay = true) ∧
  (s.supply.compressor.state = .waiting ↔ c.state = .waitingPower) ∧
  (s.supply.heater.state = .granted ↔ d.heater = true) ∧
  (s.supply.heater.state ≠ .absent → d.state = .heating) ∧
  (d.state = .heating ∨ d.state = .dripping → c.state = .locked ∨ c.state = .ready)

/-- A zone's accumulator stays within its hold delay (R129). -/
def HoldsCount (s : State) : Prop :=
  ∀ z : ZoneId, s.cabinet.holds[z].accumulator ≤ s.cabinet.holds[z].delay

/-- The effective setpoint of a zone in ECONOMY never exceeds the larger of its setpoint and its sale
limit less 1.0 °C, and in ACTIVE and DIM it is the setpoint (R111). -/
def SetpointsClamped (s : State) : Prop :=
  ∀ z : ZoneId,
    s.cooling.zones[z].effective =
      effectiveOf s.cooling.zones[z].setpoint s.cabinet.holds[z].limit s.cabinet.economy.offset
        s.cabinet.economy.state

/-! ## What a command leaves behind -/

/-- What an EVENT frame carries of a record: code, subject, value and second, without the lost count
(R164, R182). -/
def Event.line (e : Event) : List Byte :=
  [e.code.byte, e.subject] ++ bytes32 e.value ++ bytes32 e.time

/-- The reports of the part that have not left it, oldest first: the EVENT frames in U's queue, then the
records of the event queue. -/
def reports (s : State) : List (List Byte) :=
  (((s.port 0).tx.filter fun f => decide (f.kind = .event)).map fun f => f.frame.payload.take 10)
    ++ s.events.queue.map Event.line

/-- State `t` is state `u` but for the event queue and for EVENT frames that have entered U's queue. -/
def SameButReports (u t : State) : Prop :=
  ∃ sent : List TxFrame, (∀ f ∈ sent, f.kind = .event) ∧
    t = { u with
      events := t.events
      link := { u.link with
        ports := u.link.ports.set 0 { u.port 0 with tx := (u.port 0).tx ++ sent } } }

/-- State `t` is state `u` but for its reports, which have gained these events, in this order, with the
second of the moment: all of them when the queue has room for them. -/
def Becomes (u : State) (es : List (EventCode × Byte × Word)) (t : State) : Prop :=
  SameButReports u t ∧
    (u.events.queue.length + es.length ≤ 16 →
      reports t = reports u ++ es.map fun e =>
        Event.line { code := e.1, subject := e.2.1, value := e.2.2, time := stamp u })

/-- What a service request leaves behind when its effect has led to `u`: the REPLY in U's queue, the
activity of kind SERVICE-REQUEST (R135), and the condition of R153 judged (log entry 7). -/
def answered (src type : Byte) (status : Status) (data : List Byte) (u : State) : State :=
  pump (activity .serviceRequest (reply src type status data .reply u))

/-- The frame that a request row stands for: its source node, type and payload (R163, R165); none for a row
that is no service request and no CANCEL. -/
def requestOf (c : Instr) : Option (Byte × Byte × List Byte) :=
  match c with
  | .cancel src tag => some (src, 0x21, [tag])
  | .selectionTableWrite src i e => some (src, 0x40,
      [0x00, i, e.enabled, hi8 e.price, lo8 e.price, e.kind, e.rowA, e.colA, e.rowB, e.colB, e.turns,
       e.runTime, e.retries, e.verify, e.continuous, e.trace, e.zone])
  | .coinTableWrite src i v p t => some (src, 0x40, [0x01, i, hi8 v, lo8 v, p, t])
  | .noteTableWrite src i v e c => some (src, 0x40, [0x02, i, hi8 v, lo8 v, e, c])
  | .tubeConfigurationWrite src i k c f => some (src, 0x40, [0x03, i, k, c, f])
  | .nodeTableWrite src i v n p r => some (src, 0x40, [0x04, i, v, n, p, r])
  | .dispositionTableWrite src i e t p d a => some (src, 0x40, [0x05, i, e, t, p, d, a])
  | .faultDispositionWrite src i c => some (src, 0x40, [0x06, i, c])
  | .creditSettingsWrite src i l m => some (src, 0x40, [0x07, i, hi8 l, lo8 l, m])
  | .changeSettingsWrite src i a c => some (src, 0x40, [0x08, i, a, hi8 c, lo8 c])
  | .supplySettingsWrite src i b m st r h => some (src, 0x40, [0x09, i, b, m, st, r, h])
  | .driveSettingsWrite src i t m f n => some (src, 0x40, [0x0A, i, hi8 t, lo8 t, hi8 m, lo8 m, f, n])
  | .zoneTableWrite src i p d => some (src, 0x40, [0x0C, i, hi8 p, lo8 p, d])
  | .refrigerationSettingsWrite src i a b h t => some (src, 0x40, [0x0D, i, a, b, h, hi8 t, lo8 t])
  | .saleHoldTableWrite src i e l d => some (src, 0x40, [0x0E, i, e, hi8 l, lo8 l, hi8 d, lo8 d])
  | .economySettingsWrite src i m d e l o => some (src, 0x40,
      [0x0F, i, m, hi8 d, lo8 d, hi8 e, lo8 e, l, o])
  | .scheduleTableWrite src i e d a b => some (src, 0x40, [0x10, i, e, d, hi8 a, lo8 a, hi8 b, lo8 b])
  | .tableRead src t i => some (src, 0x41, [t, i])
  | .modeSetService src => some (src, 0x42, [0])
  | .modeSetSelling src => some (src, 0x42, [1])
  | .recordRead src r b => some (src, 0x43, [r, b])
  | .tubeSet src t n => some (src, 0x44, [t, n])
  | .tubeDispense src t n => some (src, 0x45, [t, n])
  | .creditClear src => some (src, 0x46, [])
  | .saleRelease src z => some (src, 0x47, [z])
  | .faultClear src p => some (src, 0x48, [p])
  | .settleClear src t => some (src, 0x49, [t])
  | .timeSet src n => some (src, 0x4A, bytes32 n)
  | .traceRelease src => some (src, 0x4B, [])
  | .portRestart src p => some (src, 0x4C, [p])
  | .defrostNow src => some (src, 0x4D, [])
  | .restart src => some (src, 0x4E, [])
  | .coldReset _ _ | .warmRestart | .goodFrame _ _ _ _ _ | .badFrame _ _ | .frameGapExpiry _
  | .frameSent _ | .select _ _ | .creditReturn | .coinReturnLeverPress | .coinReturnLeverRelease
  | .coinIn _ | .noteHeld _ | .noteStacked _ | .noteReturned _ | .noteEscrowTimerExpiry | .funds _
  | .sessionEnd | .settleAck _ | .settlementTimerExpiry _ | .solenoidPulseEnd | .exitPulse
  | .exitWaitExpiry | .gapEnd | .tinPulse _ | .cbinPulse | .routeDeadlineExpiry _ | .doorChange _
  | .currentSample _ | .motorStall | .motorOpen | .switchSeenOpen _ | .motorTurnEnd _
  | .turnTimerExpiry _ | .pauseEnd | .timedRunEnd | .tailEnd | .beamBroken | .beamClear | .dropBlocked
  | .traceSample _ | .supplyDefer | .probeSample _ _ _ | .zoneHeld _ | .limpPhaseEnd _ | .offTimerExpiry
  | .startWindowEnd | .compressorStop | .condenserRunOnEnd | .defrostPending | .heatTimerExpiry
  | .dripTimerExpiry | .dimEntry | .economyEntry | .timeOfWeekTick => none

end Sys2Proof.Machine
end

