-- ==== Sys2Proof/Certificates/Slice0/Obligations.lean ====
section
/-! DEFINITION. The statements for the provers, chapter by chapter of the spec. `Becomes u es t` says that
`t` is the state `u` but for the events `es` that were raised on the way (Safety.lean); `answered` is what
a service request leaves behind. Where an effect goes on in another unit, the statement names the shared
operation that a statement of that unit's chapter describes. A statement about a command is about a part
that runs, RESETn being high (`resetLow = false`); what holds while RESETn is low is said by ColdResetValues
for every command. -/

open Sys2Proof Sys2Proof.Machine

/-! ## Credit (chapter 1) -/

/-- R4, R2, R31: a COIN-IN of a class with a value raises C and D by the value whatever the accept set, the
sales state and the limit, reports CREDIT with C − K, and its ROUTE appends the in-flight record toward
the tube whose flap stands at TUBE, or raises ROUTE-UNTRACKED when the list is full. C is passed on, and
the frame is an activity of kind COIN.
R4, R2: a COIN-IN of a class above 15 or without a value is reported as COIN-UNKNOWN, one that the
ceiling refuses as CREDIT-CEILING; neither changes anything but the reports and the activity.
Rests on the model's choices in log entries 6, 7 and 35. -/
def Obligations.CoinInCreditsRoutesOrRefuses : Prop :=
  (∀ (s : State) (c : Fin 16), s.resetLow = false →
    s.coins.table[c].value ≠ 0 →
    s.money.credit.cash.toNat + s.money.credit.payout.toNat + s.coins.table[c].value < 2 ^ 32 →
    let e := s.coins.table[c]
    let v := amount e.value
    let free := decide (s.coins.inflight.length < 4)
    let route := e.tube.bind fun t => if s.coins.tubes[t].flap = .tube then some t else none
    let made : Flight :=
      { cls := c, value := e.value, chute := e.tube, route := route, deadlineMs := 800
        number := s.coins.nextFlight }
    ∃ t, Becomes
        { s with
          money := { s.money with
            credit := { s.money.credit with cash := s.money.credit.cash + v }
            totals := { s.money.totals with deposited := s.money.totals.deposited + v } }
          coins := { s.coins with
            inflight := if free then s.coins.inflight ++ [made] else s.coins.inflight
            nextFlight := if free then s.coins.nextFlight + 1 else s.coins.nextFlight } }
        ((EventCode.credit, 0, s.money.credit.cash + v - s.money.credit.committed)
          :: if free then [] else [(EventCode.routeUntracked, byteOf c, v)]) t ∧
      exec (.coinIn (byteOf c)) s = .next (pump (activity .coin (recomputeAccept t)))) ∧
  (∀ (s : State) (cls : Byte), s.resetLow = false →
    (16 ≤ cls.toNat →
      ∃ t, Becomes s [(.coinUnknown, cls, 0)] t ∧
        exec (.coinIn cls) s = .next (pump (activity .coin t))) ∧
    ∀ c : Fin 16, cls = byteOf c →
      (s.coins.table[c].value = 0 →
        ∃ t, Becomes s [(.coinUnknown, cls, 0)] t ∧
          exec (.coinIn cls) s = .next (pump (activity .coin t))) ∧
      (s.coins.table[c].value ≠ 0 →
        2 ^ 32 ≤ s.money.credit.cash.toNat + s.money.credit.payout.toNat + s.coins.table[c].value →
        ∃ t, Becomes s [(.creditCeiling, cls, amount s.coins.table[c].value)] t ∧
          exec (.coinIn cls) s = .next (pump (activity .coin t))))

/-- R7, R9: the decision on a held note. With the record NONE it is STACK exactly under the five conditions
of R7 and RETURN otherwise, and the record takes class, value and the 10 s timer; in any other state of the
record the note is returned and the record stays. A decision beyond 4 pending ones is a drop of the
reader's port (R152).
Rests on the model's choices in log entries 7 and 31. -/
def Obligations.NoteHeldDecision : Prop :=
  ∀ (s : State) (n : Byte), s.resetLow = false →
    let stack : Prop := ∃ i : Fin 8, n = byteOf i ∧ s.vend.sales = .selling ∧
      s.money.notes[i].enabled = true ∧ s.money.notes[i].value ≠ 0 ∧
      s.money.credit.cash.toNat + s.money.notes[i].value ≤ s.money.credit.limit ∧
      (s.money.notes[i].changeTest = true → changeTest s.money.notes[i].value s = true) ∧
      s.money.credit.cash.toNat + s.money.credit.payout.toNat + s.money.notes[i].value < 2 ^ 32
    let value := ((readFin 8 n).map fun i => s.money.notes[i].value).getD 0
    let decided (d : EscrowState) : State :=
      { s with money := { s.money with
          escrow := { state := d, cls := n, value := value, timerMs := 10000 } } }
    (∀ m, roleEntry .noteReader s.link = some m →
        4 ≤ ((s.port m.port).waiting.filter isDecision).length →
        exec (.noteHeld n) s = .next (pump (overflowDrop m.port s))) ∧
    ((∀ m, roleEntry .noteReader s.link = some m →
        ((s.port m.port).waiting.filter isDecision).length < 4) →
      (s.money.escrow.state = .none → stack →
        exec (.noteHeld n) s =
          .next (pump (activity .note (sendOwn .noteReader 0x68 [n] (decided .decidedStack))))) ∧
      (s.money.escrow.state = .none → ¬ stack →
        exec (.noteHeld n) s =
          .next (pump (activity .note (sendOwn .noteReader 0x69 [n] (decided .decidedReturn))))) ∧
      (s.money.escrow.state ≠ .none →
        exec (.noteHeld n) s = .next (pump (activity .note (sendOwn .noteReader 0x69 [n] s)))))

/-- R8: the change test passes when no selection qualifies, when C plus the note is not above the smallest
price above 0 among those that do, or when the plan of the difference has remainder 0; and only then. -/
def Obligations.ChangeTestByCheapestSelection : Prop :=
  ∀ (s : State) (w : Nat),
    let qualifies (i : Fin 96) : Prop :=
      s.vend.selections[i].enabled = true ∧ s.vend.selections[i].empty = false ∧
      faultBlocks s.vend.selections[i] s = false ∧ heldBlocks s.vend.selections[i] s = false ∧
      0 < s.vend.selections[i].price
    changeTest w s = true ↔
      (∀ i, ¬ qualifies i) ∨
      ∃ i, qualifies i ∧ (∀ j, qualifies j → s.vend.selections[i].price ≤ s.vend.selections[j].price) ∧
        (s.money.credit.cash.toNat + w ≤ s.vend.selections[i].price ∨
          (payoutPlan [] (s.money.credit.cash.toNat + w - s.vend.selections[i].price) s).2 = 0)

/-- R10: what NOTE-STACKED does in each state of the record, with the recorded value. Where C and Q leave
room the credit is given (after NOTE-LATE when UNCERTAIN), else CREDIT-CEILING stands in place of CREDIT;
the record becomes NONE either way.
R10, R11: NOTE-RETURNED makes the record NONE in every state, without credit and without an event; the
expiry makes DECIDED-STACK UNCERTAIN with NOTE-UNCERTAIN and DECIDED-RETURN NONE, and does nothing in the
two states whose timer is stopped.
Rests on the model's choices in log entries 2 and 37. -/
def Obligations.NoteConfirmationsAndExpiry : Prop :=
  (∀ (s : State) (n : Byte), s.resetLow = false →
    let r := s.money.escrow
    let w := amount r.value
    let none : State := { s with money := { s.money with escrow := Reset.money.escrow } }
    let credited : State := { s with money := { s.money with
      escrow := Reset.money.escrow
      credit := { s.money.credit with cash := s.money.credit.cash + w }
      totals := { s.money.totals with deposited := s.money.totals.deposited + w } } }
    let fits := s.money.credit.cash.toNat + s.money.credit.payout.toNat + r.value < 2 ^ 32
    let late : List (EventCode × Byte × Word) :=
      if r.state = .uncertain then [(.noteLate, r.cls, w)] else []
    (r.state = .decidedStack ∨ r.state = .uncertain →
      (fits → ∃ t, Becomes credited
          (late ++ [(.credit, 0, s.money.credit.cash + w - s.money.credit.committed)]) t ∧
        exec (.noteStacked n) s = .next (pump (if w = 0 then t else recomputeAccept t))) ∧
      (¬ fits → ∃ t, Becomes none (late ++ [(.creditCeiling, 16 + r.cls, w)]) t ∧
        exec (.noteStacked n) s = .next t)) ∧
    (r.state = .decidedReturn → ∃ t, Becomes none [(.noteUnexpected, n, 0)] t ∧
      exec (.noteStacked n) s = .next t) ∧
    (r.state = .none → ∃ t, Becomes s [(.noteUnexpected, n, 0)] t ∧
      exec (.noteStacked n) s = .next t)) ∧
  (∀ (s : State) (n : Byte), s.resetLow = false →
    let r := s.money.escrow
    let none : State := { s with money := { s.money with escrow := Reset.money.escrow } }
    (∃ t, Becomes none [] t ∧ exec (.noteReturned n) s = .next t) ∧
    (r.state = .decidedStack →
      ∃ t, Becomes { s with money := { s.money with escrow := { r with state := .uncertain, timerMs := 0 } } }
          [(.noteUncertain, r.cls, amount r.value)] t ∧
        exec .noteEscrowTimerExpiry s = .next t) ∧
    (r.state = .decidedReturn → ∃ t, Becomes none [] t ∧ exec .noteEscrowTimerExpiry s = .next t) ∧
    (r.state = .none ∨ r.state = .uncertain →
      ∃ t, Becomes s [] t ∧ exec .noteEscrowTimerExpiry s = .next t))

/-- R12: FUNDS opens a session, replaces F while nothing is committed against it, and is reported as
ignored otherwise.
R13: SESSION-END with the session OPEN cancels the WAITING card-funded entries, then leaves the session
ENDING while a card-funded entry is DRIVING, or closes it with CARD-CLOSED; in NONE and ENDING it is ignored
but for its activity.
Rests on the model's choice in log entry 7. -/
def Obligations.CardSessionFrames : Prop :=
  (∀ (s : State) (a : Half), s.resetLow = false →
    let w : Word := a.setWidth 32
    let with_ (c : Credit) : State := { s with money := { s.money with credit := c } }
    let c := s.money.credit
    let acts (u : State) (es : List (EventCode × Byte × Word)) : Prop :=
      ∃ t, Becomes u es t ∧ exec (.funds a) s = .next (pump (activity .card t))
    (c.session = .none →
      acts (with_ { c with session := .opened, funds := some w, cardCommitted := 0 }) [(.cardOpen, 0, w)]) ∧
    (c.session = .opened → c.cardCommitted = 0 →
      acts (with_ { c with funds := some w }) [(.cardOpen, 0, w)]) ∧
    (c.session = .opened → c.cardCommitted ≠ 0 → acts s [(.fundsIgnored, 0, w)]) ∧
    (c.session = .ending → acts s [(.fundsIgnored, 0, w)])) ∧
  (∀ s : State, s.resetLow = false →
    let t := cancelWhere (fun e => decide (e.funds = .card)) .cardEnd s
    (s.money.credit.session = .opened → cardDriving t.vend = true →
      exec .sessionEnd s = .next (pump (activity .card
        { t with money := { t.money with credit := { t.money.credit with session := .ending } } }))) ∧
    (s.money.credit.session = .opened → cardDriving t.vend = false →
      ∃ v, Becomes { t with money := { t.money with
            credit := { t.money.credit with session := .none, funds := none } } }
          [(.cardClosed, 0, t.money.credit.funds.getD 0)] v ∧
        exec .sessionEnd s = .next (pump (activity .card v))) ∧
    (s.money.credit.session ≠ .opened → exec .sessionEnd s = .next (pump (activity .card s))))

/-- R15: SETTLE-ACK removes the record with its tag, with SETTLE-LATE when it was UNCONFIRMED, and is
reported as unknown when no record has it; the expiry of a SENT record makes it UNCONFIRMED in its place.
R16: SETTLE-CLEAR removes an UNCONFIRMED record and answers with its selection and amount; a SENT one
is answered NOT-READY, none CONFLICT.
R152: with a record that is removed the SETTLE of its tag leaves every pending list, and no other frame does
(log entry 45).
Rests on the model's choices in log entries 2, 7 and 45. -/
def Obligations.SettlementRecords : Prop :=
  (∀ (s : State) (tag : Byte), s.resetLow = false →
    let with_ (l : List Settlement) : State := { s with money := { s.money with settlements := l } }
    let gone (r : Settlement) : State := { with_ (s.money.settlements.erase r) with
      link := { s.link with ports := s.link.ports.map fun q => { q with
        waiting := q.waiting.filter fun f => decide (¬ (f.type = 0x78 ∧ f.payload.head? = some tag)) } } }
    (∀ r, s.money.settlements.find? (fun x => x.tag == tag) = some r →
      (r.state = .sent → ∃ t, Becomes (gone r) [] t ∧ exec (.settleAck tag) s = .next t) ∧
      (r.state = .unconfirmed → ∃ t, Becomes (gone r) [(.settleLate, tag, amount r.amount)] t ∧
        exec (.settleAck tag) s = .next t)) ∧
    ((∀ r ∈ s.money.settlements, r.tag ≠ tag) →
      ∃ t, Becomes s [(.settleUnknown, tag, 0)] t ∧ exec (.settleAck tag) s = .next t) ∧
    (∀ r, s.money.settlements.find? (fun x => x.tag == tag && decide (x.state = .sent)) = some r →
      ∃ t, Becomes (with_ (s.money.settlements.map fun x =>
            if x = r then { x with state := .unconfirmed, timerMs := 0 } else x))
          [(.settleUnconfirmed, tag, amount r.amount)] t ∧
        exec (.settlementTimerExpiry tag) s = .next t) ∧
    ((∀ r ∈ s.money.settlements, r.tag = tag → r.state ≠ .sent) →
      ∃ t, Becomes s [] t ∧ exec (.settlementTimerExpiry tag) s = .next t)) ∧
  (∀ (s : State) (src tag : Byte), s.resetLow = false → replyPlace s = true →
    let gone (r : Settlement) : State := { s with
      money := { s.money with settlements := s.money.settlements.erase r }
      link := { s.link with ports := s.link.ports.map fun q => { q with
        waiting := q.waiting.filter fun f => decide (¬ (f.type = 0x78 ∧ f.payload.head? = some tag)) } } }
    (∀ r, s.money.settlements.find? (fun x => x.tag == tag) = some r →
      (r.state = .unconfirmed →
        exec (.settleClear src tag) s =
          .next (answered src 0x49 .done (byteOf r.selection :: halfOf r.amount) (gone r))) ∧
      (r.state = .sent → exec (.settleClear src tag) s = .next (answered src 0x49 .notReady [] s))) ∧
    ((∀ r ∈ s.money.settlements, r.tag ≠ tag) →
      exec (.settleClear src tag) s = .next (answered src 0x49 .conflict [] s)))

/-- R21: a coin return moves C − K to Q with RETURN, passes C on and sends START; with C − K at 0 nothing
changes. The lever gives one request a press and the next only after a release.
Rests on the model's choices in log entries 8 and 10. -/
def Obligations.CoinReturnMovesUncommittedCash : Prop :=
  ∀ s : State, s.resetLow = false →
    let c := s.money.credit
    let r := c.cash - c.committed
    let moved (armed : Bool) : State := { s with money := { s.money with
      leverArmed := armed, credit := { c with cash := c.committed, payout := c.payout + r } } }
    let pressed : State := { s with money := { s.money with leverArmed := false } }
    (r ≠ 0 → ∃ t, Becomes (moved s.money.leverArmed) [(.coinReturn, 0, r)] t ∧
      exec .creditReturn s = .next (pump (start (recomputeAccept t)))) ∧
    (r = 0 → ∃ t, Becomes s [] t ∧ exec .creditReturn s = .next t) ∧
    (s.money.leverArmed = true → r ≠ 0 → ∃ t, Becomes (moved false) [(.coinReturn, 1, r)] t ∧
      exec .coinReturnLeverPress s = .next (pump (start (recomputeAccept t)))) ∧
    (s.money.leverArmed = true → r = 0 → ∃ t, Becomes pressed [] t ∧
      exec .coinReturnLeverPress s = .next t) ∧
    (s.money.leverArmed = false → ∃ t, Becomes s [] t ∧ exec .coinReturnLeverPress s = .next t) ∧
    ∃ t, Becomes { s with money := { s.money with leverArmed := true } } [] t ∧
      exec .coinReturnLeverRelease s = .next t

/-- R23, R24: CREDIT-CLEAR writes C − K off in SERVICE with an empty vend queue, and is answered MODE or
BUSY otherwise; the credit settings take a limit up to 60000 and a vend mode, and are refused with RANGE
otherwise, C standing as it is.
Rests on the model's choices in log entries 7 and 34. -/
def Obligations.CreditClearAndSettings : Prop :=
  ∀ (s : State) (src index mode : Byte) (limit : Half), s.resetLow = false → replyPlace s = true →
    let c := s.money.credit
    let off : State := { s with money := { s.money with
      credit := { c with cash := c.committed }
      totals := { s.money.totals with written := s.money.totals.written + (c.cash - c.committed) } } }
    (s.vend.sales ≠ .service →
      exec (.creditClear src) s = .next (answered src 0x46 .mode [] s)) ∧
    (s.vend.sales = .service → s.vend.queue ≠ [] →
      exec (.creditClear src) s = .next (answered src 0x46 .busy [] s)) ∧
    (s.vend.sales = .service → s.vend.queue = [] →
      exec (.creditClear src) s = .next (answered src 0x46 .done (bytes32 (c.cash - c.committed))
        (if c.committed = c.cash then off else recomputeAccept off))) ∧
    (∀ m, readVendMode mode = some m → limit.toNat ≤ 60000 → index = 0 →
      exec (.creditSettingsWrite src index limit mode) s = .next (answered src 0x40 .done [0x07, 0]
        (recomputeAccept { s with money := { s.money with
          credit := { c with limit := limit.toNat, vendMode := m } } }))) ∧
    (readVendMode mode = none ∨ 60000 < limit.toNat ∨ index ≠ 0 →
      exec (.creditSettingsWrite src index limit mode) s = .next (answered src 0x40 .range [] s))

/-- R3: the equality of the totals is kept by every step, whatever the state and the command.
Rests on the model's choice in log entry 1. -/
def Obligations.EveryStepKeepsMoneyBalanced : Prop :=
  ∀ s t : State, MoneyBalanced s → step s = .next t → MoneyBalanced t

/-! ## Coin tubes and change (chapter 2) -/

/-- R38: the limits every payout plan keeps. Its sum and its remainder make up the amount, it has at most as
many coins as the allowance, it takes from each tube no more than the tube's count, it names only eligible
tubes and no entry of 0, and it is empty for the amount 0 and without an eligible tube.
R36: a tube is eligible exactly under the four conditions, and the positions hold the eligible tubes, each once,
highest class value first and tubes of equal value in number order.
R37: the plan is the list of tubes and coins in position order, zero entries left out. A greedy pass takes at
each position exactly the smallest of count, floor(X / v) and allowance. Stage A stands with remainder 0; else
the first candidate of stage B with remainder 0 is the plan, position i having one coin fewer and a pass paying
the rest; and stage A stands when there is none. -/
def Obligations.PayoutPlanKeepsLimits : Prop :=
  (∀ (s : State) (excluded : List TubeId) (a : Nat),
    let p := payoutPlan excluded a s
    planValue s.coins p.1 + p.2 = a ∧
    planCoins p.1 ≤ s.coins.allowance ∧
    (∀ e ∈ p.1, 1 ≤ e.2 ∧ e.2 ≤ s.coins.tubes[e.1].count ∧ eligible excluded s e.1 = true) ∧
    (p.1.map Prod.fst).Nodup ∧
    (a = 0 → p = ([], 0)) ∧
    ((∀ t, eligible excluded s t = false) → p = ([], a))) ∧
  (∀ (s : State) (excluded : List TubeId),
    let ps := positions excluded s
    (∀ t, eligible excluded s t = true ↔
      1 ≤ tubeValue t s.coins ∧ jammed t s = false ∧ 1 ≤ s.coins.tubes[t].count ∧ t ∉ excluded) ∧
    (∀ p : Position, p ∈ ps ↔
      eligible excluded s p.tube = true ∧ p.value = tubeValue p.tube s.coins ∧
        p.count = s.coins.tubes[p.tube].count) ∧
    ps.Pairwise (fun p q => q.value < p.value ∨ (p.value = q.value ∧ p.tube < q.tube)) ∧
    ∀ a,
      let c := planCounts ps a s.coins.allowance
      payoutPlan excluded a s =
        (((ps.map fun p => p.tube).zip c.1).filter fun e => decide (e.2 ≠ 0), c.2)) ∧
  (∀ (here : Position) (behind : List Position) (x y : Nat),
    let n := min here.count (min (x / here.value) y)
    let rest := greedy behind (x - n * here.value) (y - n)
    greedy [] x y = ([], x) ∧ greedy (here :: behind) x y = (n :: rest.1, rest.2)) ∧
  ∀ (ps : List Position) (a l : Nat),
    let stageA := greedy ps a l
    let taken (i : Nat) : Nat := stageA.1.getD i 0
    let kept (i : Nat) : List Nat := stageA.1.take i ++ [taken i - 1]
    let rest (i : Nat) : List Nat × Nat := greedy (ps.drop (i + 1))
      (a - (((kept i).zip ps).map fun e => e.1 * e.2.value).sum) (l - (kept i).sum)
    let whole (i : Nat) : Prop := 1 ≤ taken i ∧ (rest i).2 = 0
    (stageA.2 = 0 → planCounts ps a l = stageA) ∧
    (∀ i, stageA.2 ≠ 0 → whole i → (∀ j < i, ¬ whole j) →
      planCounts ps a l = (kept i ++ (rest i).1, 0)) ∧
    (stageA.2 ≠ 0 → (∀ i, ¬ whole i) → planCounts ps a l = stageA)

/-- R47: the evaluation gives ASSURED exactly when the ceiling is 0, or when some tube is eligible and every
multiple of the smallest eligible value up to the ceiling plans with remainder 0; an evaluation that gives
the same state changes nothing at all. A change raises ASSURANCE, with subject 1 and value 0 for ASSURED and
subject 0 for NOT-ASSURED, whose value is the first multiple that fails or the ceiling when no tube is
eligible; then the accept set is recomputed. -/
def Obligations.AssuranceByMultiplesOfSmallestValue : Prop :=
  ∀ s : State,
    let ok : Prop := s.coins.ceiling = 0 ∨
      ∃ t, eligible [] s t = true ∧
        (∀ u, eligible [] s u = true → tubeValue t s.coins ≤ tubeValue u s.coins) ∧
        ∀ k, 1 ≤ k → k ≤ s.coins.ceiling / tubeValue t s.coins →
          (payoutPlan [] (k * tubeValue t s.coins) s).2 = 0
    let smallest (t : TubeId) : Prop := eligible [] s t = true ∧
      ∀ u, eligible [] s u = true → tubeValue t s.coins ≤ tubeValue u s.coins
    let changed (now : Bool) (value : Nat) : Prop :=
      ∃ u, Becomes { s with coins := { s.coins with assured := now } }
          [(.assurance, if now then 1 else 0, amount value)] u ∧
        evaluateAssurance s = recomputeAccept u
    ((evaluateAssurance s).coins.assured = true ↔ ok) ∧
    ((s.coins.assured = true ↔ ok) → evaluateAssurance s = s) ∧
    (s.coins.assured = false → ok → changed true 0) ∧
    (s.coins.assured = true → s.coins.ceiling ≠ 0 → (∀ t, eligible [] s t = false) →
      changed false s.coins.ceiling) ∧
    (∀ t k, s.coins.assured = true → smallest t → 1 ≤ k → k ≤ s.coins.ceiling / tubeValue t s.coins →
      (payoutPlan [] (k * tubeValue t s.coins) s).2 ≠ 0 →
      (∀ j, 1 ≤ j → j < k → (payoutPlan [] (j * tubeValue t s.coins) s).2 = 0) →
      changed false (k * tubeValue t s.coins))

/-- R49: the accept set holds a class exactly when its value is nonzero, its policy admits it, C plus the
value is within the limit, the part is SELLING with the door closed, and the validator's port, where the
node table names one, is not QUIET. A recomputation hands ACCEPT-SET with the 16 members to the node of the
COIN-VALIDATOR, and the set becomes the last issued, exactly when that node exists and the set differs from
the last issued or none was sent; in any other case it changes nothing. -/
def Obligations.AcceptSetMembers : Prop :=
  (∀ s : State,
    let set := acceptSet s
    let issued : State := sendOwn .coinValidator 0x58 [set.extractLsb' 8 8, set.extractLsb' 0 8]
      { s with coins := { s.coins with lastAccept := some set } }
    issueAccept s = issued ∧
    (∀ n, roleEntry .coinValidator s.link = some n → s.coins.lastAccept ≠ some set →
      recomputeAccept s = issued) ∧
    (roleEntry .coinValidator s.link = none ∨ s.coins.lastAccept = some set → recomputeAccept s = s)) ∧
  ∀ (s : State) (c : Fin 16),
    (acceptSet s).getLsbD c.val = true ↔
      s.coins.table[c].value ≠ 0 ∧
      (s.coins.table[c].policy = .always ∨
        (s.coins.table[c].policy = .whenAssured ∧ s.coins.assured = true)) ∧
      s.money.credit.cash.toNat + s.coins.table[c].value ≤ s.money.credit.limit ∧
      s.vend.sales = .selling ∧
      s.vend.doorOpen = false ∧
      (∀ n, roleEntry .coinValidator s.link = some n → (s.port n.port).state ≠ .quiet)

/-- R40, R42, R45: START plans Q with no tube excluded when the engine is IDLE and Q is above 0, sets the
start waiting flag in MANUAL, and does nothing else. A plan with coins begins its first coin's 40 ms pulse;
an empty one moves Q back to C with CREDIT, then raises CHANGE-SHORT and PAYOUT-DONE and leaves the engine
IDLE with an empty run record.
Rests on the model's choice in log entry 8. -/
def Obligations.StartPlansPendingPayout : Prop :=
  ∀ (s : State) (excluded : List TubeId) (done : Word),
    let q := s.money.credit.payout
    let p := payoutPlan excluded q.toNat s
    (s.coins.engine.phase = .idle → q ≠ 0 → start s = planRun [] 0 s) ∧
    (s.coins.engine.phase = .idle → q = 0 → start s = s) ∧
    (s.coins.engine.phase ≠ .idle → start s =
      { s with coins := { s.coins with engine := { s.coins.engine with
          startWaiting := s.coins.engine.startWaiting || s.coins.engine.manual } } }) ∧
    (∀ e rest, p.1 = e :: rest →
      let run : Engine :=
        { manual := false, phase := .pulse, timerMs := 40, plan := e :: rest, remainder := amount p.2,
          current := some e.1, excluded := excluded, paid := done, startWaiting := false }
      planRun excluded done s = { s with coins := { s.coins with engine := run } }) ∧
    (p.1 = [] →
      ∃ v w, Becomes { s with money := { s.money with
            credit := { s.money.credit with payout := 0, cash := s.money.credit.cash + q } } }
          [(.credit, 0, s.money.credit.cash + q - s.money.credit.committed)] v ∧
        Becomes (if q = 0 then v else recomputeAccept v) [(.changeShort, 0, q), (.payoutDone, 0, done)] w ∧
        planRun excluded done s = { w with coins := { w.coins with engine := Reset.engine } })

/-- R39, R41, R44, R45: the solenoid of the current tube is driven in the pulse and no other at any time. The 40 ms
pulse ends in the 500 ms exit wait; an exit pulse within the wait takes one coin
from the tube and from the plan and passes its value from Q to P, or in MANUAL to M, and the 120 ms gap
begins; any other exit pulse is a stray exit and changes nothing.
R42, R45: 500 ms without an exit pulse record TUBE-JAM, then a change run plans Q again without the tube
and a manual run ends.
R41, R43, R45: after the gap the next coin of the plan begins its pulse, a coin of a
JAMMED tube is left out in the same two ways, and a plan without coins ends: a change run gives its remainder
back and begins again while Q is above 0.
Rests on the model's choices in log entries 2 and 14. -/
def Obligations.PayoutCycle : Prop :=
  (∀ s : State, s.resetLow = false →
    let e := s.coins.engine
    let with_ (g : Engine) : State := { s with coins := { s.coins with engine := g } }
    (outputs s).solenoid = (if e.phase = .pulse then e.current else none) ∧
    (e.phase = .pulse → ∃ t, Becomes (with_ { e with phase := .exitWait, timerMs := 500 }) [] t ∧
      exec .solenoidPulseEnd s = .next t) ∧
    (e.phase ≠ .pulse → ∃ t, Becomes s [] t ∧ exec .solenoidPulseEnd s = .next t) ∧
    (∀ t, e.phase = .exitWait → e.current = some t →
      let v := amount (tubeValue t s.coins)
      let less : Tube := { s.coins.tubes[t] with count := s.coins.tubes[t].count - 1 }
      let m := s.money
      exec .exitPulse s = .next (pump (tubeChanged t
        { s with
          coins := { s.coins with
            engine := { e with phase := .gap, timerMs := 120, plan := loseCoin e.plan, paid := e.paid + v }
            tubes := s.coins.tubes.set t less }
          money := if e.manual then { m with totals := { m.totals with manual := m.totals.manual + v } }
            else { m with
              credit := { m.credit with payout := m.credit.payout - v }
              totals := { m.totals with paid := m.totals.paid + v } } }))) ∧
    (e.phase ≠ .exitWait ∨ e.current = none →
      ∃ t, Becomes s [(.strayExit, straySubject e, 0)] t ∧ exec .exitPulse s = .next t)) ∧
  (∀ s : State, s.resetLow = false →
    let e := s.coins.engine
    let ended (u v : State) : Prop :=
      ∃ w, Becomes u [(.payoutDone, 1, e.paid)] w ∧
        v = pump (if e.startWaiting = true ∧ u.money.credit.payout ≠ 0 then planRun [] 0 w
          else { w with coins := { w.coins with engine := Reset.engine } })
    (∀ t, e.phase = .exitWait → e.current = some t →
      let u := report .tubeJam t s
      (e.manual = false → exec .exitWaitExpiry s = .next (pump (planRun (e.excluded ++ [t]) e.paid u))) ∧
      (e.manual = true → ∃ v, ended u v ∧ exec .exitWaitExpiry s = .next v)) ∧
    (e.phase ≠ .exitWait → ∃ t, Becomes s [] t ∧ exec .exitWaitExpiry s = .next t) ∧
    (e.phase ≠ .gap → ∃ t, Becomes s [] t ∧ exec .gapEnd s = .next t) ∧
    (∀ t n rest, e.phase = .gap → e.plan = (t, n) :: rest →
      (jammed t s = false →
        ∃ v, Becomes { s with coins := { s.coins with
              engine := { e with phase := .pulse, timerMs := 40, current := some t } } } [] v ∧
          exec .gapEnd s = .next v) ∧
      (jammed t s = true → e.manual = false →
        exec .gapEnd s = .next (pump (planRun (e.excluded ++ [t]) e.paid s))) ∧
      (jammed t s = true → e.manual = true → ∃ v, ended s v ∧ exec .gapEnd s = .next v)) ∧
    (e.phase = .gap → e.plan = [] →
      (e.manual = true → ∃ v, ended s v ∧ exec .gapEnd s = .next v) ∧
      (e.manual = false →
        ∃ v w, (if e.remainder = 0 then v = s
          else v = raise .changeShort 0 e.remainder (unpaid e.remainder s)) ∧
          Becomes v [(.payoutDone, 0, e.paid)] w ∧
          exec .gapEnd s = .next (pump (if v.money.credit.payout = 0 then
              { w with coins := { w.coins with engine := Reset.engine } } else planRun [] 0 w)))))

/-- R30, R32, R33: a tube entry pulse removes the oldest record of its route, or is reported as UNCLAIMED-COIN
with the count after the pulse, and raises the count, or at capacity the overfill count with TUBE-OVERFILL; a
cash box pulse does the same without a count. A removed record lets the flap of its chute be set.
R30, R34: a deadline removes its record, sets the flap of its chute free and records ROUTE-LOST with the
route, 6 for the cash box; the deadline of a record that is gone is no event. A flap takes its target exactly when no
record of its chute is outstanding, and nothing else changes; its output is high for CASHBOX.
R27, R30, R48: a change of a tube's count, state or configuration lets its flap be set, and then the
assurance is evaluated.
Rests on the model's choices in log entries 2, 14 and 35. -/
def Obligations.CoinSensorsDeadlinesAndFlaps : Prop :=
  (∀ (s : State) (t : TubeId), s.resetLow = false →
    let tube := s.coins.tubes[t]
    let count := if tube.capacity ≤ tube.count then tube.count else tube.count + 1
    let without (r : Flight) : State :=
      chuteFreed r.chute { s with coins := { s.coins with inflight := s.coins.inflight.erase r } }
    let oldest (route : Option TubeId) : Option Flight := s.coins.inflight.find? fun r => decide (r.route = route)
    let counted (u : State) : State :=
      if tube.capacity ≤ tube.count then
        report .tubeOverfill t (u.mapTube t fun x => { x with overfill := min 255 (x.overfill + 1) })
      else tubeChanged t (u.mapTube t fun x => { x with count := x.count + 1 })
    (∀ r, oldest (some t) = some r → exec (.tinPulse t) s = .next (pump (counted (without r)))) ∧
    (oldest (some t) = none → ∃ v, Becomes s [(.unclaimedCoin, byteOf t, amount count)] v ∧
      exec (.tinPulse t) s = .next (pump (counted v))) ∧
    (∀ r, oldest none = some r → exec .cbinPulse s = .next (pump (without r))) ∧
    (oldest none = none → ∃ v, Becomes s [(.unclaimedCoin, 6, 0)] v ∧ exec .cbinPulse s = .next v)) ∧
  (∀ (s : State) (n : Nat) (t : TubeId), s.resetLow = false →
    let tube := s.coins.tubes[t]
    let target : Flap := if tube.fullLevel ≤ tube.count ∨ jammed t s = true then .cashbox else .tube
    (∀ r, s.coins.inflight.find? (fun x => decide (x.number = n)) = some r →
      exec (.routeDeadlineExpiry n) s = .next (pump (report .routeLost ((r.route.map Fin.val).getD 6)
        (chuteFreed r.chute { s with coins := { s.coins with inflight := s.coins.inflight.erase r } })))) ∧
    ((∀ r ∈ s.coins.inflight, r.number ≠ n) →
      ∃ v, Becomes s [] v ∧ exec (.routeDeadlineExpiry n) s = .next v) ∧
    (chuteFreed (some t) s =
      if ∃ r ∈ s.coins.inflight, r.chute = some t then s
      else { s with coins := { s.coins with tubes := s.coins.tubes.set t { tube with flap := target } } }) ∧
    chuteFreed none s = s ∧
    tubeChanged t s = evaluateAssurance (chuteFreed (some t) s) ∧
    (outputs s).flaps[t] = decide (tube.flap = .cashbox))

/-- R28, R45: TUBE-SET and TUBE-DISPENSE, check by check in their order: MODE outside SERVICE, RANGE, BUSY
while the engine runs, and for the dispense CONFLICT without a valued class and NOT-READY for a JAMMED tube.
DONE sets the count and clears the overfill count, or begins the manual run with the first pulse.
Rests on the model's choices in log entries 7 and 38. -/
def Obligations.TubeSetAndDispense : Prop :=
  ∀ (s : State) (src tube n : Byte), s.resetLow = false → replyPlace s = true →
    let setRange : Prop := ∃ t : TubeId, tube = byteOf t ∧ n.toNat ≤ s.coins.tubes[t].capacity
    let giveRange : Prop := ∃ t : TubeId, tube = byteOf t ∧ 1 ≤ n.toNat ∧ n.toNat ≤ 50 ∧
      n.toNat ≤ s.coins.tubes[t].count
    (s.vend.sales ≠ .service →
      exec (.tubeSet src tube n) s = .next (answered src 0x44 .mode [] s) ∧
      exec (.tubeDispense src tube n) s = .next (answered src 0x45 .mode [] s)) ∧
    (s.vend.sales = .service → ¬ setRange →
      exec (.tubeSet src tube n) s = .next (answered src 0x44 .range [] s)) ∧
    (s.vend.sales = .service → ¬ giveRange →
      exec (.tubeDispense src tube n) s = .next (answered src 0x45 .range [] s)) ∧
    (s.vend.sales = .service → setRange → s.coins.engine.phase ≠ .idle →
      exec (.tubeSet src tube n) s = .next (answered src 0x44 .busy [] s)) ∧
    (s.vend.sales = .service → giveRange → s.coins.engine.phase ≠ .idle →
      exec (.tubeDispense src tube n) s = .next (answered src 0x45 .busy [] s)) ∧
    ∀ t : TubeId, tube = byteOf t → s.vend.sales = .service → s.coins.engine.phase = .idle →
      (n.toNat ≤ s.coins.tubes[t].capacity →
        exec (.tubeSet src tube n) s = .next (answered src 0x44 .done []
          (tubeChanged t { s with coins := { s.coins with
            tubes := s.coins.tubes.set t { s.coins.tubes[t] with count := n.toNat, overfill := 0 } } }))) ∧
      (1 ≤ n.toNat → n.toNat ≤ 50 → n.toNat ≤ s.coins.tubes[t].count →
        (tubeValue t s.coins = 0 →
          exec (.tubeDispense src tube n) s = .next (answered src 0x45 .conflict [] s)) ∧
        (tubeValue t s.coins ≠ 0 → jammed t s = true →
          exec (.tubeDispense src tube n) s = .next (answered src 0x45 .notReady [] s)) ∧
        (tubeValue t s.coins ≠ 0 → jammed t s = false →
          let run : Engine :=
            { manual := true, phase := .pulse, timerMs := 40, plan := [(t, n.toNat)], remainder := 0,
              current := some t, excluded := [], paid := 0, startWaiting := false }
          exec (.tubeDispense src tube n) s = .next (answered src 0x45 .done []
            { s with coins := { s.coins with engine := run } })))

/-- R27: no step takes a tube's count above its capacity.
R14, R31, R62, R63, R150, R182: no step takes the vend queue, the in-flight list, the card places, the event
queue or a transmit queue above their sizes.
R152: no step takes a pending list above 4 note decisions, one ACCEPT-SET and one SETTLE a settlement record,
which are 9 frames at most.
Rests on the model's choices in log entries 1, 45 and 46. -/
def Obligations.EveryStepKeepsCountsAndListsInBounds : Prop :=
  (∀ s t : State, TubesHold s → step s = .next t → TubesHold t) ∧
  (∀ s t : State, step s = .next t →
    (QueueFits s → QueueFits t) ∧ (FlightsFit s → FlightsFit t) ∧ (QueuesHold s → QueuesHold t) ∧
    (QueueFits s → CardPlacesFit s → CardPlacesFit t) ∧ (EventsFit s → EventsFit t) ∧
    (QueueFits s → CardPlacesFit s → PendingFit s → PendingFit t)) ∧
  ∀ (s : State) (p : PortId), CardPlacesFit s → PendingFit s → (s.port p).waiting.length ≤ 9

/-- R1, R2, R12, R13, R17, R22: the soundness of the cash side and that of the card side of the credit record
are kept by every step: K does not exceed C, and KC does not exceed F while a session is OPEN or ENDING.
Rests on the model's choice in log entry 1. -/
def Obligations.EveryStepKeepsCashSound : Prop :=
  (∀ s t : State, CashSound s → step s = .next t → CashSound t) ∧
  ∀ s t : State, CardSound s → step s = .next t → CardSound t

/-! ## Selections and vending (chapter 3) -/

/-- R17: the funds choice of check 7, for every preference and price.
R61: check 4 fails exactly when an isolation names a motor of the selection, the curtain of one with
verify REQUIRED, or the air probe of its zone; check 5 exactly when its zone is HELD. An item is isolated
exactly while a record of class ISOLATE names it (R168). -/
def Obligations.CommitAndSelectConditions : Prop :=
  (∀ (s : State) (p : Preference) (price : Nat),
    let c := s.money.credit
    let cash : Prop := price = 0 ∨ (p ≠ .card ∧ c.committed.toNat + price ≤ c.cash.toNat)
    let card : Prop := p ≠ .cash ∧ c.session = .opened ∧
      c.cardCommitted.toNat + price ≤ (c.funds.getD 0).toNat
    let four : Prop := 4 ≤ (s.vend.queue.filter fun e => decide (e.funds = .card)).length
      + s.money.settlements.length
    (commitAnswer p price s = .cash ↔ cash) ∧
    (commitAnswer p price s = .settleFull ↔ ¬ cash ∧ card ∧ four) ∧
    (commitAnswer p price s = .card ↔ ¬ cash ∧ card ∧ ¬ four) ∧
    (commitAnswer p price s = .credit ↔ ¬ cash ∧ ¬ card)) ∧
  (∀ (s : State) (x : Selection) (i : Item),
    (faultBlocks x s = true ↔
      (∃ m ∈ x.motors, isolated (.motor m.index) s.faults = true) ∨
      (x.verify = true ∧ isolated .curtain s.faults = true) ∨
      ∃ z, x.zone = some z ∧ isolated (.airProbe z) s.faults = true) ∧
    (heldBlocks x s = true ↔ ∃ z, x.zone = some z ∧ s.cabinet.holds[z].held = true) ∧
    (isolated i s.faults = true ↔
      ∃ (p : Fin 24) (r : FaultRecord), s.faults.places[p] = some r ∧ classOf s.faults r.kind = .isolate ∧
        itemOf r.kind r.subject = some i))

/-- R61, R62: a SELECT meets checks 1 to 6 in their order and then the answer of the credit unit; the first
failure is reported as VEND-REFUSED with its reason and changes nothing else. An accepted one commits its
price, appends the entry under the first free tag from the count on, reports VEND-ACCEPTED and starts a new
head. Either is an activity of kind SELECT.
Rests on the model's choice in log entry 7. -/
def Obligations.SelectCheckedAndAccepted : Prop :=
  ∀ (s : State) (sel pref : Byte), s.resetLow = false →
    let leads (t : State) : Prop := exec (.select sel pref) s = .next (pump (activity .select t))
    let refused (code : Nat) : Prop := ∃ t, Becomes s [(.vendRefused, sel, amount code)] t ∧ leads t
    let taken (b : Byte) : Prop := b = 0xFF ∨ ∃ e ∈ s.vend.queue, e.tag = b
    let accepted (i : Fin 96) (f : Funds) : Prop :=
      let price := s.vend.selections[i].price
      let c := s.money.credit
      ∃ (k : Nat) (t : State),
        let tag : Byte := s.vend.nextTag + BitVec.ofNat 8 k
        ¬ taken tag ∧ (∀ j < k, taken (s.vend.nextTag + BitVec.ofNat 8 j)) ∧
        Becomes
          { s with
            money := { s.money with credit :=
              match f with
              | .cash => { c with committed := c.committed + amount price }
              | .card => { c with cardCommitted := c.cardCommitted + amount price } }
            vend := { s.vend with
              queue := s.vend.queue ++
                [{ tag := tag, selection := i, price := price, funds := f, driving := false }]
              nextTag := tag + 1 } }
          [(.vendAccepted, tag, amount i)] t ∧
        leads (startHead t)
    (s.vend.sales ≠ .selling → refused 1) ∧
    (s.vend.sales = .selling → 96 ≤ sel.toNat ∨ readPreference pref = none → refused 2) ∧
    ∀ (i : Fin 96) (p : Preference), s.vend.sales = .selling → sel = byteOf i → readPreference pref = some p →
      let x := s.vend.selections[i]
      if x.enabled = false then refused 2
      else if x.empty = true then refused 3
      else if faultBlocks x s = true then refused 4
      else if heldBlocks x s = true then refused 5
      else if 4 ≤ s.vend.queue.length then refused 6
      else
        (commitAnswer p x.price s = .credit → refused 7) ∧
        (commitAnswer p x.price s = .settleFull → refused 8) ∧
        (commitAnswer p x.price s = .cash → accepted i .cash) ∧
        (commitAnswer p x.price s = .card → accepted i .card)

/-- R64: CANCEL of a tag removes its WAITING entry and answers DONE with 1, is answered BUSY for a DRIVING one
and CONFLICT for none; CANCEL of 0xFF removes every WAITING entry and answers with their number. It is
answered like a service request but is no activity.
R65: a cancellation removes the WAITING entries it concerns and no others, oldest first, keeps the order
of the rest, returns the commitment of each, leaves C, Q, F and the totals, writes the last-outcome record of
the last one and reports VEND-DONE for each; the new head starts once, after them. Without such an entry
nothing changes.
Rests on the model's choice in log entry 7. -/
def Obligations.CancelRemovesWaitingEntries : Prop :=
  (∀ (s : State) (src tag : Byte), s.resetLow = false → replyPlace s = true →
    let answer (status : Status) (data : List Byte) (u : State) : Prop :=
      exec (.cancel src tag) s = .next (pump (reply src 0x21 status data .reply u))
    (tag = 0xFF →
      answer .done [byteOf (s.vend.queue.filter fun e => !e.driving).length]
        (cancelWhere (fun _ => true) .request s)) ∧
    (∀ e, tag ≠ 0xFF → s.vend.queue.find? (fun x => x.tag == tag) = some e →
      (e.driving = true → answer .busy [] s) ∧
      (e.driving = false → answer .done [1] (cancelWhere (fun x => x == e) .request s))) ∧
    (tag ≠ 0xFF → (∀ e ∈ s.vend.queue, e.tag ≠ tag) → answer .conflict [] s)) ∧
  (∀ (s : State) (p : Entry → Bool) (cause : CancelCause),
    let gone := s.vend.queue.filter fun e => !e.driving && p e
    let minus (f : Funds) (k : Word) : Word :=
      (gone.filter fun e => decide (e.funds = f)).foldl (fun k e => k - amount e.price) k
    (gone = [] → cancelWhere p cause s = s) ∧
    (∀ e, gone.getLast? = some e → ∃ v,
      cancelWhere p cause s = startHead v ∧
      v.vend = { s.vend with
        queue := s.vend.queue.filter fun e => e.driving || !p e
        lastOutcome := some { tag := e.tag, selection := e.selection, funds := e.funds,
                              outcome := .cancelled, cause := some cause } } ∧
      v.money = { s.money with credit := { s.money.credit with
        committed := minus .cash s.money.credit.committed
        cardCommitted := minus .card s.money.credit.cardCommitted } } ∧
      (s.events.queue.length + gone.length ≤ 16 →
        reports v = reports s ++ gone.map fun e =>
          Event.line { code := .vendDone, subject := e.tag, time := stamp s
                       value := packed (byteOf e.selection) 5 (cancelCode (some cause)) 0 })))

/-- R71, R72: the outcome of the DRIVING head entry. The selection's kept fields follow the outcome, the head
leaves the queue, NOT-DELIVERED taking the WAITING entries of its selection with it, and VEND-DONE reports it.
A report under another tag, or for a WAITING head, changes nothing.
R14, R18, R19: a delivery charges the price and counts the vend. Paid with cash, C and K fall by it, and SINGLE
moves what is left uncommitted to Q with START. Paid by card, F and KC fall by it, and the settlement record
with the first free tag is appended and its SETTLE sent.
R20: any other outcome charges nothing. K falls by the price of a cash-funded entry and KC by that of a
card-funded one, each cancelled entry likewise; C, Q and F stay. A card-funded head that an ENDING session
waits for closes the session at any outcome, with CARD-CLOSED. -/
def Obligations.OutcomeSettlesHead : Prop :=
  ∀ (s : State) (e : Entry) (es : List Entry) (o : VendOutcome), s.vend.queue = e :: es →
    let t := vendOutcome e.tag o s
    let price := amount e.price
    let x := s.vend.selections[e.selection]
    let c := s.money.credit
    let m := s.money.totals
    let d := t.money.credit
    let delivered := decide (o = .delivered ∨ o = .deliveredUnverified)
    let closes := decide (c.session = .ending ∧ e.funds = .card)
    let session := if closes then Session.none else c.session
    let gone := es.filter fun y => !y.driving && decide (o = .notDelivered ∧ y.selection = e.selection)
    let minus (f : Funds) (k : Word) : Word :=
      ((e :: gone).filter fun y => decide (y.funds = f)).foldl (fun k y => k - amount y.price) k
    (e.driving = false → t = s) ∧
    (∀ tag, tag ≠ e.tag → vendOutcome tag o s = s) ∧
    (e.driving = true →
      -- the selection, the queue and the reports
      t.vend.selections = s.vend.selections.set e.selection
        (match o with
         | .delivered | .deliveredUnverified => { x with vendCount := min 65535 (x.vendCount + 1) }
         | .notDelivered => { x with empty := true, failCount := min 255 (x.failCount + 1) }
         | .motorFault => { x with failCount := min 255 (x.failCount + 1) }
         | .cancelled | .aborted => x) ∧
      t.vend.queue.map (·.tag) = (es.filter fun y => y.driving ||
        !decide (o = .notDelivered ∧ y.selection = e.selection)).map (·.tag) ∧
      (gone = [] → t.vend.lastOutcome = some { tag := e.tag, selection := e.selection, funds := e.funds,
                                               outcome := o, cause := none }) ∧
      (s.events.queue.length ≤ 8 →
        let code : Byte := match o with
          | .delivered => 1 | .deliveredUnverified => 2 | .notDelivered => 3 | .motorFault => 4
          | .cancelled => 5 | .aborted => 6
        Event.line { code := .vendDone, subject := e.tag, time := stamp s
                     value := byteOf e.selection ++ code ++ (0 : Byte) ++ (0 : Byte) } ∈ reports t ∧
        (closes = true → Event.line { code := .cardClosed, subject := 0, time := stamp s
                                      value := (if delivered then c.funds.map (· - price) else c.funds).getD 0 }
          ∈ reports t)) ∧
      -- what is charged
      t.money.totals =
        (match delivered, e.funds with
         | true, .cash => { m with sales := m.sales + price, vends := m.vends + 1 }
         | true, .card => { m with cardSales := m.cardSales + price, vends := m.vends + 1 }
         | false, _ => m) ∧
      t.money.escrow = s.money.escrow ∧ t.money.notes = s.money.notes ∧
      t.money.leverArmed = s.money.leverArmed ∧
      (delivered = true → e.funds = .cash →
        let r := c.cash - c.committed
        let charged : Credit := { c with cash := c.cash - price, committed := c.committed - price }
        let moved : State := { s with money := { s.money with
          credit := { charged with cash := charged.committed, payout := c.payout + r } } }
        t.money.settlements = s.money.settlements ∧
        (c.vendMode = .multi ∨ r = 0 → d = charged ∧ t.coins.engine = s.coins.engine) ∧
        (c.vendMode = .single → r ≠ 0 →
          d = (start moved).money.credit ∧ t.coins.engine = (start moved).coins.engine)) ∧
      (delivered = true → e.funds = .card →
        d = { c with
          funds := if closes then none else c.funds.map (· - price)
          cardCommitted := c.cardCommitted - price
          session := session } ∧
        ∃ tag : Byte,
          let w := sendOwn .cardReader 0x78 ([tag, byteOf e.selection] ++ halfOf e.price) s
          t.money.settlements = s.money.settlements ++
            [{ tag := tag, selection := e.selection, amount := e.price, state := .sent, timerMs := 3000 }] ∧
          t.money.nextSettleTag = tag + 1 ∧
          (s.money.settlements.length ≤ 4 → ∃ k : Nat,
            let taken (b : Byte) : Prop := ∃ r ∈ s.money.settlements, r.tag = b
            tag = s.money.nextSettleTag + BitVec.ofNat 8 k ∧ ¬ taken tag ∧
            ∀ j < k, taken (s.money.nextSettleTag + BitVec.ofNat 8 j)) ∧
          ∀ p : PortId, (t.port p).waiting = (w.port p).waiting ∧
            ((t.port p).tx.filter fun f => decide (f.kind = .own)) =
              (w.port p).tx.filter fun f => decide (f.kind = .own)) ∧
      -- what is returned
      (delivered = false →
        d = { c with
          committed := minus .cash c.committed
          cardCommitted := minus .card c.cardCommitted
          session := session
          funds := if closes then none else c.funds } ∧
        t.money.settlements = s.money.settlements ∧ t.money.nextSettleTag = s.money.nextSettleTag))

/-- R54, R55: the cause set takes SELLING to SUSPENDED while it is not empty and back when it is, and changes
nothing in OFFLINE and SERVICE; a waiting vend claim does not outlive the entry to SUSPENDED. A change raises
SALES-STATE with the state and the causes added, 1 DOOR, 2 STOP, 4 LIST-FULL, and passes the accept set on.
R56: a change of the taken door state is judged by R55, passed to the accept set and to the economy unit;
the same level again is no change.
Rests on the model's choices in log entries 7 and 30. -/
def Obligations.SuspensionAndDoor : Prop :=
  (∀ (s : State) (new : SalesState),
    let stop : Prop := ∃ (p : Fin 24) (r : FaultRecord),
      s.faults.places[p] = some r ∧ classOf s.faults r.kind = .stop
    let none : Prop := s.vend.doorOpen = false ∧ ¬ stop ∧ s.faults.overflow = false
    let code := (if s.vend.doorOpen then 1 else 0) + (if stopPresent s.faults then 2 else 0)
      + (if s.faults.overflow then 4 else 0)
    (noCause s = true ↔ none) ∧
    (s.vend.sales = .selling → ¬ none → suspendCheck s = enterSales .suspended s ∧
      (suspendCheck s).supply.vend.state ≠ .waiting) ∧
    (s.vend.sales = .suspended → none → suspendCheck s = enterSales .selling s) ∧
    ((s.vend.sales = .selling ∧ none) ∨ (s.vend.sales = .suspended ∧ ¬ none) ∨ s.vend.sales = .offline ∨
      s.vend.sales = .service → suspendCheck s = s) ∧
    ∃ v, Becomes { s with vend := { s.vend with sales := new } } [(.salesState, new.code, amount code)] v ∧
      enterSales new s =
        match new with
        | .suspended => recomputeAccept (withdrawVend v)
        | .selling => startHead (recomputeAccept v)
        | .offline | .service => recomputeAccept v) ∧
  (∀ (s : State) (opened : Bool), s.resetLow = false →
    (s.vend.doorOpen ≠ opened → exec (.doorChange opened) s = .next (pump (activity .door
      (recomputeAccept (suspendCheck { s with vend := { s.vend with doorOpen := opened } }))))) ∧
    (s.vend.doorOpen = opened → ∃ t, Becomes s [] t ∧ exec (.doorChange opened) s = .next t))

/-- R58: the consistency check passes exactly when the node table, the coin table and the tube configuration
agree in all six of its rows. -/
def Obligations.ConsistencyCheckPasses : Prop :=
  ∀ s : State,
    let n (i : Fin 16) := s.link.nodes[i]
    let payment (r : Role) : Prop := r = .coinValidator ∨ r = .noteReader ∨ r = .cardReader
    inconsistency s = none ↔
      (∃ i, (n i).valid = true ∧ (n i).role = .machineController) ∧
      (∀ i, (n i).valid = true → (n i).role = .machineController → (n i).port = 0) ∧
      (∀ i, (n i).valid = true → payment (n i).role → (n i).port ≠ 0) ∧
      (∀ i j, i ≠ j → (n i).valid = true → (n j).valid = true → (n i).role = (n j).role →
        (n i).role ≠ .machineController ∧ ¬ payment (n i).role) ∧
      (∀ i, (n i).valid = true → (n i).node ≠ s.link.ownNode) ∧
      (∀ i j, i ≠ j → (n i).valid = true → (n j).valid = true → (n i).node ≠ (n j).node) ∧
      (∀ (c : Fin 16) (t : TubeId), s.coins.table[c].tube = some t → s.coins.tubes[t].cls = some c) ∧
      (∀ (t : TubeId) (c : Fin 16), s.coins.tubes[t].cls = some c → s.coins.table[c].tube = some t)

/-- R57, R60: MODE-SET in every sales state. Leaving OFFLINE or SERVICE needs the consistency check, whose
first failure is the data of CONFLICT, and makes every selection READY; SELLING becomes SUSPENDED while a
cause is present; SERVICE entered from SELLING or SUSPENDED cancels the WAITING entries; a target that holds
already is DONE without a change.
Rests on the model's choices in log entries 7 and 30. -/
def Obligations.ModeSetBySalesState : Prop :=
  ∀ (s : State) (src : Byte), s.resetLow = false → replyPlace s = true →
    let ready : State := { s with vend := { s.vend with
      selections := s.vend.selections.map fun x => { x with empty := false } } }
    let service (status : Status) (data : List Byte) (u : State) : Prop :=
      exec (.modeSetService src) s = .next (answered src 0x42 status data u)
    let selling (status : Status) (data : List Byte) (u : State) : Prop :=
      exec (.modeSetSelling src) s = .next (answered src 0x42 status data u)
    (s.vend.sales = .offline ∨ s.vend.sales = .service →
      (∀ e, inconsistency s = some e → selling .conflict [e.1, e.2] s ∧
        (s.vend.sales = .offline → service .conflict [e.1, e.2] s)) ∧
      (inconsistency s = none →
        (noCause s = true → selling .done [2] (enterSales .selling ready)) ∧
        (noCause s = false → selling .done [3] (enterSales .suspended ready)) ∧
        (s.vend.sales = .offline → service .done [1] (enterSales .service ready))) ∧
      (s.vend.sales = .service → service .done [1] s)) ∧
    (s.vend.sales = .selling ∨ s.vend.sales = .suspended →
      service .done [1] (cancelWhere (fun _ => true) .service (enterSales .service s)) ∧
      selling .done [if s.vend.sales = .selling then 2 else 3] s)

/-! ## Spiral matrix drive (chapter 4) -/

/-- R63, R74: the drive set is energised only while the vend claim is granted and for the DRIVING head entry,
in every state that a step leads to. The row and the columns of the drive set are the outputs that are on: the
columns of the motors of the drive that are on, with the row of motor A, and neither without a column.
Rests on the model's choice in log entry 1. -/
def Obligations.EveryStepKeepsDriveUnderGrant : Prop :=
  (∀ s t : State, DriveNeedsGrant s → step s = .next t → DriveNeedsGrant t) ∧
  ∀ s : State, s.resetLow = false →
    let o := outputs s
    (s.drive.record = none → o.row = none ∧ o.columns = []) ∧
    (∀ r, s.drive.record = some r →
      (∀ c : Fin 8, c ∈ o.columns ↔
        (r.a.on = true ∧ c = r.motorA.col) ∨ (r.b.on = true ∧ r.motorB = some c)) ∧
      (o.columns = [] → o.row = none) ∧ (o.columns ≠ [] → o.row = some r.motorA.row)) ∧
    (DriveNeedsGrant s → o.row ≠ none ∨ o.columns ≠ [] →
      s.supply.vend.state = .granted ∧ ∃ e es, s.vend.queue = e :: es ∧ e.driving = true)

/-- R75, R81, R88, R92, R93: the first energising makes the drive record from the selection, VERIFY only with
verify REQUIRED and a beam that is not BLOCKED, switches the columns on with 20 blanked samples ahead, marks
the last drive of the selection's motors and of no other, and takes the trace buffer of a traced selection
when it is FREE, with TRACE-BUSY when it is not.
Rests on the model's choice in log entry 25. -/
def Obligations.FirstEnergisingMakesDrive : Prop :=
  ∀ (s : State) (tag : Byte) (x : Selection),
    let t := firstEnergise tag x s
    let turn (on : Bool) : MotorTurn := { on := on, turn := if on then .leaving else .ended,
                                          timerMs := if on then 8000 else 0 }
    let interval := match s.drive.settings.form with
      | .coarse => 10 * 2 ^ s.drive.settings.number
      | .fine => 10 * (s.drive.settings.number + 1)
    t.drive.phase = .energised ∧ t.drive.stallRun = 0 ∧ t.drive.openRun = 0 ∧ t.drive.blankLeft = 20 ∧
    t.drive.lastTag = tag ∧
    (∃ r, t.drive.record = some r ∧ r.tag = tag ∧ r.kind = x.kind ∧ r.motorA = x.motorA ∧
      r.motorB = x.motorB ∧ r.turns = x.turns ∧ r.runTime = x.runTime ∧ r.retriesLeft = x.retries ∧
      r.continuous = x.continuous ∧ r.trace = x.trace ∧ r.turnsDone = 0 ∧ r.drops = 0 ∧
      (r.verify = true ↔ x.verify = true ∧ s.drive.monitor ≠ .blocked) ∧
      (x.kind ≠ .timed → r.a = turn true ∧ r.b = turn (decide (x.kind = .twinSpiral))) ∧
      (x.kind = .timed → r.a.on = true ∧ r.b.on = false ∧ r.phaseMs = x.runTime * 100)) ∧
    (∀ i : Fin 80, t.drive.lastDrive[i] =
      if ∃ m ∈ x.motors, m.index = i then tag else s.drive.lastDrive[i]) ∧
    (x.trace = true → s.drive.trace.state = .free → t.drive.trace.state = .filling ∧
      t.drive.trace.tag = tag ∧ t.drive.trace.motor = x.motorA.index ∧
      t.drive.trace.intervalMs = interval ∧ t.drive.trace.samples.length = 1 ∧ reports t = reports s) ∧
    (x.trace = true → s.drive.trace.state ≠ .free → t.drive.trace = s.drive.trace ∧
      (s.events.queue.length < 16 → reports t = reports s ++
        [Event.line { code := .traceBusy, subject := tag, value := 0, time := stamp s }])) ∧
    (x.trace = false → t.drive.trace = s.drive.trace ∧ reports t = reports s)

/-- R81 to R83, R85: a current sample while columns are on. A blanked one leaves both runs at 0; a judged one
moves the stall run (not of a TIMED drive) and the open run, and the sample that completes a run ends the
drive with MOTOR-STALL or MOTOR-OPEN against the motors whose columns are on. With no column on nothing is
sampled.
R82 to R85: a stall, an open circuit or a lost home takes the drive to IDLE, hands the fault to the list
for each motor named, and then reports MOTOR-FAULT under the tag. The rows MOTOR_STALL and MOTOR_OPEN are the
judged sample that completes the run, TURN_TIMER_EXPIRY names its own motor alone, and the expiry of a turn
or of a drive that has ended has no effect (log entries 2, 3 and 35).
Rests on the model's choices in log entries 2, 3, 14, 25, 35 and 49. -/
def Obligations.CurrentChecksAndDriveFaults : Prop :=
  (∀ (s : State) (b : Byte), s.resetLow = false →
    let d := s.drive
    let ma := b.toNat * 10
    (∀ r, d.record = some r → d.phase = .energised → r.columns ≠ [] →
      let limit := if r.a.on && r.b.on then min 2550 (2 * d.settings.threshold) else d.settings.threshold
      let stall := if r.kind ≠ .timed ∧ limit ≤ ma then d.stallRun + 1 else 0
      let openRun := if ma < 60 then d.openRun + 1 else 0
      let judged : State := { s with drive := { d with stallRun := stall, openRun := openRun } }
      let stalled : Prop := r.kind ≠ .timed ∧ 0 < stall ∧ d.settings.stallMs / 10 ≤ stall
      (0 < d.blankLeft → ∃ t,
        Becomes { s with drive := { d with blankLeft := d.blankLeft - 1, stallRun := 0, openRun := 0 } } [] t ∧
        exec (.currentSample b) s = .next t) ∧
      (d.blankLeft = 0 → stalled →
        exec (.currentSample b) s = .next (pump (driveFault .motorStall r.energised r judged))) ∧
      (d.blankLeft = 0 → ¬ stalled → 30 ≤ openRun →
        exec (.currentSample b) s = .next (pump (driveFault .motorOpen r.energised r judged))) ∧
      (d.blankLeft = 0 → ¬ stalled → openRun < 30 →
        ∃ t, Becomes judged [] t ∧ exec (.currentSample b) s = .next t)) ∧
    ((∀ r, d.record = some r → d.phase = .energised → r.columns = []) →
      ∃ t, Becomes s [] t ∧ exec (.currentSample b) s = .next t)) ∧
  (∀ (s : State) (r : Drive) (m : MotorSel), s.resetLow = false → s.drive.record = some r → s.drive.phase = .energised →
    let q : Drive := { r with a := { r.a with on := false }, b := { r.b with on := false } }
    let off : State := { s with drive := { s.drive with
      phase := .idle, record := some q, stallRun := 0, openRun := 0, blankLeft := 0 } }
    let after (k : FaultKind) (l : List Motor) : State :=
      let u := l.foldl (fun v x => report k x.index v) off
      vendOutcome r.tag .motorFault { u with drive := { u.drive with
        phase := .idle, record := none, stallRun := 0, openRun := 0, blankLeft := 0
        trace := if u.drive.trace.state = .filling then { u.drive.trace with state := .full }
          else u.drive.trace } }
    let on : List Motor := ((if r.a.on then [r.motorA.col] else []) ++
      (if r.b.on then r.motorB.toList else [])).map fun c => { row := r.motorA.row, col := c }
    let turn := match m with | .a => r.a | .b => r.b
    let own : Motor := match m with
      | .a => r.motorA
      | .b => { row := r.motorA.row, col := r.motorB.getD r.motorA.col }
    (r.kind ≠ .timed → on ≠ [] → s.drive.blankLeft = 0 →
      s.drive.settings.stallMs / 10 ≤ s.drive.stallRun + 1 →
      exec .motorStall s = .next (pump (after .motorStall on))) ∧
    (on ≠ [] → s.drive.blankLeft = 0 → 30 ≤ s.drive.openRun + 1 →
      exec .motorOpen s = .next (pump (after .motorOpen on))) ∧
    (turn.on = true → turn.turn ≠ .ended →
      exec (.turnTimerExpiry { tag := r.tag, turn := r.turnsDone, motor := m }) s
        = .next (pump (after .motorHomeLost [own]))) ∧
    (∀ x : TurnTimer, x.tag ≠ r.tag ∨ x.turn ≠ r.turnsDone ∨
        (x.motor = m ∧ (turn.on = false ∨ turn.turn = .ended)) →
      ∃ t, Becomes s [] t ∧ exec (.turnTimerExpiry x) s = .next t))

/-- R76: a switch seen open for 100 ms takes the turn of its motor from LEAVING to AWAY, and is no event in
any other turn state, with the motor off or for another drive.
R77, R78, R80: closing home switches end the turns of the motors that are on and AWAY, and no other. While
the other motor's turn goes on, only the column of the ended one is switched off and both runs start again.
When no turn is left, the drive has done one more turn: below the number of turns it goes on, at once with the
columns on when continuous (with blanking only when a column was off), else after the 250 ms pause with the
drive set empty; at the number of turns it is the end of the last turn.
Rests on the model's choices in log entries 2, 25, 32 and 35. -/
def Obligations.HomeSwitchTurns : Prop :=
  (∀ (s : State) (r : Drive) (m : MotorSel), s.resetLow = false → s.drive.record = some r → s.drive.phase = .energised →
    let turn := match m with | .a => r.a | .b => r.b
    let away : MotorTurn := { turn with turn := .away }
    let q : Drive := match m with | .a => { r with a := away } | .b => { r with b := away }
    (turn.on = true → turn.turn = .leaving →
      ∃ t, Becomes { s with drive := { s.drive with record := some q } } [] t ∧
        exec (.switchSeenOpen { tag := r.tag, motor := m }) s = .next t) ∧
    (∀ x : DriveMotor, x.tag ≠ r.tag ∨ (x.motor = m ∧ (turn.on = false ∨ turn.turn ≠ .leaving)) →
      ∃ t, Becomes s [] t ∧ exec (.switchSeenOpen x) s = .next t)) ∧
  (∀ (s : State) (r : Drive) (m : TurnEnd), s.resetLow = false → s.drive.record = some r → s.drive.phase = .energised →
    let d := s.drive
    let endsA := decide (m ≠ .b) && (r.a.on && decide (r.a.turn = .away))
    let endsB := decide (m ≠ .a) && (r.b.on && decide (r.b.turn = .away))
    let a : MotorTurn := if endsA then { r.a with turn := .ended, timerMs := 0 } else r.a
    let b : MotorTurn := if endsB then { r.b with turn := .ended, timerMs := 0 } else r.b
    let q : Drive := { r with a := a, b := b, turnsDone := r.turnsDone + 1 }
    let leads (u : State) : Prop := ∃ t, Becomes u [] t ∧ exec (.motorTurnEnd m) s = .next t
    let one : Drive := { r with a := { a with on := a.on && !endsA }, b := { b with on := b.on && !endsB } }
    let paused : Drive := { q with
      a := { a with on := false }, b := { b with on := false }, phaseMs := 250 }
    let blank : Bool := decide (r.kind = .twinSpiral) && !(a.on && b.on)
    (endsA = false ∧ endsB = false → leads s) ∧
    (endsA = true ∨ endsB = true →
      (a.turn ≠ .ended ∨ b.turn ≠ .ended →
        leads { s with drive := { d with record := some one, stallRun := 0, openRun := 0 } }) ∧
      (a.turn = .ended → b.turn = .ended →
        (r.turns ≤ r.turnsDone + 1 → exec (.motorTurnEnd m) s = .next (pump (endOfLastTurn q s))) ∧
        (r.turnsDone + 1 < r.turns → r.continuous = false →
          leads { s with drive := { d with
            phase := .paused, record := some paused, stallRun := 0, openRun := 0, blankLeft := 0 } }) ∧
        (r.turnsDone + 1 < r.turns → r.continuous = true →
          leads { s with drive := { d with
            record := some q.switchOn
            stallRun := if blank then 0 else d.stallRun
            openRun := if blank then 0 else d.openRun
            blankLeft := if blank then 20 else d.blankLeft } }))))

/-- R77, R79, R80, R89, R90: the pause ends in a new turn with blanking; a TIMED run ends as a last turn does;
the end of the last turn reports DELIVERED when VERIFY has a drop, and else begins the 1,200 ms tail; the tail
ends DELIVERED-UNVERIFIED, DELIVERED, with a retry turn, or NOT-DELIVERED.
Rests on the model's choices in log entries 2 and 25. -/
def Obligations.PauseRunAndTailEnd : Prop :=
  ∀ (s : State) (r : Drive), s.resetLow = false → s.drive.record = some r →
    let d := s.drive
    let turn (x : Drive) : State := { s with drive := { d with
      phase := .energised, record := some x.switchOn, stallRun := 0, openRun := 0, blankLeft := 20 } }
    let tail : Drive := { r with
      a := { r.a with on := false }, b := { r.b with on := false }, phaseMs := 1200 }
    let inTail : State := { s with drive := { d with
      phase := .tail, record := some tail, stallRun := 0, openRun := 0, blankLeft := 0 } }
    let idle (u : State) : State := { u with drive := { u.drive with
      phase := .idle, record := none, stallRun := 0, openRun := 0, blankLeft := 0
      trace := if u.drive.trace.state = .filling then { u.drive.trace with state := .full }
        else u.drive.trace } }
    let ends (o : VendOutcome) : Prop := exec .tailEnd s = .next (pump (vendOutcome r.tag o (idle s)))
    (d.phase = .paused → ∃ t, Becomes (turn r) [] t ∧ exec .pauseEnd s = .next t) ∧
    (d.phase ≠ .paused → ∃ t, Becomes s [] t ∧ exec .pauseEnd s = .next t) ∧
    (d.phase = .energised → r.kind = .timed →
      exec .timedRunEnd s = .next (pump (endOfLastTurn r s))) ∧
    (d.phase ≠ .energised ∨ r.kind ≠ .timed → ∃ t, Becomes s [] t ∧ exec .timedRunEnd s = .next t) ∧
    (r.verify = true → 1 ≤ r.drops → endOfLastTurn r s = vendOutcome r.tag .delivered (idle inTail)) ∧
    (r.verify = false ∨ r.drops = 0 → endOfLastTurn r s = inTail) ∧
    (d.phase = .tail →
      (r.verify = false → ends .deliveredUnverified) ∧
      (r.verify = true → 1 ≤ r.drops → ends .delivered) ∧
      (r.verify = true → r.drops = 0 → r.retriesLeft = 0 → ends .notDelivered) ∧
      (r.verify = true → r.drops = 0 → 1 ≤ r.retriesLeft →
        ∃ t, Becomes (turn { r with retriesLeft := r.retriesLeft - 1 }) [] t ∧
          exec .tailEnd s = .next t)) ∧
    (d.phase ≠ .tail → ∃ t, Becomes s [] t ∧ exec .tailEnd s = .next t)

/-- R87, R88, R91: a broken beam counts a drop when the monitor was CLEAR: the first of a drive silently, ending
a VERIFY drive in its tail DELIVERED, a later one with EXTRA-DROP, one without a drive as STRAY-DROP. The
first level after cold reset counts none. A beam broken for 2 s is BLOCKED, with DROP-BLOCKED handed to the
fault list, and a drive without a drop loses VERIFY; a clear beam ends that condition.
Rests on the model's choices in log entries 2 and 14. -/
def Obligations.BeamAndDrops : Prop :=
  ∀ s : State, s.resetLow = false →
    let d := s.drive
    let broken (r : Option Drive) : State :=
      { s with drive := { d with record := r, monitor := .broken, brokenMs := 5 } }
    let clear : State := { s with drive := { d with monitor := .clear, brokenMs := 0 } }
    let lost (r : Drive) : Drive := if r.drops = 0 then { r with verify := false } else r
    let counted (r : Drive) : Drive := { r with drops := min 255 (r.drops + 1) }
    (d.monitor = .clear →
      (d.record = none →
        ∃ t, Becomes (broken none) [(.strayDrop, d.lastTag, 0)] t ∧ exec .beamBroken s = .next t) ∧
      (∀ r, d.record = some r → 1 ≤ r.drops →
        ∃ t, Becomes (broken (some (counted r))) [(.extraDrop, r.tag, amount (min 255 (r.drops + 1)))] t ∧
          exec .beamBroken s = .next t) ∧
      (∀ r, d.record = some r → r.drops = 0 →
        (r.verify = true → d.phase = .tail →
          exec .beamBroken s = .next (pump (endDrive (counted r) .delivered (broken (some (counted r)))))) ∧
        (r.verify = false ∨ d.phase ≠ .tail →
          ∃ t, Becomes (broken (some (counted r))) [] t ∧ exec .beamBroken s = .next t))) ∧
    (d.monitor = .unknown → ∃ t, Becomes (broken d.record) [] t ∧ exec .beamBroken s = .next t) ∧
    (d.monitor = .broken ∨ d.monitor = .blocked →
      ∃ t, Becomes s [] t ∧ exec .beamBroken s = .next t) ∧
    (d.monitor = .blocked → exec .beamClear s = .next (pump (conditionEnded .dropBlocked 0 clear))) ∧
    (d.monitor ≠ .blocked → ∃ t, Becomes clear [] t ∧ exec .beamClear s = .next t) ∧
    (d.monitor = .broken → exec .dropBlocked s = .next (pump (report .dropBlocked 0
      { s with drive := { d with
        record := d.record.map lost, monitor := .blocked, brokenMs := max d.brokenMs 2000 } }))) ∧
    (d.monitor ≠ .broken → ∃ t, Becomes s [] t ∧ exec .dropBlocked s = .next t)

/-- R93 to R95: a trace sample joins a FILLING buffer, as 0 mA while the drive set is empty, and the 64th makes
it FULL; TRACE-RELEASE frees the buffer in any state.
Rests on the model's choices in log entries 2, 5 and 7. -/
def Obligations.TraceFillsAndIsReleased : Prop :=
  ∀ (s : State) (b src : Byte), s.resetLow = false →
    let t := s.drive.trace
    let value := if (driveSet s.drive).isSome then b else 0
    let more : Trace := { t with
      samples := t.samples ++ [value]
      state := if 64 ≤ t.samples.length + 1 then .full else .filling }
    (t.state = .filling → ∃ v, Becomes { s with drive := { s.drive with trace := more } } [] v ∧
      exec (.traceSample b) s = .next v) ∧
    (t.state ≠ .filling → ∃ v, Becomes s [] v ∧ exec (.traceSample b) s = .next v) ∧
    (replyPlace s = true → exec (.traceRelease src) s = .next (answered src 0x4B .done []
      { s with drive := { s.drive with trace :=
          { state := .free, tag := 0, motor := 0, intervalMs := 0, samples := [] } } }))

/-! ## Supply budget (chapter 5) -/

/-- R101: the points granted never exceed the budget, whatever the state and the command.
Rests on the model's choice in log entry 1. -/
def Obligations.EveryStepKeepsWithinBudget : Prop :=
  ∀ s t : State, WithinBudget s → step s = .next t → WithinBudget t

/-- R69, R101, R102: what one consideration does. A granted claim keeps its state and points, an absent one
stays absent, and a claim granted by it holds its cost; a claim it leaves waiting does not fit the points left,
but for a vend claim passed over behind a deferring compressor claim or whose head cannot start. A compressor
grant switches the relay on and clears deferring, a heater grant the heater; a vend grant makes the WAITING
head, neither HELD nor isolated, DRIVING, with a drive under its tag.
Rests on the model's choice in log entry 12. -/
def Obligations.ConsiderationGrantsWhatFits : Prop :=
  ∀ s : State,
    let t := consider s
    let kept (a b : Claim) : Prop := (a.state ≠ .waiting → b = a) ∧
      (a.state = .waiting → b = a ∨ (b.state = .granted ∧ b.held = a.cost))
    let p := s.supply
    let q := t.supply
    (pointsGranted p ≤ p.budget → pointsGranted q ≤ q.budget) ∧ q.budget = p.budget ∧
    kept p.vend q.vend ∧ kept p.compressor q.compressor ∧ kept p.heater q.heater ∧
    (q.heater.state = .waiting → freePoints q < q.heater.cost) ∧
    (q.compressor.state = .waiting → freePoints q < q.compressor.cost) ∧
    (p.deferring = true → q.compressor.state = .waiting → q.vend = p.vend) ∧
    (∀ e es, s.vend.queue = e :: es → vendReady e s = true → q.vend.state = .waiting →
      p.deferring = false ∨ q.compressor.state ≠ .waiting → freePoints q < q.vend.cost) ∧
    (p.compressor.state = .waiting → q.compressor.state = .granted →
      t.cooling.compressor.relay = true ∧ t.cooling.compressor.state = .starting ∧ q.deferring = false) ∧
    (p.heater.state = .waiting → q.heater.state = .granted → t.cooling.defrost.heater = true) ∧
    (p.vend.state = .waiting → q.vend.state = .granted →
      ∃ e es r, s.vend.queue = e :: es ∧ e.driving = false ∧
        heldBlocks s.vend.selections[e.selection] s = false ∧
        faultBlocks s.vend.selections[e.selection] s = false ∧
        t.vend.queue = { e with driving := true } :: es ∧
        t.drive.record = some r ∧ r.tag = e.tag)

/-- R100, R103 to R105: an owner's placement, withdrawal, release and shrink. Each acts only in the state of the
claim that its rule names, changes that claim alone, and brings a consideration in the same step.
R68: the head places its vend claim exactly when it is WAITING without a claim, the part is SELLING and the
driver holds no drive; the cost is the number of its selection's motors times the motor cost.
R102: the second that brings the wait time to 30 s sets deferring and raises SUPPLY-DEFER with the free
points; with no claim waiting, deferring set already or more than a second to come, the row is no event (log
entry 3).
Rests on the model's choices in log entries 3 and 36. -/
def Obligations.ClaimsPlacedWithdrawnReleased : Prop :=
  (∀ (s : State) (cost : Nat) (tag : Byte),
    let p := s.supply
    let with_ (q : Supply) : State := consider { s with supply := q }
    let absent : Claim := { state := .absent, cost := 0, held := 0 }
    let waiting (n : Nat) : Claim := { state := .waiting, cost := n, held := 0 }
    placeVend cost tag s =
      (if p.vend.state = .absent then with_ { p with vend := waiting cost, vendTag := tag } else s) ∧
    placeCompressor s =
      (if p.compressor.state = .absent then
        with_ { p with compressor := waiting p.startCost, waitMs := 0, deferring := false } else s) ∧
    placeHeater s =
      (if p.heater.state = .absent then with_ { p with heater := waiting p.heaterCost } else s) ∧
    withdrawVend s = (if p.vend.state = .waiting then with_ { p with vend := absent } else s) ∧
    withdrawCompressor s =
      (if p.compressor.state = .waiting then
        with_ { p with compressor := absent, deferring := false } else s) ∧
    withdrawHeater s = (if p.heater.state = .waiting then with_ { p with heater := absent } else s) ∧
    releaseVend s = (if p.vend.state = .granted then with_ { p with vend := absent } else s) ∧
    releaseCompressor s =
      (if p.compressor.state = .granted then with_ { p with compressor := absent } else s) ∧
    releaseHeater s = (if p.heater.state = .granted then with_ { p with heater := absent } else s) ∧
    shrink s =
      (if p.compressor.state = .granted then
        with_ { p with compressor := { p.compressor with held := min p.compressor.held p.runCost } } else s)) ∧
  (∀ (s : State) (e : Entry) (es : List Entry), s.vend.queue = e :: es →
    let motors := if s.vend.selections[e.selection].kind = .twinSpiral then 2 else 1
    (e.driving = false → s.supply.vend.state = .absent → s.vend.sales = .selling → s.drive.record = none →
      startHead s = placeVend (motors * s.supply.motorCost) e.tag s) ∧
    (e.driving = true ∨ s.supply.vend.state ≠ .absent ∨ s.vend.sales ≠ .selling ∨ s.drive.record ≠ none →
      startHead s = s)) ∧
  (∀ s : State, s.resetLow = false →
    let p := s.supply
    (p.compressor.state = .waiting → p.deferring = false → 29000 ≤ p.waitMs →
      ∃ t, Becomes { s with supply := { p with waitMs := max p.waitMs 30000, deferring := true } }
          [(.supplyDefer, 0, amount (p.budget - pointsGranted p))] t ∧
        exec .supplyDefer s = .next t) ∧
    (p.compressor.state ≠ .waiting ∨ p.deferring = true ∨ p.waitMs < 29000 →
      ∃ t, Becomes s [] t ∧ exec .supplyDefer s = .next t))

/-- R98: a write of the supply settings, check by check; on DONE the settings are replaced, every waiting
claim takes its new cost, a granted one keeps its points, and a consideration follows.
R110, R123: writes of the zone table and of the refrigeration settings, in any sales state. In range they
are DONE, the zone's effective setpoint is formed again, and an interval already reached begins a defrost in
NONE; out of range they are refused.
Rests on the model's choices in log entries 7 and 34. -/
def Obligations.SupplyAndRefrigerationWrites : Prop :=
  (∀ (s : State) (src index budget motor start run heater : Byte), s.resetLow = false → replyPlace s = true →
    let p := s.supply
    let b := budget.toNat
    let m := motor.toNat
    let c := start.toNat
    let r := run.toNat
    let h := heater.toNat
    let w := exec (.supplySettingsWrite src index budget motor start run heater) s
    let service : Prop := s.vend.sales = .offline ∨ s.vend.sales = .service
    let ranges : Prop := index = 0 ∧ 1 ≤ b ∧ b ≤ 31 ∧ 1 ≤ m ∧ m ≤ 15 ∧ 1 ≤ c ∧ c ≤ 31 ∧ 1 ≤ r ∧ r ≤ c ∧
      1 ≤ h ∧ h ≤ 31 ∧ 2 * m ≤ b ∧ c ≤ b ∧ h ≤ b
    let priced (x : Claim) (n : Nat) : Claim := if x.state = .waiting then { x with cost := n } else x
    let motors := match s.vend.queue with
      | [] => 1
      | e :: _ => if s.vend.selections[e.selection].kind = .twinSpiral then 2 else 1
    (¬ service → w = .next (answered src 0x40 .mode [] s)) ∧
    (service → ¬ ranges → w = .next (answered src 0x40 .range [] s)) ∧
    (service → ranges → b < pointsGranted p → w = .next (answered src 0x40 .busy [] s)) ∧
    (service → ranges → pointsGranted p ≤ b →
      w = .next (answered src 0x40 .done [0x09, 0] (consider { s with supply := { p with
        budget := b, motorCost := m, startCost := c, runCost := r, heaterCost := h
        vend := priced p.vend (motors * m), compressor := priced p.compressor c
        heater := priced p.heater h } })))) ∧
  (∀ (s : State) (src index diff on off hours : Byte) (h : Half), s.resetLow = false → replyPlace s = true →
    let zone := exec (.zoneTableWrite src index h diff) s
    let all := exec (.refrigerationSettingsWrite src index on off hours h) s
    let zoneRange : Prop := -50 ≤ h.toInt ∧ h.toInt ≤ 200 ∧ 5 ≤ diff.toNat ∧ diff.toNat ≤ 50
    let allRange : Prop := index = 0 ∧ 1 ≤ on.toNat ∧ on.toNat ≤ 30 ∧ 1 ≤ off.toNat ∧ off.toNat ≤ 30 ∧
      1 ≤ hours.toNat ∧ hours.toNat ≤ 24 ∧ 0 ≤ h.toInt ∧ h.toInt ≤ 300
    let set : State := { s with cooling := { s.cooling with
      limpOnMin := on.toNat, limpOffMin := off.toNat, intervalH := hours.toNat, terminate := h.toInt } }
    (∀ z : ZoneId, index = byteOf z → zoneRange →
      let new : Zone := { s.cooling.zones[z] with setpoint := h.toInt, differential := diff.toNat }
      zone = .next (answered src 0x40 .done [0x0C, index] (formSetpoint z
        { s with cooling := { s.cooling with zones := s.cooling.zones.set z new } }))) ∧
    (2 ≤ index.toNat ∨ ¬ zoneRange → zone = .next (answered src 0x40 .range [] s)) ∧
    (allRange → all = .next (answered src 0x40 .done [0x0D, 0]
      (if s.cooling.defrost.state = .none ∧
          hours.toNat * 3600000 ≤ s.cooling.compressor.accumulatorMs then enterPending 0 set else set))) ∧
    (¬ allRange → all = .next (answered src 0x40 .range [] s)))

/-! ## Refrigeration (chapter 6) -/

/-- R125: the heater and the compressor relay are never on together. The invariant that rules it out is kept
by every step, and it does rule it out, for the outputs COMP and HEAT as well, which follow the relay and the
heater.
Rests on the model's choice in log entry 1. -/
def Obligations.EveryStepKeepsLoadsApart : Prop :=
  (∀ s t : State, LoadsApart s → step s = .next t → LoadsApart t) ∧
  (∀ s : State, LoadsApart s →
    ¬ (s.cooling.defrost.heater = true ∧ s.cooling.compressor.relay = true) ∧
    ¬ ((outputs s).heat = true ∧ (outputs s).comp = true)) ∧
  ∀ s : State, s.resetLow = false →
    (outputs s).comp = s.cooling.compressor.relay ∧ (outputs s).heat = s.cooling.defrost.heater

/-- R108, R109: a sample of one channel. An in-range reading makes the channel VALID; F takes the reading
unless the channel was VALID, and then rises by an eighth of the difference, truncated toward zero but at
least 1 in size, so that it stays between its old value and the reading. A reading out of range keeps F. The
passage of a channel into a kind of FAULTED records PROBE-OPEN or PROBE-SHORT with the probe as subject, and the
passage out of it ends that condition, before the other is recorded; a channel that stays reports nothing.
R121, R126: a coil sample that leaves the channel VALID ends a HEATING defrost at or above the terminate
temperature, and records COMPRESSOR-NOCOOL once a run from 15 min of running on while F is above −5.0 °C.
Rests on the model's choice in log entry 14. -/
def Obligations.ProbeFilterAndCoil : Prop :=
  (∀ (p : Probe) (raw : Int),
    let q := p.sample raw
    let d := raw - p.filtered
    let step : Int := if d = 0 then 0 else if 0 < d then max 1 (d / 8) else min (-1) (-(-d / 8))
    q.raw = raw ∧
    (raw < -400 → q.state = .faultedShort ∧ q.filtered = p.filtered) ∧
    (850 < raw → q.state = .faultedOpen ∧ q.filtered = p.filtered) ∧
    (-400 ≤ raw → raw ≤ 850 → q.state = .valid ∧
      (p.state ≠ .valid → q.filtered = raw) ∧
      (p.state = .valid → q.filtered = p.filtered + step ∧
        min p.filtered raw ≤ q.filtered ∧ q.filtered ≤ max p.filtered raw))) ∧
  (∀ (s : State) (i : Fin 3) (raw : Int),
    let old := s.cooling.probes[i].state
    let q := s.cooling.probes[i].sample raw
    let u : State := { s with cooling := { s.cooling with probes := s.cooling.probes.set i q } }
    let t := sampleProbe i raw s
    (old = q.state ∨ (old = .noSample ∧ q.state = .valid) → t = u) ∧
    (old = .noSample ∨ old = .valid →
      (q.state = .faultedOpen → t = report .probeOpen i u) ∧
      (q.state = .faultedShort → t = report .probeShort i u)) ∧
    (old = .faultedOpen →
      (q.state = .valid → t = conditionEnded .probeOpen i u) ∧
      (q.state = .faultedShort → t = report .probeShort i (conditionEnded .probeOpen i u))) ∧
    (old = .faultedShort →
      (q.state = .valid → t = conditionEnded .probeShort i u) ∧
      (q.state = .faultedOpen → t = report .probeOpen i (conditionEnded .probeShort i u)))) ∧
  (∀ (s : State) (raw : Int),
    let u := sampleProbe 2 raw s
    let f := u.cooling.probes[(2 : Fin 3)].filtered
    let c := s.cooling.compressor
    let noCool : Prop := c.state = .running ∧ 900000 ≤ c.runningMs ∧ c.noCool = false ∧ -50 < f
    let recorded (v : State) : State := { v with cooling := { v.cooling with
      compressor := { v.cooling.compressor with noCool := true } } }
    (u.cooling.probes[(2 : Fin 3)].state ≠ .valid → sampleCoil raw s = u) ∧
    (u.cooling.probes[(2 : Fin 3)].state = .valid → s.cooling.defrost.state = .heating →
      s.cooling.terminate ≤ f → ¬ noCool → sampleCoil raw s = endHeating u) ∧
    (u.cooling.probes[(2 : Fin 3)].state = .valid → s.cooling.defrost.state ≠ .heating → noCool →
      sampleCoil raw s = recorded (report .compressorNocool 0 u)) ∧
    (s.cooling.defrost.state ≠ .heating ∨ f < s.cooling.terminate → ¬ noCool → sampleCoil raw s = u))

/-- R108, R110 to R113, R130, R131: what one second's samples leave. Every channel is sampled. A zone whose
channel is VALID takes its demand from F, the effective setpoint and the differential, and leaves the limp
cycle; one that has just become FAULTED begins it with an ON phase and demand on; one that stays FAULTED keeps
its demand and its phase. An enabled hold record counts up to its delay while the channel is FAULTED or F is
above the limit, and down to 0 otherwise; reaching the delay upward makes it HELD. A disabled one stays.
Rests on the model's choice in log entry 13. -/
def Obligations.ProbeSampleDrivesZonesAndHolds : Prop :=
  ∀ (s : State) (a b c : Half), s.resetLow = false → ∃ t, exec (.probeSample a b c) s = .next t ∧
    t.cooling.probes = #v[s.cooling.probes[(0 : Fin 3)].sample a.toInt,
      s.cooling.probes[(1 : Fin 3)].sample b.toInt, s.cooling.probes[(2 : Fin 3)].sample c.toInt] ∧
    t.cooling.sampleMs = 0 ∧
    t.money.totals = s.money.totals ∧ t.money.settlements = s.money.settlements ∧
    t.cabinet.economy = s.cabinet.economy ∧ t.cabinet.clock = s.cabinet.clock ∧
    ∀ z : ZoneId,
      let old := s.cooling.probes[airProbe z].state
      let p := t.cooling.probes[airProbe z]
      let x := s.cooling.zones[z]
      let y := t.cooling.zones[z]
      let h := s.cabinet.holds[z]
      let k := t.cabinet.holds[z]
      let faulted (c : ChannelState) : Prop := c = .faultedOpen ∨ c = .faultedShort
      let rises : Prop := faulted p.state ∨ h.limit < p.filtered
      y.setpoint = x.setpoint ∧ y.differential = x.differential ∧ y.effective = x.effective ∧
      (p.state = .valid →
        (x.effective + x.differential ≤ p.filtered → y.demand = true) ∧
        (p.filtered < x.effective + x.differential → p.filtered ≤ x.effective → y.demand = false) ∧
        (p.filtered < x.effective + x.differential → x.effective < p.filtered → y.demand = x.demand) ∧
        (faulted old → y.limp = none)) ∧
      (faulted p.state → ¬ faulted old →
        y.demand = true ∧ y.limp = some { on := true, leftMs := s.cooling.limpOnMin * 60000 }) ∧
      (faulted p.state → faulted old → y.demand = x.demand ∧ y.limp = x.limp) ∧
      k.enabled = h.enabled ∧ k.limit = h.limit ∧ k.delay = h.delay ∧
      (h.enabled = false → k = h) ∧
      (h.enabled = true → rises → k.accumulator = min h.delay (h.accumulator + 1) ∧
        (k.cause = .probe ↔ faulted p.state) ∧
        (k.held = true ↔ h.held = true ∨ k.accumulator = h.delay)) ∧
      (h.enabled = true → ¬ rises → k.accumulator = h.accumulator - 1 ∧ k.cause = h.cause ∧
        k.held = h.held)

/-- R116, R118, R120: the compressor takes its demand, which is on in the defrost state NONE with a zone's
demand on: from READY it places its claim, from WAITING-POWER it gives it up, and a run of 60 s or more
stops; in any other case nothing changes. A change of a zone's demand brings this.
R113, R117, R119, R122: the moments of the limp phase, the off timer, the start window and the run-on, each
in the state its timer runs in and no event in any other (log entry 2).
R120, R122, R124: the stop of the compressor at its minimum on time. The relay goes off before the grant
is released; the compressor is LOCKED with 180 s, the condenser fan runs on for 60 s, and a PENDING defrost
passes to HEATING. With demand on, outside RUNNING or with more than a second to come, the row is no event
(log entries 2 and 3).
R114, R122: the outputs. A damper is open with its zone's demand, but in HEATING and DRIPPING; the condenser fan
runs with the relay and in its run-on; the evaporator fan with an open damper or the relay, but in HEATING and
DRIPPING.
Rests on the model's choices in log entries 2 and 3. -/
def Obligations.CompressorDemandTimersAndStop : Prop :=
  (∀ (s : State) (z : ZoneId) (on : Bool),
    let c := s.cooling.compressor
    let wanted : Prop := s.cooling.defrost.state = .none ∧ ∃ z : ZoneId, s.cooling.zones[z].demand = true
    let with_ (st : CompressorState) : State :=
      { s with cooling := { s.cooling with compressor := { c with state := st } } }
    let zone : Zone := { s.cooling.zones[z] with demand := on }
    (c.state = .ready → wanted → reactCompressor s = placeCompressor (with_ .waitingPower)) ∧
    (c.state = .waitingPower → ¬ wanted → reactCompressor s = withdrawCompressor (with_ .ready)) ∧
    (c.state = .running → ¬ wanted → 60000 ≤ c.onMs → reactCompressor s = stopCompressor s) ∧
    ((c.state = .ready ∧ ¬ wanted) ∨ (c.state = .waitingPower ∧ wanted) ∨ c.state = .locked ∨
      c.state = .starting ∨ (c.state = .running ∧ (wanted ∨ c.onMs < 60000)) → reactCompressor s = s) ∧
    (s.cooling.zones[z].demand = on → setDemand z on s = s) ∧
    (s.cooling.zones[z].demand ≠ on → setDemand z on s =
      reactCompressor { s with cooling := { s.cooling with zones := s.cooling.zones.set z zone } })) ∧
  (∀ (s : State) (z : ZoneId), s.resetLow = false →
    let c := s.cooling.compressor
    let with_ (c : Compressor) : State := { s with cooling := { s.cooling with compressor := c } }
    (∀ l, s.cooling.zones[z].limp = some l →
      let next : Limp := { on := !l.on,
                           leftMs := (if l.on then s.cooling.limpOffMin else s.cooling.limpOnMin) * 60000 }
      let zone : Zone := { s.cooling.zones[z] with limp := some next }
      exec (.limpPhaseEnd z) s = .next (pump (setDemand z (!l.on)
        { s with cooling := { s.cooling with zones := s.cooling.zones.set z zone } }))) ∧
    (s.cooling.zones[z].limp = none → ∃ t, Becomes s [] t ∧ exec (.limpPhaseEnd z) s = .next t) ∧
    (c.state = .locked → exec .offTimerExpiry s =
      .next (pump (reactCompressor (with_ { c with state := .ready, offMs := 0 })))) ∧
    (c.state ≠ .locked → ∃ t, Becomes s [] t ∧ exec .offTimerExpiry s = .next t) ∧
    (c.state = .starting → exec .startWindowEnd s = .next (pump (shrink
      (with_ { c with state := .running, onMs := max c.onMs 3000, runningMs := 0 })))) ∧
    (c.state ≠ .starting → ∃ t, Becomes s [] t ∧ exec .startWindowEnd s = .next t) ∧
    ∃ t, Becomes (with_ { c with runOn := none }) [] t ∧ exec .condenserRunOnEnd s = .next t) ∧
  (∀ s : State, s.resetLow = false →
    let c := s.cooling.compressor
    let k := s.cooling
    let off (m : Nat) : State := { s with cooling := { k with compressor := { c with relay := false, onMs := m } } }
    let locked (u : State) : State := { u with cooling := { u.cooling with
      compressor := { u.cooling.compressor with
        state := .locked, offMs := 180000, onMs := 0, runningMs := 0, runOn := some 60000 } } }
    let stopped (m : Nat) : State :=
      let u := locked (releaseCompressor (off m))
      if u.cooling.defrost.state = .pending then enterHeating u else u
    stopCompressor s = stopped c.onMs ∧
    (c.state = .running → compressorDemand k = false → 59000 ≤ c.onMs →
      exec .compressorStop s = .next (pump (stopped (max c.onMs 60000)))) ∧
    (c.state ≠ .running ∨ compressorDemand k = true ∨ c.onMs < 59000 →
      ∃ t, Becomes s [] t ∧ exec .compressorStop s = .next t)) ∧
  (∀ s : State, s.resetLow = false →
    let o := outputs s
    let c := s.cooling.compressor
    let thaws : Prop := s.cooling.defrost.state = .heating ∨ s.cooling.defrost.state = .dripping
    (o.dampA = true ↔ s.cooling.zones[(0 : ZoneId)].demand = true ∧ ¬ thaws) ∧
    (o.dampB = true ↔ s.cooling.zones[(1 : ZoneId)].demand = true ∧ ¬ thaws) ∧
    (o.cfan = true ↔ c.relay = true ∨ ∃ n, c.runOn = some n) ∧
    (o.efan = true ↔ ¬ thaws ∧ (o.dampA = true ∨ o.dampB = true ∨ c.relay = true)))

/-- R123 to R125: the entry to PENDING, from the accumulator or from DEFROST-NOW, raises DEFROST, takes the
demand from the compressor and passes to HEATING where the compressor is LOCKED or READY then; the entry to
HEATING starts the 30 min, raises DEFROST and places the heater claim. DEFROST-NOW in any state but NONE is
answered BUSY. DEFROST_PENDING is the second of RUNNING that brings the accumulator to the interval, and is no
event while more than a second is to come (log entry 3).
R126, R127: the end of HEATING switches the heater off, releases its grant or withdraws its claim, and
begins DRIPPING with 120 s and without the condenser fan's run-on, reporting the seconds the heater was on;
the heat timer's expiry records DEFROST-TIMEOUT first. The end of DRIPPING clears the accumulator and lets the
compressor take its demand. Neither row is an event in another defrost state (log entry 2).
Rests on the model's choices in log entries 2, 3, 7 and 14. -/
def Obligations.DefrostBeginsAndEnds : Prop :=
  (∀ (s : State) (src : Byte) (n : Nat), s.resetLow = false →
    let d := s.cooling.defrost
    let with_ (d : Defrost) : State := { s with cooling := { s.cooling with defrost := d } }
    let reached : Nat := s.cooling.intervalH * 3600000
    let run : Compressor := { s.cooling.compressor with
      accumulatorMs := max s.cooling.compressor.accumulatorMs reached }
    (∃ t, Becomes (with_ { d with state := .pending }) [(.defrost, 1, amount n)] t ∧
      enterPending n s =
        let u := reactCompressor t
        if u.cooling.defrost.state = .pending ∧
            (u.cooling.compressor.state = .locked ∨ u.cooling.compressor.state = .ready) then
          enterHeating u
        else u) ∧
    (∃ t, Becomes (with_ { d with state := .heating, heatMs := 1800000, heaterOnMs := 0 })
        [(.defrost, 2, 0)] t ∧
      enterHeating s = placeHeater t) ∧
    (d.state = .none →
        (s.cooling.compressor.state = .running ∧ reached ≤ s.cooling.compressor.accumulatorMs + 1000) ∨
          reached ≤ s.cooling.compressor.accumulatorMs →
      exec .defrostPending s = .next (pump (enterPending 0
        { s with cooling := { s.cooling with compressor := run } }))) ∧
    (d.state ≠ .none ∨ s.cooling.compressor.accumulatorMs + 1000 < reached ∨
        (s.cooling.compressor.state ≠ .running ∧ s.cooling.compressor.accumulatorMs < reached) →
      ∃ t, Becomes s [] t ∧ exec .defrostPending s = .next t) ∧
    (replyPlace s = true →
      (d.state = .none → exec (.defrostNow src) s = .next (answered src 0x4D .done [] (enterPending 1 s))) ∧
      (d.state ≠ .none → exec (.defrostNow src) s = .next (answered src 0x4D .busy [] s)))) ∧
  (∀ s : State, s.resetLow = false →
    let d := s.cooling.defrost
    let cold : State := withdrawHeater (releaseHeater
      { s with cooling := { s.cooling with defrost := { d with heater := false } } })
    let e := cold.cooling.defrost
    let dripping : State := { cold with cooling := { cold.cooling with
      defrost := { e with state := .dripping, heatMs := 0, dripMs := 120000 }
      compressor := { cold.cooling.compressor with runOn := none } } }
    let ended : State := { s with cooling := { s.cooling with
      defrost := { d with state := .none, dripMs := 0 }
      compressor := { s.cooling.compressor with accumulatorMs := 0 } } }
    (∃ t, Becomes dripping [(.defrost, 3, amount (e.heaterOnMs / 1000))] t ∧ endHeating s = t) ∧
    (d.state = .heating →
      exec .heatTimerExpiry s = .next (pump (endHeating (report .defrostTimeout 0 s)))) ∧
    (d.state ≠ .heating → ∃ t, Becomes s [] t ∧ exec .heatTimerExpiry s = .next t) ∧
    (d.state = .dripping → ∃ t, Becomes ended [(.defrost, 0, 0)] t ∧
      exec .dripTimerExpiry s = .next (pump (reactCompressor t))) ∧
    (d.state ≠ .dripping → ∃ t, Becomes s [] t ∧ exec .dripTimerExpiry s = .next t))

/-! ## Sale hold and economy (chapter 7) -/

/-- R111, R129, R130: every step keeps each accumulator within its hold delay, and each effective setpoint the
one R111 gives for the economy state, so that it never exceeds the larger of the setpoint and the sale limit
less 1.0 °C, nor falls below the setpoint.
Rests on the model's choice in log entry 1. -/
def Obligations.EveryStepKeepsHoldsAndSetpoints : Prop :=
  (∀ s t : State, step s = .next t →
    (HoldsCount s → HoldsCount t) ∧ (SetpointsClamped s → SetpointsClamped t)) ∧
  ∀ (s : State) (z : ZoneId), SetpointsClamped s →
    s.cooling.zones[z].setpoint ≤ s.cooling.zones[z].effective ∧
    s.cooling.zones[z].effective ≤ max s.cooling.zones[z].setpoint (s.cabinet.holds[z].limit - 10)

/-- R131: the accumulation step that brings an enabled zone with HELD clear to its delay, its channel FAULTED or
its F above the limit, sets HELD, raises ZONE-HELD with the cause, and removes the WAITING entries of the zone
with cause HELD. Where no such step can come the row is no event (log entries 2 and 3).
R132, R133: SALE-RELEASE, check by check, and a write of the hold settings with its effects on the
accumulator and on HELD; the zone's effective setpoint is formed again at the write.
Rests on the model's choices in log entries 2, 3 and 7. -/
def Obligations.ZoneHeldReleasedAndHoldWrite : Prop :=
  (∀ (s : State) (z : ZoneId), s.resetLow = false →
    let h := s.cabinet.holds[z]
    let p := s.cooling.probes[airProbe z]
    let faulted : Bool := decide (p.state = .faultedOpen ∨ p.state = .faultedShort)
    let rises : Prop := faulted = true ∨ (p.state = .valid ∧ h.limit < p.filtered)
    let new : Hold := { h with accumulator := h.delay, held := true
                               cause := if faulted then .probe else .temperature }
    (h.enabled = true → h.held = false → rises → h.delay ≤ h.accumulator + 1 →
      ∃ t, Becomes { s with cabinet := { s.cabinet with holds := s.cabinet.holds.set z new } }
          [(.zoneHeld, byteOf z, if faulted then 1 else 0)] t ∧
        exec (.zoneHeld z) s = .next (pump (cancelWhere
          (fun e => decide (s.vend.selections[e.selection].zone = some z)) .held t))) ∧
    (h.enabled = false ∨ h.held = true ∨ ¬ rises ∨ h.accumulator + 1 < h.delay →
      ∃ t, Becomes s [] t ∧ exec (.zoneHeld z) s = .next t)) ∧
  (∀ (s : State) (src zone en : Byte) (limit delay : Half), s.resetLow = false → replyPlace s = true →
    let set (z : ZoneId) (h : Hold) : State :=
      { s with cabinet := { s.cabinet with holds := s.cabinet.holds.set z h } }
    let release := exec (.saleRelease src zone) s
    let write := exec (.saleHoldTableWrite src zone en limit delay) s
    let ranges : Prop := en.toNat ≤ 1 ∧ -50 ≤ limit.toInt ∧ limit.toInt ≤ 300 ∧
      60 ≤ delay.toNat ∧ delay.toNat ≤ 7200
    let d := delay.toNat
    (2 ≤ zone.toNat → release = .next (answered src 0x47 .range [] s) ∧
      write = .next (answered src 0x40 .range [] s)) ∧
    (¬ ranges → write = .next (answered src 0x40 .range [] s)) ∧
    ∀ z : ZoneId, zone = byteOf z →
      let h := s.cabinet.holds[z]
      let p := s.cooling.probes[airProbe z]
      let off : Hold := { h with enabled := false, limit := limit.toInt, delay := d, accumulator := 0,
                                 held := false }
      let stays : Hold := { h with limit := limit.toInt, delay := d, accumulator := min h.accumulator d }
      (h.held = false → release = .next (answered src 0x47 .conflict [] s)) ∧
      (h.held = true → p.state ≠ .valid ∨ h.limit < p.filtered →
        release = .next (answered src 0x47 .notReady (p.state.code :: signedOf p.filtered) s)) ∧
      (h.held = true → p.state = .valid → p.filtered ≤ h.limit →
        ∃ t, Becomes (set z { h with held := false, accumulator := 0 }) [(.zoneReleased, zone, 0)] t ∧
          release = .next (answered src 0x47 .done [] t)) ∧
      (ranges → en = 0 → ∃ t,
        Becomes (set z off) (if h.held then [(.zoneReleased, zone, 1)] else []) t ∧
        write = .next (answered src 0x40 .done [0x0E, zone] (formSetpoint z t))) ∧
      (ranges → en = 1 → h.enabled = false → write = .next (answered src 0x40 .done [0x0E, zone]
        (formSetpoint z (set z { off with enabled := true })))) ∧
      (ranges → en = 1 → h.enabled = true → write = .next (answered src 0x40 .done [0x0E, zone]
        (formSetpoint z (set z stays)))))

/-- R111, R112: a forming of a zone's effective setpoint. In ECONOMY it is the smaller of the setpoint plus the
offset and the larger of the setpoint and the sale limit less 10, in ACTIVE and DIM the setpoint; the demand
then follows F of a VALID channel through the band, is off without a sample and stays in the limp cycle. The
other zone is as it was. -/
def Obligations.SetpointFormedAndDemandJudged : Prop :=
  ∀ (s : State) (z : ZoneId),
    let x := s.cooling.zones[z]
    let y := (formSetpoint z s).cooling.zones[z]
    let p := s.cooling.probes[airProbe z]
    let cap := max x.setpoint (s.cabinet.holds[z].limit - 10)
    (s.cabinet.economy.state = .economy →
      y.effective = min (x.setpoint + s.cabinet.economy.offset) cap) ∧
    (s.cabinet.economy.state ≠ .economy → y.effective = x.setpoint) ∧
    (p.state = .valid → y.effective + x.differential ≤ p.filtered → y.demand = true) ∧
    (p.state = .valid → p.filtered < y.effective + x.differential → p.filtered ≤ y.effective →
      y.demand = false) ∧
    (p.state = .valid → p.filtered < y.effective + x.differential → y.effective < p.filtered →
      y.demand = x.demand) ∧
    (p.state = .noSample → y.demand = false) ∧
    (p.state = .faultedOpen ∨ p.state = .faultedShort → y.demand = x.demand) ∧
    y.setpoint = x.setpoint ∧ y.differential = x.differential ∧ y.limp = x.limp ∧
    ∀ o : ZoneId, o ≠ z → (formSetpoint z s).cooling.zones[o] = s.cooling.zones[o]

/-- R135, R138 to R140: an activity outside the mask changes nothing; a masked one sets the quiet time to 0, and
in DIM and ECONOMY wakes the cabinet, with its kind and the second as last wake. A change of state drives the
lamp, forms both setpoints and raises ECONOMY, in this order; the output LAMP has the level of the record.
R136, R137: the passages forward. ACTIVE becomes DIM at the dim delay; DIM becomes ECONOMY past both delays
with the counter valid and in window; both may come in one judgement. The rows DIM_ENTRY and ECONOMY_ENTRY are
the rises by which the quiet time reaches them, and no event while it is more than a second short: a masked
activity taken first leaves the quiet time at 0 and the state as it is (log entry 3).
Rests on the model's choice in log entry 3. -/
def Obligations.EconomyWakesAndPassesForward : Prop :=
  (∀ (s : State) (k : Activity) (new : EconomyState) (n : Nat),
    let e := s.cabinet.economy
    let with_ (e : Economy) : State := { s with cabinet := { s.cabinet with economy := e } }
    let level := match new with | .active => 100 | .dim => e.dimLevel | .economy => 0
    (s.resetLow = false → (outputs s).lamp = e.lamp) ∧
    (e.mask.getLsbD k.bit = false → activity k s = s) ∧
    (e.mask.getLsbD k.bit = true → e.state = .active → activity k s = with_ { e with quietMs := 0 }) ∧
    (e.mask.getLsbD k.bit = true → e.state ≠ .active → activity k s = changeEconomy .active (k.bit + 1)
      (with_ { e with quietMs := 0, wakeCause := some k, wakeTime := stamp s })) ∧
    ∃ t, Becomes (formSetpoint 1 (formSetpoint 0 (with_ { e with state := new, lamp := level })))
        [(.economy, new.code, amount n)] t ∧ changeEconomy new n s = t) ∧
  (∀ s : State, s.resetLow = false →
    let e := s.cabinet.economy
    let quiet (n : Nat) : State := { s with cabinet := { s.cabinet with
      economy := { e with quietMs := max e.quietMs n } } }
    let dim := e.dimDelay * 1000
    let eco := (e.dimDelay + e.economyDelay) * 1000
    let window : Prop := s.cabinet.clock.valid = true ∧ e.inWindow = true
    (e.state = .active → dim ≤ e.quietMs → ¬ (window ∧ eco ≤ e.quietMs) →
      judgeEconomy s = changeEconomy .dim 0 s) ∧
    (e.state = .active → dim ≤ e.quietMs → window → eco ≤ e.quietMs →
      judgeEconomy s = changeEconomy .economy 0 (changeEconomy .dim 0 s)) ∧
    (e.state = .dim → window → eco ≤ e.quietMs → judgeEconomy s = changeEconomy .economy 0 s) ∧
    ((e.state = .active ∧ e.quietMs < dim) ∨ (e.state = .dim ∧ ¬ (window ∧ eco ≤ e.quietMs)) ∨
      e.state = .economy → judgeEconomy s = s) ∧
    (e.state = .active → dim ≤ e.quietMs + 1000 → ∃ t, exec .dimEntry s = .next t ∧ t.cabinet.economy.quietMs = max e.quietMs dim ∧
      (window ∧ eco ≤ e.quietMs → t.cabinet.economy.state = .economy ∧ t.cabinet.economy.lamp = 0) ∧
      (¬ window ∨ max e.quietMs dim < eco →
        t.cabinet.economy.state = .dim ∧ t.cabinet.economy.lamp = e.dimLevel)) ∧
    (e.state ≠ .active ∨ e.quietMs + 1000 < dim → ∃ t, Becomes s [] t ∧ exec .dimEntry s = .next t) ∧
    (e.state = .dim → window → eco ≤ e.quietMs + 1000 →
      exec .economyEntry s = .next (pump (changeEconomy .economy 0 (quiet eco)))) ∧
    (e.state ≠ .dim ∨ ¬ window ∨ e.quietMs + 1000 < eco →
      ∃ t, Becomes s [] t ∧ exec .economyEntry s = .next t))

/-- R137, R142, R143: in window is yes exactly when the counter is valid and an enabled window covers its
second, a window whose end is not above its start running into the day after; a change of it is judged, and
in ECONOMY its end brings DIM. A second takes the valid counter one on, 604799 to 0; an invalid one stands. -/
def Obligations.WindowsAndTimeOfWeek : Prop :=
  ∀ s : State, s.resetLow = false →
    let c := s.cabinet.clock
    let day := c.second / 86400
    let minute := c.second % 86400 / 60
    let inside : Prop := c.valid = true ∧ ∃ i : Fin 8, s.cabinet.schedule[i].enabled = true ∧
      let w := s.cabinet.schedule[i]
      (w.startMinute < w.endMinute ∧ w.days.getLsbD day = true ∧ w.startMinute ≤ minute ∧
        minute < w.endMinute) ∨
      (w.endMinute ≤ w.startMinute ∧
        ((w.days.getLsbD day = true ∧ w.startMinute ≤ minute) ∨
          (w.days.getLsbD ((day + 6) % 7) = true ∧ minute < w.endMinute)))
    let e := s.cabinet.economy
    let judged (b : Bool) : State := { s with cabinet := { s.cabinet with economy := { e with inWindow := b } } }
    let next : State := { s with cabinet := { s.cabinet with
      clock := { c with second := (c.second + 1) % 604800, phaseMs := 0 } } }
    (inWindow s.cabinet = true ↔ inside) ∧
    ((e.inWindow = true ↔ inside) → judgeWindow s = s) ∧
    (e.inWindow = false → inside → judgeWindow s = judgeEconomy (judged true)) ∧
    (e.inWindow = true → ¬ inside → e.state = .economy →
      judgeWindow s = judgeEconomy (changeEconomy .dim 0 (judged false))) ∧
    (e.inWindow = true → ¬ inside → e.state ≠ .economy → judgeWindow s = judgeEconomy (judged false)) ∧
    (c.valid = true → exec .timeOfWeekTick s = .next (pump (judgeWindow next))) ∧
    (c.valid = false → ∃ t, Becomes s [] t ∧ exec .timeOfWeekTick s = .next t)

/-- R134, R141, R143: writes of the economy settings and of a schedule window, and TIME-SET, in any sales state:
DONE in range, with the lamp in DIM, the setpoints and the judgements of R136 and R142 at once, and RANGE
otherwise.
Rests on the model's choices in log entries 7, 34 and 44. -/
def Obligations.EconomyScheduleAndTimeWrites : Prop :=
  ∀ (s : State) (src index mask level offset en days : Byte) (d1 d2 m1 m2 : Half) (second : Word), s.resetLow = false →
    replyPlace s = true →
    let e := s.cabinet.economy
    let cab (c : Cabinet) : State := { s with cabinet := c }
    let eco := exec (.economySettingsWrite src index mask d1 d2 level offset) s
    let plan := exec (.scheduleTableWrite src index en days m1 m2) s
    let time := exec (.timeSet src second) s
    let new : Economy := { e with
      mask := mask.setWidth 6, dimDelay := d1.toNat, economyDelay := d2.toNat, dimLevel := level.toNat
      offset := offset.toNat, lamp := if e.state = .dim then level.toNat else e.lamp }
    let ecoRange : Prop := index = 0 ∧ mask.toNat < 64 ∧ 10 ≤ d1.toNat ∧ d1.toNat ≤ 3600 ∧
      60 ≤ d2.toNat ∧ d2.toNat ≤ 14400 ∧ level.toNat ≤ 100 ∧ offset.toNat ≤ 100
    let planRange : Prop := en.toNat ≤ 1 ∧ days.toNat < 128 ∧ m1.toNat ≤ 1439 ∧ m2.toNat ≤ 1439
    let window : Window := { enabled := decide (en = 1), days := days.setWidth 7
                             startMinute := m1.toNat, endMinute := m2.toNat }
    (ecoRange → eco = .next (answered src 0x40 .done [0x0F, 0] (judgeEconomy (formSetpoint 1
      (formSetpoint 0 (cab { s.cabinet with economy := new })))))) ∧
    (¬ ecoRange → eco = .next (answered src 0x40 .range [] s)) ∧
    (∀ i : Fin 8, index = byteOf i → planRange → plan = .next (answered src 0x40 .done [0x10, index]
      (judgeWindow (cab { s.cabinet with schedule := s.cabinet.schedule.set i window })))) ∧
    (8 ≤ index.toNat ∨ ¬ planRange → plan = .next (answered src 0x40 .range [] s)) ∧
    (second.toNat < 604800 → time = .next (answered src 0x4A .done [] (judgeEconomy (judgeWindow
      (cab { s.cabinet with clock := { valid := true, second := second.toNat, phaseMs := 0 } }))))) ∧
    (604800 ≤ second.toNat → time = .next (answered src 0x4A .range [] s))

/-! ## Cabinet link (chapter 8) -/

/-- R144 to R146, R161: a frame with up to 40 payload bytes is received as it was sent, whatever bytes without
a start byte came before it outside a frame; started inside another frame it ends that one as bad and is
received all the same. The start byte stands at the front of the line bytes and nowhere else.
Rests on the model's choice in log entry 23. -/
def Obligations.SentFrameIsReceived : Prop :=
  ∀ f : Frame, f.payload.length ≤ 40 →
    (∀ noise : List Byte, (∀ b ∈ noise, b ≠ 0xA5) →
      receiveBytes .outside (noise ++ lineBytes f) = (.outside, [.good f])) ∧
    (∀ (content : List Byte) (escape : Bool),
      receiveBytes (.inside content escape) (lineBytes f) = (.outside, [.bad .start, .good f])) ∧
    ∃ rest, lineBytes f = 0xA5 :: rest ∧ ∀ b ∈ rest, b ≠ 0xA5

/-- R145, R147, R148: a bad frame raises the score by 8 up to 255 and makes an ACTIVE port WARNED at 64, with
PORT-WARN, and a WARNED one QUIET at 192; in QUIET it sets the recovery count to 0. The 0xA5 of a Start cause
begins a new frame. The entry to QUIET empties the queue, and on U the request hold, records PORT-QUIET and
issues the accept set on the validator's port; a discarded REPLY to RESTART brings the warm restart (R179).
R149, R178: a good frame in QUIET counts, and the 32nd brings the port back ACTIVE with its condition ended,
the accept set formed again on the validator's port and the pending sends placed. PORT-RESTART does the same
for a QUIET D port and sets the score of another one to 0; it is refused with RANGE for U and above 3.
Rests on the model's choices in log entries 6, 7 and 24. -/
def Obligations.PortScoresQuietAndRecovery : Prop :=
  ∀ (s : State) (p : PortId), s.resetLow = false →
    let q := s.port p
    let with_ (x : Port) : State := { s with link := { s.link with ports := s.link.ports.set p x } }
    let score := min 255 (q.score + 8)
    let quiet (x : Port) : State :=
      let u := report .portQuiet p { s with link := { s.link with
        ports := s.link.ports.set p { x with state := .quiet, tx := [], recovery := 0 }
        hold := if p = 0 then none else s.link.hold } }
      if carriesValidator p u.link then issueAccept u else u
    let back (x : Port) : State :=
      let e := conditionEnded .portQuiet p (with_ { x with state := .active, score := 0, recovery := 0 })
      let u := if carriesValidator p e.link then recomputeAccept e else e
      { u with link := { u.link with ports := u.link.ports.set p ((u.port p).fillPending p) } }
    let bad (a : Assembly) (o : Host.Outcome State Fault Refusal) : Prop :=
      let x : Port := { q with assembly := a, score := score }
      let restarts : Prop := p = 0 ∧ s.link.restartPending = true ∧ holdsRestart q = true
      (q.state = .quiet →
        ∃ t, Becomes (with_ { q with assembly := a, recovery := 0 }) [] t ∧ o = .next t) ∧
      (q.state = .active → score < 64 → ∃ t, Becomes (with_ x) [] t ∧ o = .next t) ∧
      (q.state = .active → 64 ≤ score → score ≤ 191 →
        ∃ t, Becomes (with_ { x with state := .warned }) [(.portWarn, byteOf p, amount score)] t ∧
          o = .next t) ∧
      (q.state = .warned → score < 192 → ∃ t, Becomes (with_ x) [] t ∧ o = .next t) ∧
      (q.state = .warned → 192 ≤ score → ¬ restarts → o = .next (pump (quiet x))) ∧
      (q.state = .warned → 192 ≤ score → restarts → o = .next (warmRestart (quiet x)))
    (∀ cause, bad (if cause = .start then .inside [] false else .outside) (exec (.badFrame p cause) s)) ∧
    bad .outside (exec (.frameGapExpiry p) s) ∧
    (∀ (dest src type : Byte) (payload : List Byte), payload.length ≤ 40 → q.state = .quiet →
      let good := exec (.goodFrame p dest src type payload) s
      (q.recovery < 31 →
        ∃ t, Becomes (with_ { q with assembly := .outside, recovery := q.recovery + 1 }) [] t ∧
          good = .next t) ∧
      (31 ≤ q.recovery → p ≠ 0 → good = .next (pump (back { q with assembly := .outside }))) ∧
      (31 ≤ q.recovery → p = 0 → good = .next (pump (takeHeld (back { q with assembly := .outside }))))) ∧
    ∀ src port : Byte, replyPlace s = true →
      let w := exec (.portRestart src port) s
      (port = 0 ∨ 4 ≤ port.toNat → w = .next (answered src 0x4C .range [] s)) ∧
      (port = byteOf p → p ≠ 0 →
        (q.state = .quiet → w = .next (answered src 0x4C .done [2] (back q))) ∧
        (q.state = .warned →
          w = .next (answered src 0x4C .done [1] (with_ { q with state := .active, score := 0 }))) ∧
        (q.state = .active → w = .next (answered src 0x4C .done [0] (with_ { q with score := 0 }))))

/-- R147, R155 to R158: a good frame at a port that is not QUIET lowers the score, and makes a WARNED port
ACTIVE below 64. The first matching disposition entry decides it, but for types 0x40..0x4F on port U: DROP
discards it, DIVERT hands it to the handling by type, PASS and COPY-UP to its destination, COPY-UP with a
copy for the machine controller unless that gets the frame anyway. A destination is the own node, all other
ports, the port of a node of the table other than the arrival port, or unroutable. A consumed frame whose
sender has the role is what its row is; one whose sender has not is reported as ROLE-MISMATCH, and an unknown
type is a request on port U and BAD-TYPE on a D port.
Rests on the model's choices in log entries 4, 21, 47, 53 and 54. -/
def Obligations.GoodFrameSwitched : Prop :=
  ∀ (s : State) (p : PortId) (dest src type : Byte) (payload : List Byte), s.resetLow = false → payload.length ≤ 40 →
    (s.port p).state ≠ .quiet →
    let q := s.port p
    let f : Frame := { dest := dest, src := src, type := type, payload := payload }
    let own := s.link.ownNode
    let calmed : Port :=
      { q with
        assembly := .outside
        score := q.score - 1
        state := if q.state = .warned ∧ q.score ≤ 64 then .active else q.state }
    let u : State := { s with link := { s.link with ports := s.link.ports.set p calmed } }
    let out := exec (.goodFrame p dest src type payload) s
    let inClass (c : DestClass) : Prop :=
      (c = .own ∧ dest = own) ∨ (c = .other ∧ dest ≠ 0 ∧ dest ≠ own) ∨ (c = .broadcast ∧ dest = 0) ∨ c = .any
    let matched (i : Fin 32) : Prop :=
      let e := s.link.dispositions[i]
      e.enabled = true ∧ e.type = type ∧ e.ports.getLsbD p = true ∧ inClass e.dest
    let exempt : Prop := p = 0 ∧ 0x40 ≤ type.toNat ∧ type.toNat ≤ 0x4F
    let action := actionOf p f s.link
    let handled := handle p f u
    let mine : Prop := action = .divert ∨ (action = .pass ∧ dest = own)
    let role := senderRole type payload.length
    let sender (r : Role) : Prop :=
      (∃ n, roleEntry r s.link = some n ∧ n.node = src ∧ n.port = p) ∨
      (r = .machineController ∧ roleEntry r s.link = none ∧ p = 0)
    let row (t : Byte) (l : List Byte) (r : Role) (c : Instr) : Prop :=
      mine → type = t → payload = l → sender r → out = exec c u
    -- the deciding entry
    ((exempt ∨ ∀ i, ¬ matched i) → action = .pass) ∧
    (∀ i, ¬ exempt → matched i → (∀ j < i, ¬ matched j) → action = s.link.dispositions[i].action) ∧
    -- its action
    (action = .drop → ∃ t, Becomes u [] t ∧ out = .next t) ∧
    (action = .divert → out = .next (pump (handleByType p f u))) ∧
    (action = .pass → out = .next (pump handled)) ∧
    (action = .copyUp → p = 0 ∨ (dest ≠ own ∧ (dest = 0 ∨ ∃ n, nodeEntry dest s.link = some n ∧ n.port = 0)) →
      out = .next (pump handled)) ∧
    (action = .copyUp → p ≠ 0 → dest = own ∨ (dest ≠ 0 ∧ ∀ n, nodeEntry dest s.link = some n → n.port ≠ 0) →
      out = .next (pump (forward 0 { f with dest := controllerNode handled.link } handled))) ∧
    -- the destination
    (dest = own → handled = handleByType p f u) ∧
    (dest ≠ own → dest = 0 →
      let b := (([0, 1, 2, 3] : List PortId).filter fun o => decide (o ≠ p)).foldl
        (fun (t : State) (o : PortId) => forward o f t) u
      handled = if role.isSome then handleByType p f b else b) ∧
    (dest ≠ own → dest ≠ 0 → nodeEntry dest s.link = none →
      handled = { u with link := { u.link with
        ports := u.link.ports.set p { u.port p with unroutable := min 255 (q.unroutable + 1) } } }) ∧
    (dest ≠ own → dest ≠ 0 → ∀ n, nodeEntry dest s.link = some n →
      (n.port = p → handled = u) ∧ (n.port ≠ p → handled = forward n.port f u)) ∧
    -- the part's own frames
    (∀ a b, row 0x20 [a, b] .machineController (.select a b)) ∧
    (∀ a, p = 0 → dest = own → row 0x21 [a] .machineController (.cancel src a)) ∧
    row 0x22 [] .machineController .creditReturn ∧
    (∀ a, row 0x50 [a] .coinValidator (.coinIn a)) ∧
    (∀ a, row 0x60 [a] .noteReader (.noteHeld a)) ∧
    (∀ a, row 0x61 [a] .noteReader (.noteStacked a)) ∧
    (∀ a, row 0x62 [a] .noteReader (.noteReturned a)) ∧
    (∀ a b, row 0x70 [a, b] .cardReader (.funds (a ++ b))) ∧
    row 0x71 [] .cardReader .sessionEnd ∧
    (∀ a, row 0x72 [a] .cardReader (.settleAck a)) ∧
    (mine → 0x40 ≤ type.toNat → type.toNat ≤ 0x4E → sender .machineController →
      out = .next (pump (request p f u))) ∧
    (∀ r, mine → role = some r → ¬ sender r →
      ∃ t, Becomes u [(.roleMismatch, src, type.setWidth 32)] t ∧ out = .next t) ∧
    (mine → role = none → p = 0 → out = .next (pump (request p f u))) ∧
    (mine → role = none → p ≠ 0 → ∃ t, Becomes u [(.badType, type, amount p)] t ∧ out = .next t)

/-- R150 to R152: a port takes a forwarded frame when it is not QUIET, has no pending send and has a place (on U
one of the 5 general ones), and counts a drop otherwise, with QUEUE-FULL at the first of a run. An own frame
goes to the node of its role, enters the queue on the same condition and waits in the pending list otherwise,
an ACCEPT-SET in the place of a pending one. A sent frame gives its place to the pending sends, oldest first,
and on U to the held request; a sent REPLY to RESTART brings the warm restart (R179).
R150: a REPLY enters the end of U's queue; an own frame that has taken the last place since the request was
taken gives it up and waits.
R153, R182, R183: the head record leaves the event queue for U's queue, with the lost count, exactly while U is
not QUIET and two general places are free; a 17th record is lost and counted.
Rests on the model's choices in log entries 6, 24 and 46. -/
def Obligations.TransmitQueuesAndEvents : Prop :=
  (∀ (s : State) (p : PortId) (f : Frame), s.resetLow = false →
    let q := s.port p
    let with_ (x : Port) : State := { s with link := { s.link with ports := s.link.ports.set p x } }
    let isReply (x : TxFrame) : Bool := decide (x.kind = .reply) || decide (x.kind = .restartReply)
    let room (l : List TxFrame) : Prop :=
      l.length < 6 ∧ (p = 0 → (l.filter fun x => !isReply x).length < 5)
    let places : Prop := q.state ≠ .quiet ∧ q.waiting = [] ∧ room q.tx
    let drops := min 255 (q.overflow + 1)
    let dropped : State := with_ { q with overflow := drops, runOpen := true }
    let own (x : Frame) : TxFrame := { frame := x, kind := .own }
    (places → forward p f s =
      with_ { q with tx := q.tx ++ [{ frame := f, kind := .forwarded }], runOpen := false }) ∧
    (¬ places → q.runOpen = true → forward p f s = dropped) ∧
    (¬ places → q.runOpen = false →
      ∃ t, Becomes dropped [(.queueFull, byteOf p, amount drops)] t ∧ forward p f s = t) ∧
    (∀ role type payload,
      (roleEntry role s.link = none → sendOwn role type payload s = s) ∧
      ∀ n, roleEntry role s.link = some n → n.port = p →
        let g : Frame := { dest := n.node, src := s.link.ownNode, type := type, payload := payload }
        (places → sendOwn role type payload s = with_ { q with tx := q.tx ++ [own g] }) ∧
        (¬ places → (type = 0x58 → ∀ x ∈ q.waiting, x.type ≠ 0x58) →
          sendOwn role type payload s = with_ { q with waiting := q.waiting ++ [g] }) ∧
        (∀ before x after, ¬ places → type = 0x58 → q.waiting = before ++ x :: after → x.type = 0x58 →
          (∀ y ∈ before, y.type ≠ 0x58) →
          sendOwn role type payload s = with_ { q with waiting := before ++ g :: after })) ∧
    (q.tx = [] → ∃ t, Becomes s [] t ∧ exec (.frameSent p) s = .next t) ∧
    ∀ x rest, q.tx = x :: rest →
      (x.kind = .restartReply → s.link.restartPending = true →
        exec (.frameSent p) s = .next (warmRestart (with_ { q with tx := rest }))) ∧
      (x.kind ≠ .restartReply ∨ s.link.restartPending = false →
        ∃ k ≤ q.waiting.length,
          let sent := rest ++ (q.waiting.take k).map own
          let u := with_ { q with tx := sent, waiting := q.waiting.drop k }
          (q.state = .quiet → k = 0) ∧
          (∀ j < k, room (rest ++ (q.waiting.take j).map own)) ∧
          (q.state ≠ .quiet → k < q.waiting.length → ¬ room sent) ∧
          exec (.frameSent p) s = .next (pump (if p = 0 then takeHeld u else u)))) ∧
  ∀ s : State,
    let q := s.port 0
    let isReply (x : TxFrame) : Bool := decide (x.kind = .reply) || decide (x.kind = .restartReply)
    let two : Prop := q.tx.length ≤ 4 ∧ (q.tx.filter fun x => !isReply x).length ≤ 3
    (∀ src type status data kind, q.state ≠ .quiet →
      let answer : TxFrame :=
        { kind := kind
          frame := { dest := src, src := s.link.ownNode, type := 0x33
                     payload := type :: statusByte status :: data } }
      let with_ (x : Port) : State := { s with link := { s.link with ports := s.link.ports.set 0 x } }
      (q.tx.length < 6 → reply src type status data kind s = with_ { q with tx := q.tx ++ [answer] }) ∧
      (∀ before f, q.tx = before ++ [{ frame := f, kind := .own }] → 6 ≤ q.tx.length →
        (f.type = 0x58 → ∀ x ∈ q.waiting, x.type ≠ 0x58) →
        reply src type status data kind s =
          with_ { q with tx := before ++ [answer], waiting := f :: q.waiting })) ∧
    (s.link.hold = none ∨ replyPlace s = false → takeHeld s = s) ∧
    (∀ h, s.link.hold = some h → replyPlace s = true →
      takeHeld s = handleByType h.1 h.2 { s with link := { s.link with hold := none } }) ∧
    (s.events.queue = [] ∨ q.state = .quiet ∨ ¬ two → pump s = s) ∧
    (∀ e es, s.events.queue = e :: es → q.state ≠ .quiet → two →
      let event : TxFrame :=
        { kind := .event
          frame := { dest := ((roleEntry .machineController s.link).map (·.node)).getD 0
                     src := s.link.ownNode, type := 0x32
                     payload := [e.code.byte, e.subject] ++ bytes32 e.value ++ bytes32 e.time
                       ++ [byteOf s.events.lost] } }
      pump s = pump { s with
        events := { queue := es, lost := 0 }
        link := { s.link with ports := s.link.ports.set 0 { q with tx := q.tx ++ [event] } } }) ∧
    ∀ code subject value,
      let e : Event := { code := code, subject := subject, value := value, time := stamp s }
      (s.events.queue.length < 16 → raise code subject value s =
        pump { s with events := { s.events with queue := s.events.queue ++ [e] } }) ∧
      (16 ≤ s.events.queue.length → raise code subject value s =
        pump { s with events := { s.events with lost := min 255 (s.events.lost + 1) } })

/-! ## Service requests (chapter 10) -/

/-- R150, R165, R174: every request row and CANCEL. With a place for its REPLY the request is taken whole; without
one it waits in the request hold, and with that occupied it is dropped with REQUEST-DROPPED; with U QUIET it is
not delivered (log entry 22). A service request taken puts one REPLY of its type to its source into U's queue,
is an activity, and leaves the state as it was unless the status is DONE. A payload whose length is not the
type's, or the table's, is refused with RANGE.
Rests on the model's choices in log entries 7, 9 and 22. -/
def Obligations.RequestsHeldTakenAndAnswered : Prop :=
  (∀ (c : Instr) (s : State) (src type : Byte) (payload : List Byte), s.resetLow = false → requestOf c = some (src, type, payload) →
    let f : Frame := { dest := s.link.ownNode, src := src, type := type, payload := payload }
    let q := s.port 0
    let held : State := { s with link := { s.link with hold := some (0, f) } }
    (q.state = .quiet → ∃ t, Becomes s [] t ∧ exec c s = .next t) ∧
    (q.state ≠ .quiet → q.tx.length < 6 → exec c s = .next (pump (takeRequest f s))) ∧
    (q.state ≠ .quiet → 6 ≤ q.tx.length → s.link.hold = none →
      ∃ t, Becomes held [] t ∧ exec c s = .next t) ∧
    (q.state ≠ .quiet → 6 ≤ q.tx.length → s.link.hold ≠ none →
      ∃ t, Becomes s [(.requestDropped, type, src.setWidth 32)] t ∧ exec c s = .next t) ∧
    (q.state ≠ .quiet → q.tx.length < 6 → type ≠ 0x21 →
      ∃ u status data kind, (status ≠ .done → u = s) ∧ data.length ≤ 38 ∧
        (kind = TxKind.reply ∨ kind = TxKind.restartReply) ∧
        exec c s = .next (pump (activity .serviceRequest (reply src type status data kind u))))) ∧
  (∀ (s : State) (src type : Byte) (payload : List Byte) (i : Fin 14), type = 0x41 + byteOf i →
    payload.length ≠ ([2, 1, 2, 2, 2, 0, 1, 1, 1, 4, 0, 1, 0, 0] : List Nat).getD i 0 →
    takeService src type payload s =
      activity .serviceRequest (reply src type .range [] .reply s)) ∧
  ∀ (s : State) (src table : Byte) (entry : List Byte),
    17 ≤ table.toNat ∨ table = 0x0B ∨
      entry.length ≠ ([16, 5, 5, 4, 5, 6, 2, 4, 4, 6, 7, 0, 4, 6, 6, 8, 7] : List Nat).getD table.toNat 0 →
    takeService src 0x40 (table :: entry) s =
      activity .serviceRequest (reply src 0x40 .range [] .reply s)

/-- R26, R27, R52, R175, R5: the writes of the selection, coin, note and tube configuration tables, check by
check: MODE outside OFFLINE and SERVICE, RANGE for a bad index or field, then BUSY and CONFLICT as the table's
rule has them. On DONE the entry is replaced whole, the kept fields of a selection stay, and the assurance, the
accept set and the tube's flap are judged again where the rule says so. Motor B of a kind without one is not
judged (log entry 20).
Rests on the model's choices in log entries 7, 20 and 34. -/
def Obligations.SalesTableWrites : Prop :=
  ∀ (s : State) (src index : Byte), s.resetLow = false → replyPlace s = true →
    let service : Prop := s.vend.sales = .offline ∨ s.vend.sales = .service
    let sent (status : Status) (data : List Byte) (u : State) : Host.Outcome State Fault Refusal :=
      .next (answered src 0x40 status data u)
    let busy : Prop := s.coins.engine.phase ≠ .idle
    (∀ e : SelectionEntry,
      let w := exec (.selectionTableWrite src index e) s
      let motorB (x : Selection) : Prop :=
        if x.kind = .twinSpiral then
          ∃ c, x.motorB = some c ∧ byteOf c = e.colB ∧ e.rowB = e.rowA ∧ c ≠ x.motorA.col
        else x.motorB = none
      let reads (old x : Selection) : Prop :=
        yesNo x.enabled = e.enabled ∧ x.price = e.price.toNat ∧ x.kind.code = e.kind ∧
        byteOf x.motorA.row = e.rowA ∧ byteOf x.motorA.col = e.colA ∧ motorB x ∧
        x.turns = e.turns.toNat ∧ 1 ≤ x.turns ∧ x.turns ≤ 3 ∧
        x.runTime = e.runTime.toNat ∧ 1 ≤ x.runTime ∧ x.runTime ≤ 100 ∧
        x.retries = e.retries.toNat ∧ x.retries ≤ 2 ∧ firstIf x.verify = e.verify ∧
        yesNo x.continuous = e.continuous ∧ yesNo x.trace = e.trace ∧ zoneCode x.zone = e.zone ∧
        x.empty = old.empty ∧ x.vendCount = old.vendCount ∧ x.failCount = old.failCount
      (¬ service → w = sent .mode [] s) ∧
      (service → 96 ≤ index.toNat ∨ (∀ old x, ¬ reads old x) → w = sent .range [] s) ∧
      ∀ (i : Fin 96) (x : Selection), service → index = byteOf i → reads s.vend.selections[i] x →
        let named : Prop := ∃ v ∈ s.vend.queue, v.driving = true ∧ v.selection = i
        (named → w = sent .busy [] s) ∧
        (¬ named → w = sent .done [0x00, index]
          { s with vend := { s.vend with selections := s.vend.selections.set i x } })) ∧
    (∀ (value : Half) (policy tube : Byte),
      let w := exec (.coinTableWrite src index value policy tube) s
      let reads (x : CoinEntry) : Prop :=
        x.value = value.toNat ∧ x.value ≤ 5000 ∧ x.policy.code = policy ∧ tubeCode x.tube = tube
      (¬ service → w = sent .mode [] s) ∧
      (service → 16 ≤ index.toNat ∨ (∀ x, ¬ reads x) → w = sent .range [] s) ∧
      ∀ (i : Fin 16) (x : CoinEntry), service → index = byteOf i → reads x →
        (busy → w = sent .busy [] s) ∧
        (¬ busy → w = sent .done [0x01, index] (recomputeAccept (evaluateAssurance
          { s with coins := { s.coins with table := s.coins.table.set i x } })))) ∧
    (∀ (value : Half) (enabled test : Byte),
      let w := exec (.noteTableWrite src index value enabled test) s
      let reads (x : NoteEntry) : Prop :=
        x.value = value.toNat ∧ x.value ≤ 60000 ∧ yesNo x.enabled = enabled ∧ firstIf x.changeTest = test
      (¬ service → w = sent .mode [] s) ∧
      (service → 8 ≤ index.toNat ∨ (∀ x, ¬ reads x) → w = sent .range [] s) ∧
      ∀ (i : Fin 8) (x : NoteEntry), service → index = byteOf i → reads x →
        w = sent .done [0x02, index] { s with money := { s.money with notes := s.money.notes.set i x } }) ∧
    ∀ cls capacity full : Byte,
      let w := exec (.tubeConfigurationWrite src index cls capacity full) s
      let reads (old x : Tube) : Prop :=
        assignedByte x.cls = cls ∧ x.capacity = capacity.toNat ∧ 1 ≤ x.capacity ∧ x.capacity ≤ 250 ∧
        x.fullLevel = full.toNat ∧ 1 ≤ x.fullLevel ∧ x.fullLevel ≤ x.capacity ∧
        x.count = old.count ∧ x.overfill = old.overfill ∧ x.flap = old.flap
      (¬ service → w = sent .mode [] s) ∧
      (service → 6 ≤ index.toNat ∨ (∀ old x, ¬ reads old x) → w = sent .range [] s) ∧
      ∀ (i : TubeId) (x : Tube), service → index = byteOf i → reads s.coins.tubes[i] x →
        (busy → w = sent .busy [] s) ∧
        (¬ busy → x.capacity < x.count → w = sent .conflict [] s) ∧
        (¬ busy → x.count ≤ x.capacity → w = sent .done [0x03, index] (tubeChanged i
          { s with coins := { s.coins with tubes := s.coins.tubes.set i x } }))

/-- R36, R48, R50, R86, R152, R154, R156, R167: the writes of the node, disposition and fault disposition tables,
of the change settings and of the drive settings, check by check. A node write that adds, moves, renumbers or
removes the COIN-VALIDATOR entry discards the pending ACCEPT-SET of the old one's port and issues the set anew;
change settings judge the assurance again; drive settings are refused BUSY while a drive is under way. A class
write acts on the list by `writeClass`: the records stay, the causes act on the sales state at once, and no
WAITING entry is left whose selection a new isolation concerns.
Rests on the model's choices in log entries 7, 34 and 50. -/
def Obligations.LinkClassAndSettingsWrites : Prop :=
  (∀ (s : State) (src index : Byte), s.resetLow = false → replyPlace s = true →
    let service : Prop := s.vend.sales = .offline ∨ s.vend.sales = .service
    let sent (status : Status) (data : List Byte) (u : State) : Host.Outcome State Fault Refusal :=
      .next (answered src 0x40 status data u)
    (∀ valid node port role : Byte,
      let w := exec (.nodeTableWrite src index valid node port role) s
      let reads (x : Node) : Prop :=
        yesNo x.valid = valid ∧ x.node = node ∧ 1 ≤ node.toNat ∧ node.toNat ≤ 31 ∧ byteOf x.port = port ∧
        x.role.code = role
      (¬ service → w = sent .mode [] s) ∧
      (service → 16 ≤ index.toNat ∨ (∀ x, ¬ reads x) → w = sent .range [] s) ∧
      ∀ (i : Fin 16) (x : Node), service → index = byteOf i → reads x →
        let u : State := { s with link := { s.link with nodes := s.link.nodes.set i x } }
        let place (l : Link) := (roleEntry .coinValidator l).map fun n => (n.node, n.port)
        let without (q : Port) : Port := { q with waiting := q.waiting.filter fun g => decide (g.type ≠ 0x58) }
        let cleared (p : PortId) : State :=
          { u with link := { u.link with ports := u.link.ports.set p (without (s.port p)) } }
        let t := match place s.link with
          | none => u
          | some a => cleared a.2
        (place u.link = place s.link → w = sent .done [0x04, index] u) ∧
        (place u.link ≠ place s.link → place u.link = none →
          w = sent .done [0x04, index] (recomputeAccept t)) ∧
        (place u.link ≠ place s.link → place u.link ≠ none → w = sent .done [0x04, index]
          (recomputeAccept { t with coins := { t.coins with lastAccept := none } }))) ∧
    (∀ enabled type ports dest action : Byte,
      let w := exec (.dispositionTableWrite src index enabled type ports dest action) s
      let reads (x : Disposition) : Prop :=
        yesNo x.enabled = enabled ∧ x.type = type ∧ x.ports.setWidth 8 = ports ∧ x.dest.code = dest ∧
        x.action.code = action
      (32 ≤ index.toNat ∨ (∀ x, ¬ reads x) → w = sent .range [] s) ∧
      ∀ (i : Fin 32) (x : Disposition), index = byteOf i → reads x → w = sent .done [0x05, index]
        { s with link := { s.link with dispositions := s.link.dispositions.set i x } }) ∧
    (∀ cls : Byte,
      let w := exec (.faultDispositionWrite src index cls) s
      (12 ≤ index.toNat ∨ 3 ≤ cls.toNat → w = sent .range [] s) ∧
      ∀ (k : Fin 12) (c : FaultClass), index = byteOf k → c.code = cls →
        w = sent .done [0x06, index] (writeClass k c s)) ∧
    (∀ (allowance : Byte) (ceiling : Half),
      let w := exec (.changeSettingsWrite src index allowance ceiling) s
      let ranges : Prop := index = 0 ∧ 1 ≤ allowance.toNat ∧ allowance.toNat ≤ 40 ∧ ceiling.toNat ≤ 2000
      (¬ ranges → w = sent .range [] s) ∧
      (ranges → w = sent .done [0x08, 0] (evaluateAssurance { s with coins := { s.coins with
        allowance := allowance.toNat, ceiling := ceiling.toNat } }))) ∧
    ∀ (threshold time : Half) (form number : Byte),
      let w := exec (.driveSettingsWrite src index threshold time form number) s
      let reads (x : DriveSettings) : Prop :=
        index = 0 ∧ x.threshold = threshold.toNat ∧ 100 ≤ x.threshold ∧ x.threshold ≤ 2550 ∧
        x.threshold % 10 = 0 ∧ x.stallMs = time.toNat ∧ 50 ≤ x.stallMs ∧ x.stallMs ≤ 1000 ∧
        x.stallMs % 10 = 0 ∧ x.form.code = form ∧ x.number = number.toNat ∧
        x.number ≤ (if x.form = .coarse then 5 else 31)
      let driving : Prop := ∃ e ∈ s.vend.queue, e.driving = true
      (¬ service → w = sent .mode [] s) ∧
      (service → (∀ x, ¬ reads x) → w = sent .range [] s) ∧
      ∀ x, service → reads x →
        (driving → w = sent .busy [] s) ∧
        (¬ driving → w = sent .done [0x0A, 0] { s with drive := { s.drive with settings := x } })) ∧
  ∀ (s : State) (k : Fin 12) (c : FaultClass),
    let f : FaultList := { s.faults with classes := s.faults.classes.set k c }
    let t := writeClass k c s
    t.faults = f ∧
    t.vend.sales = (match s.vend.sales with
      | .selling | .suspended => if noCause { s with faults := f } then .selling else .suspended
      | .offline => .offline
      | .service => .service) ∧
    ∀ i : Item, isolated i s.faults = false → isolated i f = true →
      ∀ e ∈ t.vend.queue, (s.vend.selections[e.selection].affectedBy i) = true → e.driving = true

/-- R160, R165, R176, R177: TABLE-READ and RECORD-READ answer, in any sales state, DONE with the codes and what
is held, or RANGE for a table, record, index or block that is none of them, and change nothing. The blocks of
the credit record with card funds present, of the totals and of the supply arbiter with no claim ABSENT are
given byte for byte. What a write that was DONE put into a table is what a read of it then returns, byte for byte; a selection read has the motor
B of a kind without one as 0xFF 0xFF, and the kept fields behind the entry. A record block longer than a REPLY
can carry is cut to 38 bytes that the spec leaves open (log entry 17).
Rests on the model's choices in log entries 7, 16, 17, 18 and 36. -/
def Obligations.ReadsReturnWhatIsHeld : Prop :=
  (∀ (s : State) (src code index : Byte), s.resetLow = false → replyPlace s = true →
    let table := exec (.tableRead src code index) s
    let record := exec (.recordRead src code index) s
    let tableSize := ([96, 16, 8, 6, 16, 32, 12, 1, 1, 1, 1, 80, 2, 1, 2, 1, 8] : List Nat).getD code.toNat 0
    let recordSize := ([1, 1, 7, 1, 3, 2, 1, 4, 24, 4, 5, 4] : List Nat).getD code.toNat 0
    (tableSize ≤ index.toNat → table = .next (answered src 0x41 .range [] s)) ∧
    (index.toNat < tableSize → ∃ b, tableEntry code index s = some b ∧
      table = .next (answered src 0x41 .done (code :: index :: b) s)) ∧
    (recordSize ≤ index.toNat → record = .next (answered src 0x43 .range [] s)) ∧
    (index.toNat < recordSize → ∃ b, recordBlock code index s = some b ∧
      (b.length ≤ 36 → record = .next (answered src 0x43 .done (code :: index :: b) s)) ∧
      ∃ data, data.length ≤ 38 ∧ record = .next (answered src 0x43 .done data s))) ∧
  (∀ s : State,
    let be (w : Word) : List Byte :=
      [w.extractLsb' 24 8, w.extractLsb' 16 8, w.extractLsb' 8 8, w.extractLsb' 0 8]
    let two (n : Nat) : List Byte := [BitVec.ofNat 8 (n / 256), BitVec.ofNat 8 n]
    let c := s.money.credit
    let m := s.money.totals
    let p := s.supply
    let state (x : Claim) : Byte := match x.state with | .absent => 0 | .waiting => 1 | .granted => 2
    let points (x : Claim) : Byte := BitVec.ofNat 8 (if x.state = .waiting then x.cost else x.held)
    let session : Byte := match c.session with | .none => 0 | .opened => 1 | .ending => 2
    let mode : Byte := match c.vendMode with | .single => 0 | .multi => 1
    let deferring : Byte := if p.deferring then 1 else 0
    (∀ f, c.funds = some f → recordBlock 0 0 s = some (be c.cash ++ be c.committed ++ be c.payout ++ be f
      ++ be c.cardCommitted ++ [session] ++ two c.limit ++ [mode])) ∧
    recordBlock 1 0 s = some (be m.deposited ++ be m.sales ++ be m.paid ++ be m.written ++ be m.cardSales
      ++ be m.manual ++ be m.vends) ∧
    (p.vend.state ≠ .absent → p.compressor.state ≠ .absent → p.heater.state ≠ .absent →
      recordBlock 5 1 s = some ([BitVec.ofNat 8 p.budget, BitVec.ofNat 8 (pointsGranted p),
        BitVec.ofNat 8 (p.budget - pointsGranted p), state p.vend, points p.vend, p.vendTag,
        state p.compressor, points p.compressor] ++ two (min 255 (p.waitMs / 1000))
        ++ [deferring, state p.heater, points p.heater]))) ∧
  ∀ (s : State) (table index : Byte) (entry : List Byte),
    let a := tableWrite table (index :: entry) s
    a.status = .done →
    (table ≠ 0 → tableEntry table index a.state = some entry) ∧
    (table = 0 → ∀ i : Fin 96, index = byteOf i →
      ∃ en p1 p2 kind ra ca rb cb rest, entry = en :: p1 :: p2 :: kind :: ra :: ca :: rb :: cb :: rest ∧
      let x := s.vend.selections[i]
      tableEntry 0 index a.state = some (en :: p1 :: p2 :: kind :: ra :: ca
        :: (if kind = 1 then rb else 0xFF) :: (if kind = 1 then cb else 0xFF) :: rest
        ++ yesNo x.empty :: halfOf x.vendCount ++ [byteOf x.failCount]))

/-! ## Fault list (chapter 9) -/

/-- R166, R168, R170, R171: a report. A stored record of the kind and subject counts one more and is the youngest
in report order, with FAULT-REPEAT; a new one takes the lowest empty place, or that of the oldest NOTE record
without a present condition, with FAULT-NEW; with neither the report is lost with FAULT-LOST and the list is in
OVERFLOW. An isolation that begins is told to the item's owner and the causes act on the sales state. A
condition that ends is cleared in its record with FAULT-ENDED, and is no event without a record.
Rests on the model's choice in log entry 14. -/
def Obligations.FaultReported : Prop :=
  ∀ (s : State) (k : FaultKind) (subject : Nat),
    let f := s.faults
    let holds (p : Fin 24) : Prop := ∃ r, f.places[p] = some r ∧ r.kind = k ∧ r.subject = subject
    let put (p : Fin 24) (r : FaultRecord) : State := { s with faults := { f with
      places := f.places.set p (some r), nextOrder := f.nextOrder + 1 } }
    let value (r : FaultRecord) : Word :=
      byteOf k.index ++ byteOf subject ++ byteOf r.count ++ (if r.present then (1 : Byte) else 0)
    let lasting : Bool := decide (k = .dropBlocked ∨ k = .probeOpen ∨ k = .probeShort ∨ k = .portQuiet)
    let new : FaultRecord := { kind := k, subject := subject, firstSeen := stamp s, count := 1
                               present := lasting, storeOrder := f.nextOrder, reportOrder := f.nextOrder }
    let cheap (p : Fin 24) (r : FaultRecord) : Prop :=
      f.places[p] = some r ∧ f.classes[r.kind.index] = .note ∧ r.present = false
    let stored (p : Fin 24) : Prop := ∃ t, Becomes (put p new) [(.faultNew, byteOf p, value new)] t ∧
      (∀ i, itemOf k subject = some i → f.classes[k.index] = .isolate → isolated i f = false →
        report k subject s = suspendCheck (isolationBegins i t)) ∧
      ((∀ i, itemOf k subject = some i → f.classes[k.index] = .isolate → isolated i f = true) →
        report k subject s = suspendCheck t)
    (∀ p r, f.places[p] = some r → holds p → (∀ o < p, ¬ holds o) →
      let q : FaultRecord := { r with count := min 255 (r.count + 1), present := r.present || lasting
                                      reportOrder := f.nextOrder }
      let ended : FaultRecord := { r with present := false }
      (∃ t, Becomes (put p q) [(.faultRepeat, byteOf p, value q)] t ∧ report k subject s = t) ∧
      ∃ t, Becomes { s with faults := { f with places := f.places.set p (some ended) } }
          [(.faultEnded, byteOf p, value ended)] t ∧ conditionEnded k subject s = t) ∧
    ((∀ p, ¬ holds p) →
      conditionEnded k subject s = s ∧
      (∀ p, f.places[p] = none → (∀ o < p, f.places[o] ≠ none) → stored p) ∧
      (∀ p r, (∀ o : Fin 24, f.places[o] ≠ none) → cheap p r →
        (∀ o x, cheap o x → r.storeOrder < x.storeOrder ∨ (r.storeOrder = x.storeOrder ∧ p ≤ o)) →
        stored p) ∧
      ((∀ o : Fin 24, f.places[o] ≠ none) → (∀ p r, ¬ cheap p r) →
        ∃ t, Becomes { s with faults := { f with overflow := true } }
            [(.faultLost, 0xFF, byteOf k.index ++ byteOf subject ++ (0 : Byte) ++ (0 : Byte))] t ∧
          report k subject s = suspendCheck t)) ∧
    (∀ t : TubeId, isolationBegins (.tube t) s = tubeChanged t s) ∧
    (∀ n, isolationBegins (.motor n) s = cancelWhere (fun e =>
      s.vend.selections[e.selection].motors.any fun m => decide (m.index = n)) .fault s) ∧
    isolationBegins .curtain s = cancelWhere (fun e => s.vend.selections[e.selection].verify) .fault s ∧
    ∀ z : ZoneId, isolationBegins (.airProbe z) s = cancelWhere (fun e =>
      decide (s.vend.selections[e.selection].zone = some z)) .fault s

/-- R172, R173: FAULT-CLEAR, check by check. On DONE the place is empty, a tube whose isolation this ends is judged
again, the causes act on the sales state, and in OVERFLOW the list becomes NORMAL and each condition that is
present without a record is reported again, probes 0 to 2, curtain, ports 0 to 3.
Rests on the model's choices in log entries 7 and 14. -/
def Obligations.FaultClearedAndOverflowEnds : Prop :=
  (∀ (s : State) (src index : Byte), s.resetLow = false → replyPlace s = true →
    let w := exec (.faultClear src index) s
    (24 ≤ index.toNat → w = .next (answered src 0x48 .range [] s)) ∧
    ∀ p : Fin 24, index = byteOf p →
      (s.faults.places[p] = none → w = .next (answered src 0x48 .conflict [] s)) ∧
      ∀ r, s.faults.places[p] = some r →
        let gone : State := { s with faults := { s.faults with places := s.faults.places.set p none } }
        let freed (t : TubeId) : Prop := itemOf r.kind r.subject = some (.tube t) ∧
          isolated (.tube t) s.faults = true ∧ isolated (.tube t) gone.faults = false
        let cleared (u : State) : State :=
          if s.faults.overflow then endOverflow (suspendCheck u) else suspendCheck u
        let kept := [byteOf r.kind.index, byteOf r.subject]
        let answer (u : State) := Host.Outcome.next (answered src 0x48 .done (kept ++ [byteOf r.count]) u)
        (r.present = true → w = .next (answered src 0x48 .notReady kept s)) ∧
        (r.present = false →
          (∀ t, freed t → w = answer (cleared (tubeChanged t gone))) ∧
          ((∀ t, ¬ freed t) → w = answer (cleared gone)))) ∧
  ∀ s : State,
    let probe (i : Fin 3) : Option (FaultKind × Nat) :=
      match s.cooling.probes[i].state with
      | .faultedOpen => some (.probeOpen, i)
      | .faultedShort => some (.probeShort, i)
      | .noSample | .valid => none
    let curtain : List (FaultKind × Nat) := if s.drive.monitor = .blocked then [(.dropBlocked, 0)] else []
    let ports : List (FaultKind × Nat) := (([0, 1, 2, 3] : List PortId).filter fun p =>
      decide ((s.port p).state = .quiet)).map fun p => (.portQuiet, p.val)
    endOverflow s = ((([0, 1, 2] : List (Fin 3)).filterMap probe) ++ curtain ++ ports).foldl
      (fun u c => if (findPlace c.1 c.2 u.faults).isSome then u else report c.1 c.2 u)
      (suspendCheck { s with faults := { s.faults with overflow := false } })

/-! ## Resets and the queue of commands (chapter 10) -/

/-- R181, and the "after cold reset" value of each item: while RESETn is low every output is off and no command
but COLD_RESET has an effect. What the return of RESETn leaves, whatever the state before, is the
state of the rules with the own node number 24 plus the straps and the one event POWER-UP; the commands that
wait and the number of the next free value are the model's own and stay (log entries 5 and 15). The safety
propositions hold of it, and so of `State.reset`.
Rests on the model's choices in log entries 5, 6, 15, 29 and 35. -/
def Obligations.ColdResetValues : Prop :=
  (∀ (s : State) (straps : BitVec 2),
    let low : State := { s with resetLow := true }
    exec (.coldReset straps .goesLow) s = .next low ∧
    outputs low = { row := none, columns := [], solenoid := none, flaps := Vector.replicate 6 false
                    comp := false, heat := false, cfan := false, efan := false, dampA := false
                    dampB := false, lamp := 0 } ∧
    (∀ c, (∀ b e, c ≠ .coldReset b e) → exec c low = .next low) ∧
    tick low = low) ∧
  ∀ (s : State) (straps : BitVec 2) (cause : ResetCause), ∃ t,
    exec (.coldReset straps (.returns cause)) s = .next t ∧ t.resetLow = false ∧
    t.money.credit = { cash := 0, committed := 0, payout := 0, funds := none, cardCommitted := 0
                       session := .none, limit := 5000, vendMode := .single } ∧
    t.money.totals = { deposited := 0, sales := 0, paid := 0, written := 0, cardSales := 0, manual := 0
                       vends := 0 } ∧
    t.money.escrow.state = .none ∧ t.money.settlements = [] ∧ t.money.nextSettleTag = 0 ∧
    (∀ i : Fin 8, t.money.notes[i] = { value := 0, enabled := false, changeTest := false }) ∧
    (∀ i : Fin 16, t.coins.table[i] = { value := 0, policy := .never, tube := none }) ∧
    (∀ i : TubeId, t.coins.tubes[i] =
      { cls := none, capacity := 100, fullLevel := 80, count := 0, overfill := 0, flap := .tube }) ∧
    t.coins.inflight = [] ∧ t.coins.engine.phase = .idle ∧ t.coins.allowance = 25 ∧ t.coins.ceiling = 0 ∧
    t.coins.assured = true ∧ t.coins.lastAccept = none ∧
    (∀ i : Fin 96, t.vend.selections[i] =
      { enabled := false, price := 0, kind := .spiral, motorA := { row := 0, col := 0 }, motorB := none
        turns := 1, runTime := 10, retries := 0, verify := true, continuous := false, trace := false
        zone := none, empty := false, vendCount := 0, failCount := 0 }) ∧
    t.vend.sales = .offline ∧ t.vend.queue = [] ∧ t.vend.nextTag = 0 ∧
    t.drive.phase = .idle ∧ t.drive.record = none ∧ t.drive.trace.state = .free ∧
    t.drive.settings = { threshold := 1200, stallMs := 150, form := .coarse, number := 2 } ∧
    (∀ i : Fin 80, t.drive.lastDrive[i] = 0xFF) ∧
    t.supply.budget = 12 ∧ t.supply.motorCost = 3 ∧ t.supply.startCost = 8 ∧ t.supply.runCost = 4 ∧
    t.supply.heaterCost = 6 ∧ t.supply.vend.state = .absent ∧ t.supply.compressor.state = .absent ∧
    t.supply.heater.state = .absent ∧ t.supply.deferring = false ∧
    (∀ i : Fin 3, t.cooling.probes[i].state = .noSample) ∧
    t.cooling.zones[(0 : ZoneId)].setpoint = 40 ∧ t.cooling.zones[(1 : ZoneId)].setpoint = 120 ∧
    (∀ z : ZoneId, t.cooling.zones[z].differential = 20 ∧ t.cooling.zones[z].demand = false) ∧
    t.cooling.limpOnMin = 8 ∧ t.cooling.limpOffMin = 12 ∧ t.cooling.intervalH = 6 ∧
    t.cooling.terminate = 80 ∧
    t.cooling.compressor.state = .locked ∧ t.cooling.compressor.offMs = 180000 ∧
    t.cooling.compressor.relay = false ∧ t.cooling.compressor.accumulatorMs = 0 ∧
    t.cooling.defrost.state = .none ∧ t.cooling.defrost.heater = false ∧
    t.cabinet.holds[(0 : ZoneId)].enabled = true ∧ t.cabinet.holds[(0 : ZoneId)].limit = 80 ∧
    t.cabinet.holds[(1 : ZoneId)].enabled = false ∧ t.cabinet.holds[(1 : ZoneId)].limit = 180 ∧
    (∀ z : ZoneId, t.cabinet.holds[z].delay = 1800 ∧ t.cabinet.holds[z].accumulator = 0 ∧
      t.cabinet.holds[z].held = false) ∧
    t.cabinet.economy.state = .active ∧ t.cabinet.economy.lamp = 100 ∧ t.cabinet.economy.quietMs = 0 ∧
    t.cabinet.economy.mask = 0b111111 ∧ t.cabinet.economy.dimDelay = 300 ∧
    t.cabinet.economy.economyDelay = 1800 ∧ t.cabinet.economy.dimLevel = 30 ∧
    t.cabinet.economy.offset = 30 ∧ t.cabinet.clock.valid = false ∧
    (∀ i : Fin 8, t.cabinet.schedule[i].enabled = false) ∧
    (∀ p : PortId, (t.port p).assembly = .outside ∧ (t.port p).state = .active ∧ (t.port p).score = 0 ∧
      (t.port p).tx = [] ∧ (t.port p).waiting = [] ∧ (t.port p).overflow = 0 ∧
      (t.port p).runOpen = false ∧ (t.port p).unroutable = 0) ∧
    (∀ i : Fin 16, t.link.nodes[i] = { valid := false, node := 1, port := 0, role := .other }) ∧
    (∀ i : Fin 32, t.link.dispositions[i] =
      { enabled := false, type := 0, ports := 0, dest := .any, action := .pass }) ∧
    t.link.hold = none ∧ t.link.ownNode.toNat = 24 + straps.toNat ∧ t.link.restartPending = false ∧
    (∀ p : Fin 24, t.faults.places[p] = none) ∧ t.faults.overflow = false ∧
    t.faults.classes = #v[.isolate, .isolate, .isolate, .isolate, .isolate, .note, .note, .isolate, .isolate,
      .note, .note, .note] ∧
    t.events.lost = 0 ∧ (∃ e, t.events.queue = [e] ∧ e.code = .powerUp ∧ e.subject = t.link.ownNode ∧
      e.time = 0xFFFFFFFF ∧ e.value = if cause = .powerOn then 0 else 1) ∧
    t.pending = s.pending ∧ t.fresh = s.fresh ∧
    MoneyBalanced t ∧ CashSound t ∧ WithinBudget t ∧ TubesHold t ∧ FlightsFit t ∧ EventsFit t ∧
    QueueFits t ∧ CardPlacesFit t ∧ CardSound t ∧ QueuesHold t ∧ DriveNeedsGrant t ∧ LoadsApart t ∧
    HoldsCount t ∧ SetpointsClamped t ∧ PendingFit t ∧
    { t with pending := [], fresh := 0 } = State.cold straps cause ∧ State.reset = State.cold 0 .powerOn

/-- R179, R180 with R25, R35, R46, R73, R96, R106, R159, R182: RESTART makes a warm restart pending with the REPLY
that brings it, and a second one joins it. When it acts, each block's part is as its rule has it, the events
begin with RESTART, and the tables, totals, records, times and the fault list are kept. The PORT-QUIET condition
of a port that was QUIET has ended in its record; no port has a pending send, the queues hold nothing but the
events and the accept set issued anew, and no event is lost. While none is pending
WARM_RESTART is no event (log entry 24).
Rests on the model's choices in log entries 7, 10, 24 and 36. -/
def Obligations.WarmRestartActs : Prop :=
  (∀ (s : State) (src : Byte), s.resetLow = false → replyPlace s = true →
    let asked : State := { s with link := { s.link with restartPending := true } }
    (s.link.restartPending = true → exec (.restart src) s = .next (answered src 0x4E .done [] s)) ∧
    (s.link.restartPending = false → exec (.restart src) s =
      .next (pump (activity .serviceRequest (reply src 0x4E .done [] .restartReply asked))))) ∧
  ∀ s : State, s.resetLow = false →
    (s.link.restartPending = false → ∃ t, Becomes s [] t ∧ exec .warmRestart s = .next t) ∧
    (s.link.restartPending = true → ∃ t, exec .warmRestart s = .next t ∧
      (∃ rest, reports t =
        Event.line { code := .restart, subject := 0, value := 0, time := stamp s } :: rest) ∧
      t.money.totals = s.money.totals ∧ t.money.notes = s.money.notes ∧
      t.money.settlements = s.money.settlements ∧ t.money.nextSettleTag = s.money.nextSettleTag ∧
      (t.money.escrow.state = if s.money.escrow.state = .decidedReturn then .none else s.money.escrow.state) ∧
      t.money.leverArmed = false ∧ t.money.credit.committed = 0 ∧ t.money.credit.cardCommitted = 0 ∧
      t.money.credit.cash + t.money.credit.payout = s.money.credit.cash + s.money.credit.payout ∧
      t.money.credit.limit = s.money.credit.limit ∧ t.money.credit.vendMode = s.money.credit.vendMode ∧
      (s.money.credit.session = .opened → cardDriving s.vend = true →
        t.money.credit.session = .opened ∧ t.money.credit.funds = s.money.credit.funds) ∧
      (s.money.credit.session ≠ .opened ∨ cardDriving s.vend = false →
        t.money.credit.session = .none ∧ t.money.credit.funds = none) ∧
      t.coins.table = s.coins.table ∧ t.coins.inflight = [] ∧
      (∀ i : TubeId, t.coins.tubes[i] = { s.coins.tubes[i] with flap := flapTarget i s }) ∧
      t.coins.allowance = s.coins.allowance ∧ t.coins.ceiling = s.coins.ceiling ∧
      (s.money.credit.payout = 0 → t.coins.engine.phase = .idle) ∧
      t.vend.queue = [] ∧ t.vend.sales = .service ∧ t.vend.selections = s.vend.selections ∧
      t.vend.nextTag = s.vend.nextTag ∧ t.vend.doorOpen = s.vend.doorOpen ∧
      (∀ e, s.vend.queue.find? (·.driving) = some e → t.vend.lastOutcome =
        some { tag := e.tag, selection := e.selection, funds := e.funds, outcome := .aborted, cause := none }) ∧
      ((∀ e ∈ s.vend.queue, e.driving = false) → t.vend.lastOutcome = s.vend.lastOutcome) ∧
      t.drive.phase = .idle ∧ t.drive.record = none ∧ t.drive.settings = s.drive.settings ∧
      t.drive.lastDrive = s.drive.lastDrive ∧ t.drive.monitor = s.drive.monitor ∧
      (t.drive.trace = if s.drive.trace.state = .filling then { s.drive.trace with state := .full }
        else s.drive.trace) ∧
      t.supply.vend.state = .absent ∧ t.supply.deferring = false ∧
      (s.supply.compressor.state ≠ .waiting → t.supply.waitMs = s.supply.waitMs) ∧
      (s.supply.compressor.state = .granted → t.supply.compressor = s.supply.compressor) ∧
      (s.supply.heater.state = .granted → t.supply.heater = s.supply.heater) ∧
      t.cooling.probes = s.cooling.probes ∧ t.cooling.zones = s.cooling.zones ∧
      (s.supply.compressor.state ≠ .waiting → s.supply.heater.state ≠ .waiting → t.cooling = s.cooling) ∧
      t.cabinet = s.cabinet ∧
      (∀ p : PortId, (t.port p).assembly = .outside ∧ (t.port p).state = .active ∧ (t.port p).score = 0 ∧
        (t.port p).recovery = 0 ∧ (t.port p).runOpen = false ∧
        (t.port p).overflow = (s.port p).overflow ∧ (t.port p).unroutable = (s.port p).unroutable ∧
        (t.port p).waiting = [] ∧
        ∀ f ∈ (t.port p).tx, (f.kind = .own ∧ f.frame.type = 0x58) ∨ (p = 0 ∧ f.kind = .event)) ∧
      t.events.lost = 0 ∧
      (roleEntry .coinValidator s.link = none → t.coins.lastAccept = none) ∧
      (∀ n, roleEntry .coinValidator s.link = some n →
        let set := acceptSet t
        t.coins.lastAccept = some set ∧ ∃ f ∈ (t.port n.port).tx, f.kind = .own ∧
          f.frame = { dest := n.node, src := s.link.ownNode, type := 0x58
                      payload := [set.extractLsb' 8 8, set.extractLsb' 0 8] }) ∧
      t.link.hold = none ∧ t.link.restartPending = false ∧ t.link.nodes = s.link.nodes ∧
      t.link.dispositions = s.link.dispositions ∧ t.link.ownNode = s.link.ownNode ∧
      t.faults.classes = s.faults.classes ∧ t.faults.overflow = s.faults.overflow ∧
      ∀ i : Fin 24,
        (s.faults.places[i] = none → t.faults.places[i] = none) ∧
        ∀ r, s.faults.places[i] = some r → ∃ x, t.faults.places[i] = some { r with present := x } ∧
          (r.kind ≠ .portQuiet → x = r.present) ∧
          ∀ p : PortId, r.kind = .portQuiet → r.subject = p.val →
            ((s.port p).state ≠ .quiet → x = r.present) ∧
            ((s.port p).state = .quiet →
              (∀ j < i, ∀ o, s.faults.places[j] = some o → o.kind = .portQuiet → o.subject ≠ p.val) →
              x = false))

/-- The step (log entry 1): the command at the front of the queue is run with the queue's rest; on an empty queue
one millisecond passes. No command ends in a fault or a refusal, and none touches the commands that wait.
Rests on the model's choices in log entries 1 and 33. -/
def Obligations.StepTakesTheFrontCommand : Prop :=
  (∀ (s : State) (c : Instr) (rest : List Instr), s.pending = c :: rest →
    step s = exec c { s with pending := rest }) ∧
  (∀ s : State, s.pending = [] → step s = .next (tick s)) ∧
  ∀ (c : Instr) (s : State), ∃ t, exec c s = .next t ∧ t.pending = s.pending
end

