-- ==== Sys2Proof/Laws/State.lean ====
section
/-! SUPPORT. One lemma per block of the state for each named update: what it makes of its own block, and
that every other block stays. -/

namespace Sys2Proof.Machine.State

variable (s : State)

@[simp] theorem mapMoney_money (f : Money → Money) : (s.mapMoney f).money = f s.money := rfl
@[simp] theorem mapMoney_coins (f : Money → Money) : (s.mapMoney f).coins = s.coins := rfl
@[simp] theorem mapMoney_vend (f : Money → Money) : (s.mapMoney f).vend = s.vend := rfl
@[simp] theorem mapMoney_drive (f : Money → Money) : (s.mapMoney f).drive = s.drive := rfl
@[simp] theorem mapMoney_supply (f : Money → Money) : (s.mapMoney f).supply = s.supply := rfl
@[simp] theorem mapMoney_cooling (f : Money → Money) : (s.mapMoney f).cooling = s.cooling := rfl
@[simp] theorem mapMoney_cabinet (f : Money → Money) : (s.mapMoney f).cabinet = s.cabinet := rfl
@[simp] theorem mapMoney_link (f : Money → Money) : (s.mapMoney f).link = s.link := rfl
@[simp] theorem mapMoney_faults (f : Money → Money) : (s.mapMoney f).faults = s.faults := rfl
@[simp] theorem mapMoney_events (f : Money → Money) : (s.mapMoney f).events = s.events := rfl
@[simp] theorem mapMoney_resetLow (f : Money → Money) : (s.mapMoney f).resetLow = s.resetLow := rfl
@[simp] theorem mapMoney_fresh (f : Money → Money) : (s.mapMoney f).fresh = s.fresh := rfl
@[simp] theorem mapMoney_pending (f : Money → Money) : (s.mapMoney f).pending = s.pending := rfl

@[simp] theorem mapCoins_money (f : Coins → Coins) : (s.mapCoins f).money = s.money := rfl
@[simp] theorem mapCoins_coins (f : Coins → Coins) : (s.mapCoins f).coins = f s.coins := rfl
@[simp] theorem mapCoins_vend (f : Coins → Coins) : (s.mapCoins f).vend = s.vend := rfl
@[simp] theorem mapCoins_drive (f : Coins → Coins) : (s.mapCoins f).drive = s.drive := rfl
@[simp] theorem mapCoins_supply (f : Coins → Coins) : (s.mapCoins f).supply = s.supply := rfl
@[simp] theorem mapCoins_cooling (f : Coins → Coins) : (s.mapCoins f).cooling = s.cooling := rfl
@[simp] theorem mapCoins_cabinet (f : Coins → Coins) : (s.mapCoins f).cabinet = s.cabinet := rfl
@[simp] theorem mapCoins_link (f : Coins → Coins) : (s.mapCoins f).link = s.link := rfl
@[simp] theorem mapCoins_faults (f : Coins → Coins) : (s.mapCoins f).faults = s.faults := rfl
@[simp] theorem mapCoins_events (f : Coins → Coins) : (s.mapCoins f).events = s.events := rfl
@[simp] theorem mapCoins_resetLow (f : Coins → Coins) : (s.mapCoins f).resetLow = s.resetLow := rfl
@[simp] theorem mapCoins_fresh (f : Coins → Coins) : (s.mapCoins f).fresh = s.fresh := rfl
@[simp] theorem mapCoins_pending (f : Coins → Coins) : (s.mapCoins f).pending = s.pending := rfl

@[simp] theorem mapVend_money (f : Vend → Vend) : (s.mapVend f).money = s.money := rfl
@[simp] theorem mapVend_coins (f : Vend → Vend) : (s.mapVend f).coins = s.coins := rfl
@[simp] theorem mapVend_vend (f : Vend → Vend) : (s.mapVend f).vend = f s.vend := rfl
@[simp] theorem mapVend_drive (f : Vend → Vend) : (s.mapVend f).drive = s.drive := rfl
@[simp] theorem mapVend_supply (f : Vend → Vend) : (s.mapVend f).supply = s.supply := rfl
@[simp] theorem mapVend_cooling (f : Vend → Vend) : (s.mapVend f).cooling = s.cooling := rfl
@[simp] theorem mapVend_cabinet (f : Vend → Vend) : (s.mapVend f).cabinet = s.cabinet := rfl
@[simp] theorem mapVend_link (f : Vend → Vend) : (s.mapVend f).link = s.link := rfl
@[simp] theorem mapVend_faults (f : Vend → Vend) : (s.mapVend f).faults = s.faults := rfl
@[simp] theorem mapVend_events (f : Vend → Vend) : (s.mapVend f).events = s.events := rfl
@[simp] theorem mapVend_resetLow (f : Vend → Vend) : (s.mapVend f).resetLow = s.resetLow := rfl
@[simp] theorem mapVend_fresh (f : Vend → Vend) : (s.mapVend f).fresh = s.fresh := rfl
@[simp] theorem mapVend_pending (f : Vend → Vend) : (s.mapVend f).pending = s.pending := rfl

@[simp] theorem mapDrive_money (f : Driver → Driver) : (s.mapDrive f).money = s.money := rfl
@[simp] theorem mapDrive_coins (f : Driver → Driver) : (s.mapDrive f).coins = s.coins := rfl
@[simp] theorem mapDrive_vend (f : Driver → Driver) : (s.mapDrive f).vend = s.vend := rfl
@[simp] theorem mapDrive_drive (f : Driver → Driver) : (s.mapDrive f).drive = f s.drive := rfl
@[simp] theorem mapDrive_supply (f : Driver → Driver) : (s.mapDrive f).supply = s.supply := rfl
@[simp] theorem mapDrive_cooling (f : Driver → Driver) : (s.mapDrive f).cooling = s.cooling := rfl
@[simp] theorem mapDrive_cabinet (f : Driver → Driver) : (s.mapDrive f).cabinet = s.cabinet := rfl
@[simp] theorem mapDrive_link (f : Driver → Driver) : (s.mapDrive f).link = s.link := rfl
@[simp] theorem mapDrive_faults (f : Driver → Driver) : (s.mapDrive f).faults = s.faults := rfl
@[simp] theorem mapDrive_events (f : Driver → Driver) : (s.mapDrive f).events = s.events := rfl
@[simp] theorem mapDrive_resetLow (f : Driver → Driver) : (s.mapDrive f).resetLow = s.resetLow := rfl
@[simp] theorem mapDrive_fresh (f : Driver → Driver) : (s.mapDrive f).fresh = s.fresh := rfl
@[simp] theorem mapDrive_pending (f : Driver → Driver) : (s.mapDrive f).pending = s.pending := rfl

@[simp] theorem mapSupply_money (f : Supply → Supply) : (s.mapSupply f).money = s.money := rfl
@[simp] theorem mapSupply_coins (f : Supply → Supply) : (s.mapSupply f).coins = s.coins := rfl
@[simp] theorem mapSupply_vend (f : Supply → Supply) : (s.mapSupply f).vend = s.vend := rfl
@[simp] theorem mapSupply_drive (f : Supply → Supply) : (s.mapSupply f).drive = s.drive := rfl
@[simp] theorem mapSupply_supply (f : Supply → Supply) : (s.mapSupply f).supply = f s.supply := rfl
@[simp] theorem mapSupply_cooling (f : Supply → Supply) : (s.mapSupply f).cooling = s.cooling := rfl
@[simp] theorem mapSupply_cabinet (f : Supply → Supply) : (s.mapSupply f).cabinet = s.cabinet := rfl
@[simp] theorem mapSupply_link (f : Supply → Supply) : (s.mapSupply f).link = s.link := rfl
@[simp] theorem mapSupply_faults (f : Supply → Supply) : (s.mapSupply f).faults = s.faults := rfl
@[simp] theorem mapSupply_events (f : Supply → Supply) : (s.mapSupply f).events = s.events := rfl
@[simp] theorem mapSupply_resetLow (f : Supply → Supply) : (s.mapSupply f).resetLow = s.resetLow := rfl
@[simp] theorem mapSupply_fresh (f : Supply → Supply) : (s.mapSupply f).fresh = s.fresh := rfl
@[simp] theorem mapSupply_pending (f : Supply → Supply) : (s.mapSupply f).pending = s.pending := rfl

@[simp] theorem mapCooling_money (f : Cooling → Cooling) : (s.mapCooling f).money = s.money := rfl
@[simp] theorem mapCooling_coins (f : Cooling → Cooling) : (s.mapCooling f).coins = s.coins := rfl
@[simp] theorem mapCooling_vend (f : Cooling → Cooling) : (s.mapCooling f).vend = s.vend := rfl
@[simp] theorem mapCooling_drive (f : Cooling → Cooling) : (s.mapCooling f).drive = s.drive := rfl
@[simp] theorem mapCooling_supply (f : Cooling → Cooling) : (s.mapCooling f).supply = s.supply := rfl
@[simp] theorem mapCooling_cooling (f : Cooling → Cooling) : (s.mapCooling f).cooling = f s.cooling := rfl
@[simp] theorem mapCooling_cabinet (f : Cooling → Cooling) : (s.mapCooling f).cabinet = s.cabinet := rfl
@[simp] theorem mapCooling_link (f : Cooling → Cooling) : (s.mapCooling f).link = s.link := rfl
@[simp] theorem mapCooling_faults (f : Cooling → Cooling) : (s.mapCooling f).faults = s.faults := rfl
@[simp] theorem mapCooling_events (f : Cooling → Cooling) : (s.mapCooling f).events = s.events := rfl
@[simp] theorem mapCooling_resetLow (f : Cooling → Cooling) : (s.mapCooling f).resetLow = s.resetLow := rfl
@[simp] theorem mapCooling_fresh (f : Cooling → Cooling) : (s.mapCooling f).fresh = s.fresh := rfl
@[simp] theorem mapCooling_pending (f : Cooling → Cooling) : (s.mapCooling f).pending = s.pending := rfl

@[simp] theorem mapCabinet_money (f : Cabinet → Cabinet) : (s.mapCabinet f).money = s.money := rfl
@[simp] theorem mapCabinet_coins (f : Cabinet → Cabinet) : (s.mapCabinet f).coins = s.coins := rfl
@[simp] theorem mapCabinet_vend (f : Cabinet → Cabinet) : (s.mapCabinet f).vend = s.vend := rfl
@[simp] theorem mapCabinet_drive (f : Cabinet → Cabinet) : (s.mapCabinet f).drive = s.drive := rfl
@[simp] theorem mapCabinet_supply (f : Cabinet → Cabinet) : (s.mapCabinet f).supply = s.supply := rfl
@[simp] theorem mapCabinet_cooling (f : Cabinet → Cabinet) : (s.mapCabinet f).cooling = s.cooling := rfl
@[simp] theorem mapCabinet_cabinet (f : Cabinet → Cabinet) : (s.mapCabinet f).cabinet = f s.cabinet := rfl
@[simp] theorem mapCabinet_link (f : Cabinet → Cabinet) : (s.mapCabinet f).link = s.link := rfl
@[simp] theorem mapCabinet_faults (f : Cabinet → Cabinet) : (s.mapCabinet f).faults = s.faults := rfl
@[simp] theorem mapCabinet_events (f : Cabinet → Cabinet) : (s.mapCabinet f).events = s.events := rfl
@[simp] theorem mapCabinet_resetLow (f : Cabinet → Cabinet) : (s.mapCabinet f).resetLow = s.resetLow := rfl
@[simp] theorem mapCabinet_fresh (f : Cabinet → Cabinet) : (s.mapCabinet f).fresh = s.fresh := rfl
@[simp] theorem mapCabinet_pending (f : Cabinet → Cabinet) : (s.mapCabinet f).pending = s.pending := rfl

@[simp] theorem mapLink_money (f : Link → Link) : (s.mapLink f).money = s.money := rfl
@[simp] theorem mapLink_coins (f : Link → Link) : (s.mapLink f).coins = s.coins := rfl
@[simp] theorem mapLink_vend (f : Link → Link) : (s.mapLink f).vend = s.vend := rfl
@[simp] theorem mapLink_drive (f : Link → Link) : (s.mapLink f).drive = s.drive := rfl
@[simp] theorem mapLink_supply (f : Link → Link) : (s.mapLink f).supply = s.supply := rfl
@[simp] theorem mapLink_cooling (f : Link → Link) : (s.mapLink f).cooling = s.cooling := rfl
@[simp] theorem mapLink_cabinet (f : Link → Link) : (s.mapLink f).cabinet = s.cabinet := rfl
@[simp] theorem mapLink_link (f : Link → Link) : (s.mapLink f).link = f s.link := rfl
@[simp] theorem mapLink_faults (f : Link → Link) : (s.mapLink f).faults = s.faults := rfl
@[simp] theorem mapLink_events (f : Link → Link) : (s.mapLink f).events = s.events := rfl
@[simp] theorem mapLink_resetLow (f : Link → Link) : (s.mapLink f).resetLow = s.resetLow := rfl
@[simp] theorem mapLink_fresh (f : Link → Link) : (s.mapLink f).fresh = s.fresh := rfl
@[simp] theorem mapLink_pending (f : Link → Link) : (s.mapLink f).pending = s.pending := rfl

@[simp] theorem mapFaults_money (f : FaultList → FaultList) : (s.mapFaults f).money = s.money := rfl
@[simp] theorem mapFaults_coins (f : FaultList → FaultList) : (s.mapFaults f).coins = s.coins := rfl
@[simp] theorem mapFaults_vend (f : FaultList → FaultList) : (s.mapFaults f).vend = s.vend := rfl
@[simp] theorem mapFaults_drive (f : FaultList → FaultList) : (s.mapFaults f).drive = s.drive := rfl
@[simp] theorem mapFaults_supply (f : FaultList → FaultList) : (s.mapFaults f).supply = s.supply := rfl
@[simp] theorem mapFaults_cooling (f : FaultList → FaultList) : (s.mapFaults f).cooling = s.cooling := rfl
@[simp] theorem mapFaults_cabinet (f : FaultList → FaultList) : (s.mapFaults f).cabinet = s.cabinet := rfl
@[simp] theorem mapFaults_link (f : FaultList → FaultList) : (s.mapFaults f).link = s.link := rfl
@[simp] theorem mapFaults_faults (f : FaultList → FaultList) : (s.mapFaults f).faults = f s.faults := rfl
@[simp] theorem mapFaults_events (f : FaultList → FaultList) : (s.mapFaults f).events = s.events := rfl
@[simp] theorem mapFaults_resetLow (f : FaultList → FaultList) : (s.mapFaults f).resetLow = s.resetLow := rfl
@[simp] theorem mapFaults_fresh (f : FaultList → FaultList) : (s.mapFaults f).fresh = s.fresh := rfl
@[simp] theorem mapFaults_pending (f : FaultList → FaultList) : (s.mapFaults f).pending = s.pending := rfl

@[simp] theorem mapEvents_money (f : EventQueue → EventQueue) : (s.mapEvents f).money = s.money := rfl
@[simp] theorem mapEvents_coins (f : EventQueue → EventQueue) : (s.mapEvents f).coins = s.coins := rfl
@[simp] theorem mapEvents_vend (f : EventQueue → EventQueue) : (s.mapEvents f).vend = s.vend := rfl
@[simp] theorem mapEvents_drive (f : EventQueue → EventQueue) : (s.mapEvents f).drive = s.drive := rfl
@[simp] theorem mapEvents_supply (f : EventQueue → EventQueue) : (s.mapEvents f).supply = s.supply := rfl
@[simp] theorem mapEvents_cooling (f : EventQueue → EventQueue) : (s.mapEvents f).cooling = s.cooling := rfl
@[simp] theorem mapEvents_cabinet (f : EventQueue → EventQueue) : (s.mapEvents f).cabinet = s.cabinet := rfl
@[simp] theorem mapEvents_link (f : EventQueue → EventQueue) : (s.mapEvents f).link = s.link := rfl
@[simp] theorem mapEvents_faults (f : EventQueue → EventQueue) : (s.mapEvents f).faults = s.faults := rfl
@[simp] theorem mapEvents_events (f : EventQueue → EventQueue) : (s.mapEvents f).events = f s.events := rfl
@[simp] theorem mapEvents_resetLow (f : EventQueue → EventQueue) :
    (s.mapEvents f).resetLow = s.resetLow := rfl
@[simp] theorem mapEvents_fresh (f : EventQueue → EventQueue) : (s.mapEvents f).fresh = s.fresh := rfl
@[simp] theorem mapEvents_pending (f : EventQueue → EventQueue) : (s.mapEvents f).pending = s.pending := rfl

@[simp] theorem mapCredit_money (f : Credit → Credit) :
    (s.mapCredit f).money = { s.money with credit := f s.money.credit } := rfl
@[simp] theorem mapCredit_coins (f : Credit → Credit) : (s.mapCredit f).coins = s.coins := rfl
@[simp] theorem mapCredit_vend (f : Credit → Credit) : (s.mapCredit f).vend = s.vend := rfl
@[simp] theorem mapCredit_drive (f : Credit → Credit) : (s.mapCredit f).drive = s.drive := rfl
@[simp] theorem mapCredit_supply (f : Credit → Credit) : (s.mapCredit f).supply = s.supply := rfl
@[simp] theorem mapCredit_cooling (f : Credit → Credit) : (s.mapCredit f).cooling = s.cooling := rfl
@[simp] theorem mapCredit_cabinet (f : Credit → Credit) : (s.mapCredit f).cabinet = s.cabinet := rfl
@[simp] theorem mapCredit_link (f : Credit → Credit) : (s.mapCredit f).link = s.link := rfl
@[simp] theorem mapCredit_faults (f : Credit → Credit) : (s.mapCredit f).faults = s.faults := rfl
@[simp] theorem mapCredit_events (f : Credit → Credit) : (s.mapCredit f).events = s.events := rfl
@[simp] theorem mapCredit_resetLow (f : Credit → Credit) : (s.mapCredit f).resetLow = s.resetLow := rfl
@[simp] theorem mapCredit_fresh (f : Credit → Credit) : (s.mapCredit f).fresh = s.fresh := rfl
@[simp] theorem mapCredit_pending (f : Credit → Credit) : (s.mapCredit f).pending = s.pending := rfl

@[simp] theorem mapEngine_money (f : Engine → Engine) : (s.mapEngine f).money = s.money := rfl
@[simp] theorem mapEngine_coins (f : Engine → Engine) :
    (s.mapEngine f).coins = { s.coins with engine := f s.coins.engine } := rfl
@[simp] theorem mapEngine_vend (f : Engine → Engine) : (s.mapEngine f).vend = s.vend := rfl
@[simp] theorem mapEngine_drive (f : Engine → Engine) : (s.mapEngine f).drive = s.drive := rfl
@[simp] theorem mapEngine_supply (f : Engine → Engine) : (s.mapEngine f).supply = s.supply := rfl
@[simp] theorem mapEngine_cooling (f : Engine → Engine) : (s.mapEngine f).cooling = s.cooling := rfl
@[simp] theorem mapEngine_cabinet (f : Engine → Engine) : (s.mapEngine f).cabinet = s.cabinet := rfl
@[simp] theorem mapEngine_link (f : Engine → Engine) : (s.mapEngine f).link = s.link := rfl
@[simp] theorem mapEngine_faults (f : Engine → Engine) : (s.mapEngine f).faults = s.faults := rfl
@[simp] theorem mapEngine_events (f : Engine → Engine) : (s.mapEngine f).events = s.events := rfl
@[simp] theorem mapEngine_resetLow (f : Engine → Engine) : (s.mapEngine f).resetLow = s.resetLow := rfl
@[simp] theorem mapEngine_fresh (f : Engine → Engine) : (s.mapEngine f).fresh = s.fresh := rfl
@[simp] theorem mapEngine_pending (f : Engine → Engine) : (s.mapEngine f).pending = s.pending := rfl

@[simp] theorem mapTube_money (t : TubeId) (f : Tube → Tube) : (s.mapTube t f).money = s.money := rfl
@[simp] theorem mapTube_coins (t : TubeId) (f : Tube → Tube) :
    (s.mapTube t f).coins = { s.coins with tubes := s.coins.tubes.set t (f s.coins.tubes[t]) } := rfl
@[simp] theorem mapTube_vend (t : TubeId) (f : Tube → Tube) : (s.mapTube t f).vend = s.vend := rfl
@[simp] theorem mapTube_drive (t : TubeId) (f : Tube → Tube) : (s.mapTube t f).drive = s.drive := rfl
@[simp] theorem mapTube_supply (t : TubeId) (f : Tube → Tube) : (s.mapTube t f).supply = s.supply := rfl
@[simp] theorem mapTube_cooling (t : TubeId) (f : Tube → Tube) : (s.mapTube t f).cooling = s.cooling := rfl
@[simp] theorem mapTube_cabinet (t : TubeId) (f : Tube → Tube) : (s.mapTube t f).cabinet = s.cabinet := rfl
@[simp] theorem mapTube_link (t : TubeId) (f : Tube → Tube) : (s.mapTube t f).link = s.link := rfl
@[simp] theorem mapTube_faults (t : TubeId) (f : Tube → Tube) : (s.mapTube t f).faults = s.faults := rfl
@[simp] theorem mapTube_events (t : TubeId) (f : Tube → Tube) : (s.mapTube t f).events = s.events := rfl
@[simp] theorem mapTube_resetLow (t : TubeId) (f : Tube → Tube) : (s.mapTube t f).resetLow = s.resetLow := rfl
@[simp] theorem mapTube_fresh (t : TubeId) (f : Tube → Tube) : (s.mapTube t f).fresh = s.fresh := rfl
@[simp] theorem mapTube_pending (t : TubeId) (f : Tube → Tube) : (s.mapTube t f).pending = s.pending := rfl

@[simp] theorem mapSelection_money (i : Fin 96) (f : Selection → Selection) :
    (s.mapSelection i f).money = s.money := rfl
@[simp] theorem mapSelection_coins (i : Fin 96) (f : Selection → Selection) :
    (s.mapSelection i f).coins = s.coins := rfl
@[simp] theorem mapSelection_vend (i : Fin 96) (f : Selection → Selection) :
    (s.mapSelection i f).vend = { s.vend with selections := s.vend.selections.set i (f s.vend.selections[i]) } := rfl
@[simp] theorem mapSelection_drive (i : Fin 96) (f : Selection → Selection) :
    (s.mapSelection i f).drive = s.drive := rfl
@[simp] theorem mapSelection_supply (i : Fin 96) (f : Selection → Selection) :
    (s.mapSelection i f).supply = s.supply := rfl
@[simp] theorem mapSelection_cooling (i : Fin 96) (f : Selection → Selection) :
    (s.mapSelection i f).cooling = s.cooling := rfl
@[simp] theorem mapSelection_cabinet (i : Fin 96) (f : Selection → Selection) :
    (s.mapSelection i f).cabinet = s.cabinet := rfl
@[simp] theorem mapSelection_link (i : Fin 96) (f : Selection → Selection) :
    (s.mapSelection i f).link = s.link := rfl
@[simp] theorem mapSelection_faults (i : Fin 96) (f : Selection → Selection) :
    (s.mapSelection i f).faults = s.faults := rfl
@[simp] theorem mapSelection_events (i : Fin 96) (f : Selection → Selection) :
    (s.mapSelection i f).events = s.events := rfl
@[simp] theorem mapSelection_resetLow (i : Fin 96) (f : Selection → Selection) :
    (s.mapSelection i f).resetLow = s.resetLow := rfl
@[simp] theorem mapSelection_fresh (i : Fin 96) (f : Selection → Selection) :
    (s.mapSelection i f).fresh = s.fresh := rfl
@[simp] theorem mapSelection_pending (i : Fin 96) (f : Selection → Selection) :
    (s.mapSelection i f).pending = s.pending := rfl

@[simp] theorem mapProbe_money (i : Fin 3) (f : Probe → Probe) : (s.mapProbe i f).money = s.money := rfl
@[simp] theorem mapProbe_coins (i : Fin 3) (f : Probe → Probe) : (s.mapProbe i f).coins = s.coins := rfl
@[simp] theorem mapProbe_vend (i : Fin 3) (f : Probe → Probe) : (s.mapProbe i f).vend = s.vend := rfl
@[simp] theorem mapProbe_drive (i : Fin 3) (f : Probe → Probe) : (s.mapProbe i f).drive = s.drive := rfl
@[simp] theorem mapProbe_supply (i : Fin 3) (f : Probe → Probe) : (s.mapProbe i f).supply = s.supply := rfl
@[simp] theorem mapProbe_cooling (i : Fin 3) (f : Probe → Probe) :
    (s.mapProbe i f).cooling = { s.cooling with probes := s.cooling.probes.set i (f s.cooling.probes[i]) } := rfl
@[simp] theorem mapProbe_cabinet (i : Fin 3) (f : Probe → Probe) : (s.mapProbe i f).cabinet = s.cabinet := rfl
@[simp] theorem mapProbe_link (i : Fin 3) (f : Probe → Probe) : (s.mapProbe i f).link = s.link := rfl
@[simp] theorem mapProbe_faults (i : Fin 3) (f : Probe → Probe) : (s.mapProbe i f).faults = s.faults := rfl
@[simp] theorem mapProbe_events (i : Fin 3) (f : Probe → Probe) : (s.mapProbe i f).events = s.events := rfl
@[simp] theorem mapProbe_resetLow (i : Fin 3) (f : Probe → Probe) :
    (s.mapProbe i f).resetLow = s.resetLow := rfl
@[simp] theorem mapProbe_fresh (i : Fin 3) (f : Probe → Probe) : (s.mapProbe i f).fresh = s.fresh := rfl
@[simp] theorem mapProbe_pending (i : Fin 3) (f : Probe → Probe) : (s.mapProbe i f).pending = s.pending := rfl

@[simp] theorem mapZone_money (z : ZoneId) (f : Zone → Zone) : (s.mapZone z f).money = s.money := rfl
@[simp] theorem mapZone_coins (z : ZoneId) (f : Zone → Zone) : (s.mapZone z f).coins = s.coins := rfl
@[simp] theorem mapZone_vend (z : ZoneId) (f : Zone → Zone) : (s.mapZone z f).vend = s.vend := rfl
@[simp] theorem mapZone_drive (z : ZoneId) (f : Zone → Zone) : (s.mapZone z f).drive = s.drive := rfl
@[simp] theorem mapZone_supply (z : ZoneId) (f : Zone → Zone) : (s.mapZone z f).supply = s.supply := rfl
@[simp] theorem mapZone_cooling (z : ZoneId) (f : Zone → Zone) :
    (s.mapZone z f).cooling = { s.cooling with zones := s.cooling.zones.set z (f s.cooling.zones[z]) } := rfl
@[simp] theorem mapZone_cabinet (z : ZoneId) (f : Zone → Zone) : (s.mapZone z f).cabinet = s.cabinet := rfl
@[simp] theorem mapZone_link (z : ZoneId) (f : Zone → Zone) : (s.mapZone z f).link = s.link := rfl
@[simp] theorem mapZone_faults (z : ZoneId) (f : Zone → Zone) : (s.mapZone z f).faults = s.faults := rfl
@[simp] theorem mapZone_events (z : ZoneId) (f : Zone → Zone) : (s.mapZone z f).events = s.events := rfl
@[simp] theorem mapZone_resetLow (z : ZoneId) (f : Zone → Zone) : (s.mapZone z f).resetLow = s.resetLow := rfl
@[simp] theorem mapZone_fresh (z : ZoneId) (f : Zone → Zone) : (s.mapZone z f).fresh = s.fresh := rfl
@[simp] theorem mapZone_pending (z : ZoneId) (f : Zone → Zone) : (s.mapZone z f).pending = s.pending := rfl

@[simp] theorem mapCompressor_money (f : Compressor → Compressor) : (s.mapCompressor f).money = s.money := rfl
@[simp] theorem mapCompressor_coins (f : Compressor → Compressor) : (s.mapCompressor f).coins = s.coins := rfl
@[simp] theorem mapCompressor_vend (f : Compressor → Compressor) : (s.mapCompressor f).vend = s.vend := rfl
@[simp] theorem mapCompressor_drive (f : Compressor → Compressor) : (s.mapCompressor f).drive = s.drive := rfl
@[simp] theorem mapCompressor_supply (f : Compressor → Compressor) :
    (s.mapCompressor f).supply = s.supply := rfl
@[simp] theorem mapCompressor_cooling (f : Compressor → Compressor) :
    (s.mapCompressor f).cooling = { s.cooling with compressor := f s.cooling.compressor } := rfl
@[simp] theorem mapCompressor_cabinet (f : Compressor → Compressor) :
    (s.mapCompressor f).cabinet = s.cabinet := rfl
@[simp] theorem mapCompressor_link (f : Compressor → Compressor) : (s.mapCompressor f).link = s.link := rfl
@[simp] theorem mapCompressor_faults (f : Compressor → Compressor) :
    (s.mapCompressor f).faults = s.faults := rfl
@[simp] theorem mapCompressor_events (f : Compressor → Compressor) :
    (s.mapCompressor f).events = s.events := rfl
@[simp] theorem mapCompressor_resetLow (f : Compressor → Compressor) :
    (s.mapCompressor f).resetLow = s.resetLow := rfl
@[simp] theorem mapCompressor_fresh (f : Compressor → Compressor) : (s.mapCompressor f).fresh = s.fresh := rfl
@[simp] theorem mapCompressor_pending (f : Compressor → Compressor) :
    (s.mapCompressor f).pending = s.pending := rfl

@[simp] theorem mapDefrost_money (f : Defrost → Defrost) : (s.mapDefrost f).money = s.money := rfl
@[simp] theorem mapDefrost_coins (f : Defrost → Defrost) : (s.mapDefrost f).coins = s.coins := rfl
@[simp] theorem mapDefrost_vend (f : Defrost → Defrost) : (s.mapDefrost f).vend = s.vend := rfl
@[simp] theorem mapDefrost_drive (f : Defrost → Defrost) : (s.mapDefrost f).drive = s.drive := rfl
@[simp] theorem mapDefrost_supply (f : Defrost → Defrost) : (s.mapDefrost f).supply = s.supply := rfl
@[simp] theorem mapDefrost_cooling (f : Defrost → Defrost) :
    (s.mapDefrost f).cooling = { s.cooling with defrost := f s.cooling.defrost } := rfl
@[simp] theorem mapDefrost_cabinet (f : Defrost → Defrost) : (s.mapDefrost f).cabinet = s.cabinet := rfl
@[simp] theorem mapDefrost_link (f : Defrost → Defrost) : (s.mapDefrost f).link = s.link := rfl
@[simp] theorem mapDefrost_faults (f : Defrost → Defrost) : (s.mapDefrost f).faults = s.faults := rfl
@[simp] theorem mapDefrost_events (f : Defrost → Defrost) : (s.mapDefrost f).events = s.events := rfl
@[simp] theorem mapDefrost_resetLow (f : Defrost → Defrost) : (s.mapDefrost f).resetLow = s.resetLow := rfl
@[simp] theorem mapDefrost_fresh (f : Defrost → Defrost) : (s.mapDefrost f).fresh = s.fresh := rfl
@[simp] theorem mapDefrost_pending (f : Defrost → Defrost) : (s.mapDefrost f).pending = s.pending := rfl

@[simp] theorem mapHold_money (z : ZoneId) (f : Hold → Hold) : (s.mapHold z f).money = s.money := rfl
@[simp] theorem mapHold_coins (z : ZoneId) (f : Hold → Hold) : (s.mapHold z f).coins = s.coins := rfl
@[simp] theorem mapHold_vend (z : ZoneId) (f : Hold → Hold) : (s.mapHold z f).vend = s.vend := rfl
@[simp] theorem mapHold_drive (z : ZoneId) (f : Hold → Hold) : (s.mapHold z f).drive = s.drive := rfl
@[simp] theorem mapHold_supply (z : ZoneId) (f : Hold → Hold) : (s.mapHold z f).supply = s.supply := rfl
@[simp] theorem mapHold_cooling (z : ZoneId) (f : Hold → Hold) : (s.mapHold z f).cooling = s.cooling := rfl
@[simp] theorem mapHold_cabinet (z : ZoneId) (f : Hold → Hold) :
    (s.mapHold z f).cabinet = { s.cabinet with holds := s.cabinet.holds.set z (f s.cabinet.holds[z]) } := rfl
@[simp] theorem mapHold_link (z : ZoneId) (f : Hold → Hold) : (s.mapHold z f).link = s.link := rfl
@[simp] theorem mapHold_faults (z : ZoneId) (f : Hold → Hold) : (s.mapHold z f).faults = s.faults := rfl
@[simp] theorem mapHold_events (z : ZoneId) (f : Hold → Hold) : (s.mapHold z f).events = s.events := rfl
@[simp] theorem mapHold_resetLow (z : ZoneId) (f : Hold → Hold) : (s.mapHold z f).resetLow = s.resetLow := rfl
@[simp] theorem mapHold_fresh (z : ZoneId) (f : Hold → Hold) : (s.mapHold z f).fresh = s.fresh := rfl
@[simp] theorem mapHold_pending (z : ZoneId) (f : Hold → Hold) : (s.mapHold z f).pending = s.pending := rfl

@[simp] theorem mapEconomy_money (f : Economy → Economy) : (s.mapEconomy f).money = s.money := rfl
@[simp] theorem mapEconomy_coins (f : Economy → Economy) : (s.mapEconomy f).coins = s.coins := rfl
@[simp] theorem mapEconomy_vend (f : Economy → Economy) : (s.mapEconomy f).vend = s.vend := rfl
@[simp] theorem mapEconomy_drive (f : Economy → Economy) : (s.mapEconomy f).drive = s.drive := rfl
@[simp] theorem mapEconomy_supply (f : Economy → Economy) : (s.mapEconomy f).supply = s.supply := rfl
@[simp] theorem mapEconomy_cooling (f : Economy → Economy) : (s.mapEconomy f).cooling = s.cooling := rfl
@[simp] theorem mapEconomy_cabinet (f : Economy → Economy) :
    (s.mapEconomy f).cabinet = { s.cabinet with economy := f s.cabinet.economy } := rfl
@[simp] theorem mapEconomy_link (f : Economy → Economy) : (s.mapEconomy f).link = s.link := rfl
@[simp] theorem mapEconomy_faults (f : Economy → Economy) : (s.mapEconomy f).faults = s.faults := rfl
@[simp] theorem mapEconomy_events (f : Economy → Economy) : (s.mapEconomy f).events = s.events := rfl
@[simp] theorem mapEconomy_resetLow (f : Economy → Economy) : (s.mapEconomy f).resetLow = s.resetLow := rfl
@[simp] theorem mapEconomy_fresh (f : Economy → Economy) : (s.mapEconomy f).fresh = s.fresh := rfl
@[simp] theorem mapEconomy_pending (f : Economy → Economy) : (s.mapEconomy f).pending = s.pending := rfl

@[simp] theorem mapClock_money (f : Clock → Clock) : (s.mapClock f).money = s.money := rfl
@[simp] theorem mapClock_coins (f : Clock → Clock) : (s.mapClock f).coins = s.coins := rfl
@[simp] theorem mapClock_vend (f : Clock → Clock) : (s.mapClock f).vend = s.vend := rfl
@[simp] theorem mapClock_drive (f : Clock → Clock) : (s.mapClock f).drive = s.drive := rfl
@[simp] theorem mapClock_supply (f : Clock → Clock) : (s.mapClock f).supply = s.supply := rfl
@[simp] theorem mapClock_cooling (f : Clock → Clock) : (s.mapClock f).cooling = s.cooling := rfl
@[simp] theorem mapClock_cabinet (f : Clock → Clock) :
    (s.mapClock f).cabinet = { s.cabinet with clock := f s.cabinet.clock } := rfl
@[simp] theorem mapClock_link (f : Clock → Clock) : (s.mapClock f).link = s.link := rfl
@[simp] theorem mapClock_faults (f : Clock → Clock) : (s.mapClock f).faults = s.faults := rfl
@[simp] theorem mapClock_events (f : Clock → Clock) : (s.mapClock f).events = s.events := rfl
@[simp] theorem mapClock_resetLow (f : Clock → Clock) : (s.mapClock f).resetLow = s.resetLow := rfl
@[simp] theorem mapClock_fresh (f : Clock → Clock) : (s.mapClock f).fresh = s.fresh := rfl
@[simp] theorem mapClock_pending (f : Clock → Clock) : (s.mapClock f).pending = s.pending := rfl

@[simp] theorem mapPort_money (p : PortId) (f : Port → Port) : (s.mapPort p f).money = s.money := rfl
@[simp] theorem mapPort_coins (p : PortId) (f : Port → Port) : (s.mapPort p f).coins = s.coins := rfl
@[simp] theorem mapPort_vend (p : PortId) (f : Port → Port) : (s.mapPort p f).vend = s.vend := rfl
@[simp] theorem mapPort_drive (p : PortId) (f : Port → Port) : (s.mapPort p f).drive = s.drive := rfl
@[simp] theorem mapPort_supply (p : PortId) (f : Port → Port) : (s.mapPort p f).supply = s.supply := rfl
@[simp] theorem mapPort_cooling (p : PortId) (f : Port → Port) : (s.mapPort p f).cooling = s.cooling := rfl
@[simp] theorem mapPort_cabinet (p : PortId) (f : Port → Port) : (s.mapPort p f).cabinet = s.cabinet := rfl
@[simp] theorem mapPort_link (p : PortId) (f : Port → Port) :
    (s.mapPort p f).link = { s.link with ports := s.link.ports.set p (f s.link.ports[p]) } := rfl
@[simp] theorem mapPort_faults (p : PortId) (f : Port → Port) : (s.mapPort p f).faults = s.faults := rfl
@[simp] theorem mapPort_events (p : PortId) (f : Port → Port) : (s.mapPort p f).events = s.events := rfl
@[simp] theorem mapPort_resetLow (p : PortId) (f : Port → Port) : (s.mapPort p f).resetLow = s.resetLow := rfl
@[simp] theorem mapPort_fresh (p : PortId) (f : Port → Port) : (s.mapPort p f).fresh = s.fresh := rfl
@[simp] theorem mapPort_pending (p : PortId) (f : Port → Port) : (s.mapPort p f).pending = s.pending := rfl

@[simp] theorem nextFresh_money : (s.nextFresh).money = s.money := rfl
@[simp] theorem nextFresh_coins : (s.nextFresh).coins = s.coins := rfl
@[simp] theorem nextFresh_vend : (s.nextFresh).vend = s.vend := rfl
@[simp] theorem nextFresh_drive : (s.nextFresh).drive = s.drive := rfl
@[simp] theorem nextFresh_supply : (s.nextFresh).supply = s.supply := rfl
@[simp] theorem nextFresh_cooling : (s.nextFresh).cooling = s.cooling := rfl
@[simp] theorem nextFresh_cabinet : (s.nextFresh).cabinet = s.cabinet := rfl
@[simp] theorem nextFresh_link : (s.nextFresh).link = s.link := rfl
@[simp] theorem nextFresh_faults : (s.nextFresh).faults = s.faults := rfl
@[simp] theorem nextFresh_events : (s.nextFresh).events = s.events := rfl
@[simp] theorem nextFresh_resetLow : (s.nextFresh).resetLow = s.resetLow := rfl
@[simp] theorem nextFresh_fresh : (s.nextFresh).fresh = s.fresh + 1 := rfl
@[simp] theorem nextFresh_pending : (s.nextFresh).pending = s.pending := rfl

/-- A port that an update of a port changes. -/
@[simp] theorem port_mapPort_self (p : PortId) (f : Port → Port) :
    (s.mapPort p f).port p = f (s.port p) := by
  simp [State.port, State.mapPort, State.mapLink]

/-- Every other port stays. -/
theorem port_mapPort_ne (p q : PortId) (f : Port → Port) (h : p ≠ q) :
    (s.mapPort p f).port q = s.port q := by
  have h' : (p : Nat) ≠ q := fun e => h (Fin.ext e)
  simp [State.port, State.mapPort, State.mapLink, h']

end Sys2Proof.Machine.State
end

