-- ==== Sys2Proof/Laws/Frames.lean ====
section
/-! SUPPORT. Frames of the shared operations: the blocks of the state that each of them leaves as they
are, one lemma an operation, so that no later proof unfolds an operation for its frame. -/

namespace Sys2Proof.Machine

@[simp] theorem pump_frame (s : State) :
    (pump s).money = s.money ∧ (pump s).coins = s.coins ∧ (pump s).vend = s.vend ∧
    (pump s).drive = s.drive ∧ (pump s).supply = s.supply ∧ (pump s).cooling = s.cooling ∧
    (pump s).cabinet = s.cabinet ∧ (pump s).faults = s.faults ∧ (pump s).resetLow = s.resetLow ∧
    (pump s).fresh = s.fresh ∧ (pump s).pending = s.pending := by
  refine ⟨rfl, rfl, rfl, rfl, rfl, rfl, rfl, rfl, rfl, rfl, rfl⟩

@[simp] theorem raise_frame (c : EventCode) (a : Byte) (v : Word) (s : State) :
    (raise c a v s).money = s.money ∧ (raise c a v s).coins = s.coins ∧
    (raise c a v s).vend = s.vend ∧ (raise c a v s).drive = s.drive ∧
    (raise c a v s).supply = s.supply ∧ (raise c a v s).cooling = s.cooling ∧
    (raise c a v s).cabinet = s.cabinet ∧ (raise c a v s).faults = s.faults ∧
    (raise c a v s).resetLow = s.resetLow ∧ (raise c a v s).fresh = s.fresh ∧
    (raise c a v s).pending = s.pending := by
  refine ⟨rfl, rfl, rfl, rfl, rfl, rfl, rfl, rfl, rfl, rfl, rfl⟩

@[simp] theorem sendOwn_frame (r : Role) (ty : Byte) (p : List Byte) (s : State) :
    (sendOwn r ty p s).money = s.money ∧ (sendOwn r ty p s).coins = s.coins ∧
    (sendOwn r ty p s).vend = s.vend ∧ (sendOwn r ty p s).drive = s.drive ∧
    (sendOwn r ty p s).supply = s.supply ∧ (sendOwn r ty p s).cooling = s.cooling ∧
    (sendOwn r ty p s).cabinet = s.cabinet ∧ (sendOwn r ty p s).faults = s.faults ∧
    (sendOwn r ty p s).events = s.events ∧ (sendOwn r ty p s).resetLow = s.resetLow ∧
    (sendOwn r ty p s).fresh = s.fresh ∧ (sendOwn r ty p s).pending = s.pending := by
  unfold sendOwn
  (try simp only [])
  (repeat' split) <;> simp

@[simp] theorem issueAccept_frame (s : State) :
    (issueAccept s).money = s.money ∧ (issueAccept s).vend = s.vend ∧
    (issueAccept s).drive = s.drive ∧ (issueAccept s).supply = s.supply ∧
    (issueAccept s).cooling = s.cooling ∧ (issueAccept s).cabinet = s.cabinet ∧
    (issueAccept s).faults = s.faults ∧ (issueAccept s).events = s.events ∧
    (issueAccept s).resetLow = s.resetLow ∧ (issueAccept s).fresh = s.fresh ∧
    (issueAccept s).pending = s.pending := by
  unfold issueAccept
  (try simp only [])
  (repeat' split) <;> simp

@[simp] theorem recomputeAccept_frame (s : State) :
    (recomputeAccept s).money = s.money ∧ (recomputeAccept s).vend = s.vend ∧
    (recomputeAccept s).drive = s.drive ∧ (recomputeAccept s).supply = s.supply ∧
    (recomputeAccept s).cooling = s.cooling ∧ (recomputeAccept s).cabinet = s.cabinet ∧
    (recomputeAccept s).faults = s.faults ∧ (recomputeAccept s).events = s.events ∧
    (recomputeAccept s).resetLow = s.resetLow ∧ (recomputeAccept s).fresh = s.fresh ∧
    (recomputeAccept s).pending = s.pending := by
  unfold recomputeAccept
  (try simp only [])
  (repeat' split) <;> simp

@[simp] theorem evaluateAssurance_frame (s : State) :
    (evaluateAssurance s).money = s.money ∧ (evaluateAssurance s).vend = s.vend ∧
    (evaluateAssurance s).drive = s.drive ∧ (evaluateAssurance s).supply = s.supply ∧
    (evaluateAssurance s).cooling = s.cooling ∧ (evaluateAssurance s).cabinet = s.cabinet ∧
    (evaluateAssurance s).faults = s.faults ∧ (evaluateAssurance s).resetLow = s.resetLow ∧
    (evaluateAssurance s).fresh = s.fresh ∧ (evaluateAssurance s).pending = s.pending := by
  unfold evaluateAssurance
  (try simp only [])
  (repeat' split) <;> simp

@[simp] theorem setFlap_frame (t : TubeId) (s : State) :
    (setFlap t s).money = s.money ∧ (setFlap t s).vend = s.vend ∧ (setFlap t s).drive = s.drive ∧
    (setFlap t s).supply = s.supply ∧ (setFlap t s).cooling = s.cooling ∧
    (setFlap t s).cabinet = s.cabinet ∧ (setFlap t s).link = s.link ∧
    (setFlap t s).faults = s.faults ∧ (setFlap t s).events = s.events ∧
    (setFlap t s).resetLow = s.resetLow ∧ (setFlap t s).fresh = s.fresh ∧
    (setFlap t s).pending = s.pending := by
  unfold setFlap
  (try simp only [])
  (repeat' split) <;> simp

@[simp] theorem tubeChanged_frame (t : TubeId) (s : State) :
    (tubeChanged t s).money = s.money ∧ (tubeChanged t s).vend = s.vend ∧
    (tubeChanged t s).drive = s.drive ∧ (tubeChanged t s).supply = s.supply ∧
    (tubeChanged t s).cooling = s.cooling ∧ (tubeChanged t s).cabinet = s.cabinet ∧
    (tubeChanged t s).faults = s.faults ∧ (tubeChanged t s).resetLow = s.resetLow ∧
    (tubeChanged t s).fresh = s.fresh ∧ (tubeChanged t s).pending = s.pending := by
  unfold tubeChanged
  (try simp only [])
  (repeat' split) <;> simp

@[simp] theorem chuteFreed_frame (c : Option TubeId) (s : State) :
    (chuteFreed c s).money = s.money ∧ (chuteFreed c s).vend = s.vend ∧
    (chuteFreed c s).drive = s.drive ∧ (chuteFreed c s).supply = s.supply ∧
    (chuteFreed c s).cooling = s.cooling ∧ (chuteFreed c s).cabinet = s.cabinet ∧
    (chuteFreed c s).link = s.link ∧ (chuteFreed c s).faults = s.faults ∧
    (chuteFreed c s).events = s.events ∧ (chuteFreed c s).resetLow = s.resetLow ∧
    (chuteFreed c s).fresh = s.fresh ∧ (chuteFreed c s).pending = s.pending := by
  unfold chuteFreed
  (try simp only [])
  (repeat' split) <;> simp

@[simp] theorem route_frame (c : Fin 16) (v : Nat) (s : State) :
    (route c v s).money = s.money ∧ (route c v s).vend = s.vend ∧ (route c v s).drive = s.drive ∧
    (route c v s).supply = s.supply ∧ (route c v s).cooling = s.cooling ∧
    (route c v s).cabinet = s.cabinet ∧ (route c v s).faults = s.faults ∧
    (route c v s).resetLow = s.resetLow ∧ (route c v s).fresh = s.fresh ∧
    (route c v s).pending = s.pending := by
  unfold route
  (try simp only [])
  (repeat' split) <;> simp

@[simp] theorem claimFlight_frame (r : Option TubeId) (s : State) :
    (claimFlight r s).money = s.money ∧ (claimFlight r s).vend = s.vend ∧
    (claimFlight r s).drive = s.drive ∧ (claimFlight r s).supply = s.supply ∧
    (claimFlight r s).cooling = s.cooling ∧ (claimFlight r s).cabinet = s.cabinet ∧
    (claimFlight r s).link = s.link ∧ (claimFlight r s).faults = s.faults ∧
    (claimFlight r s).events = s.events ∧ (claimFlight r s).resetLow = s.resetLow ∧
    (claimFlight r s).fresh = s.fresh ∧ (claimFlight r s).pending = s.pending := by
  unfold claimFlight
  (try simp only [])
  (repeat' split) <;> simp

@[simp] theorem passCash_frame (b : Word) (s : State) :
    (passCash b s).money = s.money ∧ (passCash b s).vend = s.vend ∧
    (passCash b s).drive = s.drive ∧ (passCash b s).supply = s.supply ∧
    (passCash b s).cooling = s.cooling ∧ (passCash b s).cabinet = s.cabinet ∧
    (passCash b s).faults = s.faults ∧ (passCash b s).events = s.events ∧
    (passCash b s).resetLow = s.resetLow ∧ (passCash b s).fresh = s.fresh ∧
    (passCash b s).pending = s.pending := by
  unfold passCash
  (try simp only [])
  (repeat' split) <;> simp

@[simp] theorem raiseCredit_frame (s : State) :
    (raiseCredit s).money = s.money ∧ (raiseCredit s).coins = s.coins ∧
    (raiseCredit s).vend = s.vend ∧ (raiseCredit s).drive = s.drive ∧
    (raiseCredit s).supply = s.supply ∧ (raiseCredit s).cooling = s.cooling ∧
    (raiseCredit s).cabinet = s.cabinet ∧ (raiseCredit s).faults = s.faults ∧
    (raiseCredit s).resetLow = s.resetLow ∧ (raiseCredit s).fresh = s.fresh ∧
    (raiseCredit s).pending = s.pending := by
  unfold raiseCredit
  (try simp only [])
  (repeat' split) <;> simp

@[simp] theorem deposit_frame (v : Nat) (s : State) :
    (deposit v s).coins = s.coins ∧ (deposit v s).vend = s.vend ∧ (deposit v s).drive = s.drive ∧
    (deposit v s).supply = s.supply ∧ (deposit v s).cooling = s.cooling ∧
    (deposit v s).cabinet = s.cabinet ∧ (deposit v s).link = s.link ∧
    (deposit v s).faults = s.faults ∧ (deposit v s).events = s.events ∧
    (deposit v s).resetLow = s.resetLow ∧ (deposit v s).fresh = s.fresh ∧
    (deposit v s).pending = s.pending := by
  refine ⟨rfl, rfl, rfl, rfl, rfl, rfl, rfl, rfl, rfl, rfl, rfl, rfl⟩

@[simp] theorem clearEscrow_frame (s : State) :
    (clearEscrow s).coins = s.coins ∧ (clearEscrow s).vend = s.vend ∧
    (clearEscrow s).drive = s.drive ∧ (clearEscrow s).supply = s.supply ∧
    (clearEscrow s).cooling = s.cooling ∧ (clearEscrow s).cabinet = s.cabinet ∧
    (clearEscrow s).link = s.link ∧ (clearEscrow s).faults = s.faults ∧
    (clearEscrow s).events = s.events ∧ (clearEscrow s).resetLow = s.resetLow ∧
    (clearEscrow s).fresh = s.fresh ∧ (clearEscrow s).pending = s.pending := by
  refine ⟨rfl, rfl, rfl, rfl, rfl, rfl, rfl, rfl, rfl, rfl, rfl, rfl⟩

@[simp] theorem closeSession_frame (s : State) :
    (closeSession s).coins = s.coins ∧ (closeSession s).vend = s.vend ∧
    (closeSession s).drive = s.drive ∧ (closeSession s).supply = s.supply ∧
    (closeSession s).cooling = s.cooling ∧ (closeSession s).cabinet = s.cabinet ∧
    (closeSession s).faults = s.faults ∧ (closeSession s).resetLow = s.resetLow ∧
    (closeSession s).fresh = s.fresh ∧ (closeSession s).pending = s.pending := by
  unfold closeSession
  (try simp only [])
  (repeat' split) <;> simp

@[simp] theorem endSession_frame (e : Entry) (s : State) :
    (endSession e s).coins = s.coins ∧ (endSession e s).vend = s.vend ∧
    (endSession e s).drive = s.drive ∧ (endSession e s).supply = s.supply ∧
    (endSession e s).cooling = s.cooling ∧ (endSession e s).cabinet = s.cabinet ∧
    (endSession e s).faults = s.faults ∧ (endSession e s).resetLow = s.resetLow ∧
    (endSession e s).fresh = s.fresh ∧ (endSession e s).pending = s.pending := by
  unfold endSession
  (try simp only [])
  (repeat' split) <;> simp

@[simp] theorem releaseFunds_frame (e : Entry) (s : State) :
    (releaseFunds e s).coins = s.coins ∧ (releaseFunds e s).vend = s.vend ∧
    (releaseFunds e s).drive = s.drive ∧ (releaseFunds e s).supply = s.supply ∧
    (releaseFunds e s).cooling = s.cooling ∧ (releaseFunds e s).cabinet = s.cabinet ∧
    (releaseFunds e s).faults = s.faults ∧ (releaseFunds e s).resetLow = s.resetLow ∧
    (releaseFunds e s).fresh = s.fresh ∧ (releaseFunds e s).pending = s.pending := by
  unfold releaseFunds
  (try simp only [])
  (repeat' split) <;> simp

@[simp] theorem commitFunds_frame (f : Funds) (p : Nat) (s : State) :
    (commitFunds f p s).coins = s.coins ∧ (commitFunds f p s).vend = s.vend ∧
    (commitFunds f p s).drive = s.drive ∧ (commitFunds f p s).supply = s.supply ∧
    (commitFunds f p s).cooling = s.cooling ∧ (commitFunds f p s).cabinet = s.cabinet ∧
    (commitFunds f p s).link = s.link ∧ (commitFunds f p s).faults = s.faults ∧
    (commitFunds f p s).events = s.events ∧ (commitFunds f p s).resetLow = s.resetLow ∧
    (commitFunds f p s).fresh = s.fresh ∧ (commitFunds f p s).pending = s.pending := by
  refine ⟨rfl, rfl, rfl, rfl, rfl, rfl, rfl, rfl, rfl, rfl, rfl, rfl⟩

@[simp] theorem settle_frame (e : Entry) (s : State) :
    (settle e s).coins = s.coins ∧ (settle e s).vend = s.vend ∧ (settle e s).drive = s.drive ∧
    (settle e s).supply = s.supply ∧ (settle e s).cooling = s.cooling ∧
    (settle e s).cabinet = s.cabinet ∧ (settle e s).faults = s.faults ∧
    (settle e s).events = s.events ∧ (settle e s).resetLow = s.resetLow ∧
    (settle e s).fresh = s.fresh ∧ (settle e s).pending = s.pending := by
  unfold settle
  (try simp only [])
  (repeat' split) <;> simp

@[simp] theorem debitCard_frame (e : Entry) (s : State) :
    (debitCard e s).coins = s.coins ∧ (debitCard e s).vend = s.vend ∧
    (debitCard e s).drive = s.drive ∧ (debitCard e s).supply = s.supply ∧
    (debitCard e s).cooling = s.cooling ∧ (debitCard e s).cabinet = s.cabinet ∧
    (debitCard e s).faults = s.faults ∧ (debitCard e s).resetLow = s.resetLow ∧
    (debitCard e s).fresh = s.fresh ∧ (debitCard e s).pending = s.pending := by
  unfold debitCard
  (try simp only [])
  (repeat' split) <;> simp

@[simp] theorem returnRest_frame (s : State) :
    (returnRest s).coins = s.coins ∧ (returnRest s).vend = s.vend ∧
    (returnRest s).drive = s.drive ∧ (returnRest s).supply = s.supply ∧
    (returnRest s).cooling = s.cooling ∧ (returnRest s).cabinet = s.cabinet ∧
    (returnRest s).link = s.link ∧ (returnRest s).faults = s.faults ∧
    (returnRest s).events = s.events ∧ (returnRest s).resetLow = s.resetLow ∧
    (returnRest s).fresh = s.fresh ∧ (returnRest s).pending = s.pending := by
  refine ⟨rfl, rfl, rfl, rfl, rfl, rfl, rfl, rfl, rfl, rfl, rfl, rfl⟩

@[simp] theorem chargeCash_frame (e : Entry) (s : State) :
    (chargeCash e s).coins = s.coins ∧ (chargeCash e s).vend = s.vend ∧
    (chargeCash e s).drive = s.drive ∧ (chargeCash e s).supply = s.supply ∧
    (chargeCash e s).cooling = s.cooling ∧ (chargeCash e s).cabinet = s.cabinet ∧
    (chargeCash e s).link = s.link ∧ (chargeCash e s).faults = s.faults ∧
    (chargeCash e s).events = s.events ∧ (chargeCash e s).resetLow = s.resetLow ∧
    (chargeCash e s).fresh = s.fresh ∧ (chargeCash e s).pending = s.pending := by
  refine ⟨rfl, rfl, rfl, rfl, rfl, rfl, rfl, rfl, rfl, rfl, rfl, rfl⟩

@[simp] theorem paid_frame (v : Nat) (s : State) :
    (paid v s).coins = s.coins ∧ (paid v s).vend = s.vend ∧ (paid v s).drive = s.drive ∧
    (paid v s).supply = s.supply ∧ (paid v s).cooling = s.cooling ∧
    (paid v s).cabinet = s.cabinet ∧ (paid v s).link = s.link ∧ (paid v s).faults = s.faults ∧
    (paid v s).events = s.events ∧ (paid v s).resetLow = s.resetLow ∧
    (paid v s).fresh = s.fresh ∧ (paid v s).pending = s.pending := by
  refine ⟨rfl, rfl, rfl, rfl, rfl, rfl, rfl, rfl, rfl, rfl, rfl, rfl⟩

@[simp] theorem manualPaid_frame (v : Nat) (s : State) :
    (manualPaid v s).coins = s.coins ∧ (manualPaid v s).vend = s.vend ∧
    (manualPaid v s).drive = s.drive ∧ (manualPaid v s).supply = s.supply ∧
    (manualPaid v s).cooling = s.cooling ∧ (manualPaid v s).cabinet = s.cabinet ∧
    (manualPaid v s).link = s.link ∧ (manualPaid v s).faults = s.faults ∧
    (manualPaid v s).events = s.events ∧ (manualPaid v s).resetLow = s.resetLow ∧
    (manualPaid v s).fresh = s.fresh ∧ (manualPaid v s).pending = s.pending := by
  refine ⟨rfl, rfl, rfl, rfl, rfl, rfl, rfl, rfl, rfl, rfl, rfl, rfl⟩

@[simp] theorem unpaid_frame (a : Word) (s : State) :
    (unpaid a s).vend = s.vend ∧ (unpaid a s).drive = s.drive ∧ (unpaid a s).supply = s.supply ∧
    (unpaid a s).cooling = s.cooling ∧ (unpaid a s).cabinet = s.cabinet ∧
    (unpaid a s).faults = s.faults ∧ (unpaid a s).resetLow = s.resetLow ∧
    (unpaid a s).fresh = s.fresh ∧ (unpaid a s).pending = s.pending := by
  unfold unpaid
  (try simp only [])
  (repeat' split) <;> simp

@[simp] theorem writeOff_frame (s : State) :
    (writeOff s).vend = s.vend ∧ (writeOff s).drive = s.drive ∧ (writeOff s).supply = s.supply ∧
    (writeOff s).cooling = s.cooling ∧ (writeOff s).cabinet = s.cabinet ∧
    (writeOff s).faults = s.faults ∧ (writeOff s).events = s.events ∧
    (writeOff s).resetLow = s.resetLow ∧ (writeOff s).fresh = s.fresh ∧
    (writeOff s).pending = s.pending := by
  unfold writeOff
  (try simp only [])
  (repeat' split) <;> simp

@[simp] theorem engineIdle_frame (s : State) :
    (engineIdle s).money = s.money ∧ (engineIdle s).vend = s.vend ∧
    (engineIdle s).drive = s.drive ∧ (engineIdle s).supply = s.supply ∧
    (engineIdle s).cooling = s.cooling ∧ (engineIdle s).cabinet = s.cabinet ∧
    (engineIdle s).link = s.link ∧ (engineIdle s).faults = s.faults ∧
    (engineIdle s).events = s.events ∧ (engineIdle s).resetLow = s.resetLow ∧
    (engineIdle s).fresh = s.fresh ∧ (engineIdle s).pending = s.pending := by
  refine ⟨rfl, rfl, rfl, rfl, rfl, rfl, rfl, rfl, rfl, rfl, rfl, rfl⟩

@[simp] theorem endShort_frame (d : Word) (s : State) :
    (endShort d s).vend = s.vend ∧ (endShort d s).drive = s.drive ∧
    (endShort d s).supply = s.supply ∧ (endShort d s).cooling = s.cooling ∧
    (endShort d s).cabinet = s.cabinet ∧ (endShort d s).faults = s.faults ∧
    (endShort d s).resetLow = s.resetLow ∧ (endShort d s).fresh = s.fresh ∧
    (endShort d s).pending = s.pending := by
  unfold endShort
  (try simp only [])
  (repeat' split) <;> simp

@[simp] theorem planRun_frame (x : List TubeId) (d : Word) (s : State) :
    (planRun x d s).vend = s.vend ∧ (planRun x d s).drive = s.drive ∧
    (planRun x d s).supply = s.supply ∧ (planRun x d s).cooling = s.cooling ∧
    (planRun x d s).cabinet = s.cabinet ∧ (planRun x d s).faults = s.faults ∧
    (planRun x d s).resetLow = s.resetLow ∧ (planRun x d s).fresh = s.fresh ∧
    (planRun x d s).pending = s.pending := by
  unfold planRun
  (try simp only [])
  (repeat' split) <;> simp

@[simp] theorem runOrIdle_frame (s : State) :
    (runOrIdle s).vend = s.vend ∧ (runOrIdle s).drive = s.drive ∧
    (runOrIdle s).supply = s.supply ∧ (runOrIdle s).cooling = s.cooling ∧
    (runOrIdle s).cabinet = s.cabinet ∧ (runOrIdle s).faults = s.faults ∧
    (runOrIdle s).resetLow = s.resetLow ∧ (runOrIdle s).fresh = s.fresh ∧
    (runOrIdle s).pending = s.pending := by
  unfold runOrIdle
  (try simp only [])
  (repeat' split) <;> simp

@[simp] theorem start_frame (s : State) :
    (start s).vend = s.vend ∧ (start s).drive = s.drive ∧ (start s).supply = s.supply ∧
    (start s).cooling = s.cooling ∧ (start s).cabinet = s.cabinet ∧ (start s).faults = s.faults ∧
    (start s).resetLow = s.resetLow ∧ (start s).fresh = s.fresh ∧ (start s).pending = s.pending := by
  unfold start
  (try simp only [])
  (repeat' split) <;> simp

@[simp] theorem endManual_frame (s : State) :
    (endManual s).vend = s.vend ∧ (endManual s).drive = s.drive ∧
    (endManual s).supply = s.supply ∧ (endManual s).cooling = s.cooling ∧
    (endManual s).cabinet = s.cabinet ∧ (endManual s).faults = s.faults ∧
    (endManual s).resetLow = s.resetLow ∧ (endManual s).fresh = s.fresh ∧
    (endManual s).pending = s.pending := by
  unfold endManual
  (try simp only [])
  (repeat' split) <;> simp

@[simp] theorem endPlan_frame (s : State) :
    (endPlan s).vend = s.vend ∧ (endPlan s).drive = s.drive ∧ (endPlan s).supply = s.supply ∧
    (endPlan s).cooling = s.cooling ∧ (endPlan s).cabinet = s.cabinet ∧
    (endPlan s).faults = s.faults ∧ (endPlan s).resetLow = s.resetLow ∧
    (endPlan s).fresh = s.fresh ∧ (endPlan s).pending = s.pending := by
  unfold endPlan
  (try simp only [])
  (repeat' split) <;> simp

@[simp] theorem beginCoin_frame (t : TubeId) (s : State) :
    (beginCoin t s).vend = s.vend ∧ (beginCoin t s).drive = s.drive ∧
    (beginCoin t s).supply = s.supply ∧ (beginCoin t s).cooling = s.cooling ∧
    (beginCoin t s).cabinet = s.cabinet ∧ (beginCoin t s).faults = s.faults ∧
    (beginCoin t s).resetLow = s.resetLow ∧ (beginCoin t s).fresh = s.fresh ∧
    (beginCoin t s).pending = s.pending := by
  unfold beginCoin
  (try simp only [])
  (repeat' split) <;> simp

@[simp] theorem nextCoin_frame (s : State) :
    (nextCoin s).vend = s.vend ∧ (nextCoin s).drive = s.drive ∧ (nextCoin s).supply = s.supply ∧
    (nextCoin s).cooling = s.cooling ∧ (nextCoin s).cabinet = s.cabinet ∧
    (nextCoin s).faults = s.faults ∧ (nextCoin s).resetLow = s.resetLow ∧
    (nextCoin s).fresh = s.fresh ∧ (nextCoin s).pending = s.pending := by
  unfold nextCoin
  (try simp only [])
  (repeat' split) <;> simp

@[simp] theorem confirmCoin_frame (t : TubeId) (s : State) :
    (confirmCoin t s).vend = s.vend ∧ (confirmCoin t s).drive = s.drive ∧
    (confirmCoin t s).supply = s.supply ∧ (confirmCoin t s).cooling = s.cooling ∧
    (confirmCoin t s).cabinet = s.cabinet ∧ (confirmCoin t s).faults = s.faults ∧
    (confirmCoin t s).resetLow = s.resetLow ∧ (confirmCoin t s).fresh = s.fresh ∧
    (confirmCoin t s).pending = s.pending := by
  unfold confirmCoin
  (try simp only [])
  (repeat' split) <;> simp

@[simp] theorem coinReturn_frame (b : Byte) (s : State) :
    (coinReturn b s).vend = s.vend ∧ (coinReturn b s).drive = s.drive ∧
    (coinReturn b s).supply = s.supply ∧ (coinReturn b s).cooling = s.cooling ∧
    (coinReturn b s).cabinet = s.cabinet ∧ (coinReturn b s).faults = s.faults ∧
    (coinReturn b s).resetLow = s.resetLow ∧ (coinReturn b s).fresh = s.fresh ∧
    (coinReturn b s).pending = s.pending := by
  unfold coinReturn
  (try simp only [])
  (repeat' split) <;> simp

@[simp] theorem debitCash_frame (e : Entry) (s : State) :
    (debitCash e s).vend = s.vend ∧ (debitCash e s).drive = s.drive ∧
    (debitCash e s).supply = s.supply ∧ (debitCash e s).cooling = s.cooling ∧
    (debitCash e s).cabinet = s.cabinet ∧ (debitCash e s).faults = s.faults ∧
    (debitCash e s).resetLow = s.resetLow ∧ (debitCash e s).fresh = s.fresh ∧
    (debitCash e s).pending = s.pending := by
  unfold debitCash
  (try simp only [])
  (repeat' split) <;> simp

@[simp] theorem debit_frame (e : Entry) (s : State) :
    (debit e s).vend = s.vend ∧ (debit e s).drive = s.drive ∧ (debit e s).supply = s.supply ∧
    (debit e s).cooling = s.cooling ∧ (debit e s).cabinet = s.cabinet ∧
    (debit e s).faults = s.faults ∧ (debit e s).resetLow = s.resetLow ∧
    (debit e s).fresh = s.fresh ∧ (debit e s).pending = s.pending := by
  unfold debit
  (try simp only [])
  (repeat' split) <;> simp

@[simp] theorem takeTrace_frame (t : Byte) (m : Motor) (s : State) :
    (takeTrace t m s).money = s.money ∧ (takeTrace t m s).coins = s.coins ∧
    (takeTrace t m s).vend = s.vend ∧ (takeTrace t m s).supply = s.supply ∧
    (takeTrace t m s).cooling = s.cooling ∧ (takeTrace t m s).cabinet = s.cabinet ∧
    (takeTrace t m s).faults = s.faults ∧ (takeTrace t m s).resetLow = s.resetLow ∧
    (takeTrace t m s).pending = s.pending := by
  unfold takeTrace
  (try simp only [])
  (repeat' split) <;> simp

@[simp] theorem firstEnergise_frame (t : Byte) (x : Selection) (s : State) :
    (firstEnergise t x s).money = s.money ∧ (firstEnergise t x s).coins = s.coins ∧
    (firstEnergise t x s).vend = s.vend ∧ (firstEnergise t x s).supply = s.supply ∧
    (firstEnergise t x s).cooling = s.cooling ∧ (firstEnergise t x s).cabinet = s.cabinet ∧
    (firstEnergise t x s).faults = s.faults ∧ (firstEnergise t x s).resetLow = s.resetLow ∧
    (firstEnergise t x s).pending = s.pending := by
  unfold firstEnergise
  (try simp only [])
  (repeat' split) <;> simp

@[simp] theorem tryVend_frame (s : State) :
    (tryVend s).money = s.money ∧ (tryVend s).coins = s.coins ∧ (tryVend s).cooling = s.cooling ∧
    (tryVend s).cabinet = s.cabinet ∧ (tryVend s).faults = s.faults ∧
    (tryVend s).resetLow = s.resetLow ∧ (tryVend s).pending = s.pending := by
  unfold tryVend
  (try simp only [])
  (repeat' split) <;> simp

@[simp] theorem tryCompressor_frame (s : State) :
    (tryCompressor s).money = s.money ∧ (tryCompressor s).coins = s.coins ∧
    (tryCompressor s).vend = s.vend ∧ (tryCompressor s).drive = s.drive ∧
    (tryCompressor s).cabinet = s.cabinet ∧ (tryCompressor s).link = s.link ∧
    (tryCompressor s).faults = s.faults ∧ (tryCompressor s).events = s.events ∧
    (tryCompressor s).resetLow = s.resetLow ∧ (tryCompressor s).fresh = s.fresh ∧
    (tryCompressor s).pending = s.pending := by
  unfold tryCompressor
  (try simp only [])
  (repeat' split) <;> simp

@[simp] theorem tryHeater_frame (s : State) :
    (tryHeater s).money = s.money ∧ (tryHeater s).coins = s.coins ∧ (tryHeater s).vend = s.vend ∧
    (tryHeater s).drive = s.drive ∧ (tryHeater s).cabinet = s.cabinet ∧
    (tryHeater s).link = s.link ∧ (tryHeater s).faults = s.faults ∧
    (tryHeater s).events = s.events ∧ (tryHeater s).resetLow = s.resetLow ∧
    (tryHeater s).fresh = s.fresh ∧ (tryHeater s).pending = s.pending := by
  unfold tryHeater
  (try simp only [])
  (repeat' split) <;> simp

@[simp] theorem tryVendBehind_frame (s : State) :
    (tryVendBehind s).money = s.money ∧ (tryVendBehind s).coins = s.coins ∧
    (tryVendBehind s).cooling = s.cooling ∧ (tryVendBehind s).cabinet = s.cabinet ∧
    (tryVendBehind s).faults = s.faults ∧ (tryVendBehind s).resetLow = s.resetLow ∧
    (tryVendBehind s).pending = s.pending := by
  unfold tryVendBehind
  (try simp only [])
  (repeat' split) <;> simp

@[simp] theorem consider_frame (s : State) :
    (consider s).money = s.money ∧ (consider s).coins = s.coins ∧
    (consider s).cabinet = s.cabinet ∧ (consider s).faults = s.faults ∧
    (consider s).resetLow = s.resetLow ∧ (consider s).pending = s.pending := by
  unfold consider
  (try simp only [])
  (repeat' split) <;> simp

@[simp] theorem placeVend_frame (c : Nat) (t : Byte) (s : State) :
    (placeVend c t s).money = s.money ∧ (placeVend c t s).coins = s.coins ∧
    (placeVend c t s).cabinet = s.cabinet ∧ (placeVend c t s).faults = s.faults ∧
    (placeVend c t s).resetLow = s.resetLow ∧ (placeVend c t s).pending = s.pending := by
  unfold placeVend
  (try simp only [])
  (repeat' split) <;> simp

@[simp] theorem placeCompressor_frame (s : State) :
    (placeCompressor s).money = s.money ∧ (placeCompressor s).coins = s.coins ∧
    (placeCompressor s).cabinet = s.cabinet ∧ (placeCompressor s).faults = s.faults ∧
    (placeCompressor s).resetLow = s.resetLow ∧ (placeCompressor s).pending = s.pending := by
  unfold placeCompressor
  (try simp only [])
  (repeat' split) <;> simp

@[simp] theorem placeHeater_frame (s : State) :
    (placeHeater s).money = s.money ∧ (placeHeater s).coins = s.coins ∧
    (placeHeater s).cabinet = s.cabinet ∧ (placeHeater s).faults = s.faults ∧
    (placeHeater s).resetLow = s.resetLow ∧ (placeHeater s).pending = s.pending := by
  unfold placeHeater
  (try simp only [])
  (repeat' split) <;> simp

@[simp] theorem withdrawVend_frame (s : State) :
    (withdrawVend s).money = s.money ∧ (withdrawVend s).coins = s.coins ∧
    (withdrawVend s).cabinet = s.cabinet ∧ (withdrawVend s).faults = s.faults ∧
    (withdrawVend s).resetLow = s.resetLow ∧ (withdrawVend s).pending = s.pending := by
  unfold withdrawVend
  (try simp only [])
  (repeat' split) <;> simp

@[simp] theorem withdrawCompressor_frame (s : State) :
    (withdrawCompressor s).money = s.money ∧ (withdrawCompressor s).coins = s.coins ∧
    (withdrawCompressor s).cabinet = s.cabinet ∧ (withdrawCompressor s).faults = s.faults ∧
    (withdrawCompressor s).resetLow = s.resetLow ∧ (withdrawCompressor s).pending = s.pending := by
  unfold withdrawCompressor
  (try simp only [])
  (repeat' split) <;> simp

@[simp] theorem withdrawHeater_frame (s : State) :
    (withdrawHeater s).money = s.money ∧ (withdrawHeater s).coins = s.coins ∧
    (withdrawHeater s).cabinet = s.cabinet ∧ (withdrawHeater s).faults = s.faults ∧
    (withdrawHeater s).resetLow = s.resetLow ∧ (withdrawHeater s).pending = s.pending := by
  unfold withdrawHeater
  (try simp only [])
  (repeat' split) <;> simp

@[simp] theorem releaseVend_frame (s : State) :
    (releaseVend s).money = s.money ∧ (releaseVend s).coins = s.coins ∧
    (releaseVend s).cabinet = s.cabinet ∧ (releaseVend s).faults = s.faults ∧
    (releaseVend s).resetLow = s.resetLow ∧ (releaseVend s).pending = s.pending := by
  unfold releaseVend
  (try simp only [])
  (repeat' split) <;> simp

@[simp] theorem releaseCompressor_frame (s : State) :
    (releaseCompressor s).money = s.money ∧ (releaseCompressor s).coins = s.coins ∧
    (releaseCompressor s).cabinet = s.cabinet ∧ (releaseCompressor s).faults = s.faults ∧
    (releaseCompressor s).resetLow = s.resetLow ∧ (releaseCompressor s).pending = s.pending := by
  unfold releaseCompressor
  (try simp only [])
  (repeat' split) <;> simp

@[simp] theorem releaseHeater_frame (s : State) :
    (releaseHeater s).money = s.money ∧ (releaseHeater s).coins = s.coins ∧
    (releaseHeater s).cabinet = s.cabinet ∧ (releaseHeater s).faults = s.faults ∧
    (releaseHeater s).resetLow = s.resetLow ∧ (releaseHeater s).pending = s.pending := by
  unfold releaseHeater
  (try simp only [])
  (repeat' split) <;> simp

@[simp] theorem shrink_frame (s : State) :
    (shrink s).money = s.money ∧ (shrink s).coins = s.coins ∧ (shrink s).cabinet = s.cabinet ∧
    (shrink s).faults = s.faults ∧ (shrink s).resetLow = s.resetLow ∧
    (shrink s).pending = s.pending := by
  unfold shrink
  (try simp only [])
  (repeat' split) <;> simp

@[simp] theorem startHead_frame (s : State) :
    (startHead s).money = s.money ∧ (startHead s).coins = s.coins ∧
    (startHead s).cabinet = s.cabinet ∧ (startHead s).faults = s.faults ∧
    (startHead s).resetLow = s.resetLow ∧ (startHead s).pending = s.pending := by
  unfold startHead
  (try simp only [])
  (repeat' split) <;> simp

@[simp] theorem finishEntry_frame (e : Entry) (x : VendOutcome) (c : Option CancelCause) (s : State) :
    (finishEntry e x c s).money = s.money ∧ (finishEntry e x c s).coins = s.coins ∧
    (finishEntry e x c s).drive = s.drive ∧ (finishEntry e x c s).supply = s.supply ∧
    (finishEntry e x c s).cooling = s.cooling ∧ (finishEntry e x c s).cabinet = s.cabinet ∧
    (finishEntry e x c s).faults = s.faults ∧ (finishEntry e x c s).resetLow = s.resetLow ∧
    (finishEntry e x c s).fresh = s.fresh ∧ (finishEntry e x c s).pending = s.pending := by
  unfold finishEntry
  (try simp only [])
  (repeat' split) <;> simp

@[simp] theorem cancelOne_frame (c : CancelCause) (e : Entry) (s : State) :
    (cancelOne c s e).coins = s.coins ∧ (cancelOne c s e).cabinet = s.cabinet ∧
    (cancelOne c s e).faults = s.faults ∧ (cancelOne c s e).resetLow = s.resetLow ∧
    (cancelOne c s e).pending = s.pending := by
  unfold cancelOne
  simp only
  split <;> simp

@[simp] theorem cancelWhere_frame (p : Entry → Bool) (c : CancelCause) (s : State) :
    (cancelWhere p c s).coins = s.coins ∧ (cancelWhere p c s).cabinet = s.cabinet ∧
    (cancelWhere p c s).faults = s.faults ∧ (cancelWhere p c s).resetLow = s.resetLow ∧
    (cancelWhere p c s).pending = s.pending := by
  have h : ∀ (l : List Entry) (s : State),
      (l.foldl (cancelOne c) s).coins = s.coins ∧ (l.foldl (cancelOne c) s).cabinet = s.cabinet ∧ (l.foldl (cancelOne c) s).faults = s.faults ∧ (l.foldl (cancelOne c) s).resetLow = s.resetLow ∧ (l.foldl (cancelOne c) s).pending = s.pending := by
    intro l
    induction l with
    | nil => intro s; simp
    | cons e l ih => intro s; simp [ih]
  unfold cancelWhere
  split <;> simp [h]

@[simp] theorem clearEmpty_frame (s : State) :
    (clearEmpty s).money = s.money ∧ (clearEmpty s).coins = s.coins ∧
    (clearEmpty s).drive = s.drive ∧ (clearEmpty s).supply = s.supply ∧
    (clearEmpty s).cooling = s.cooling ∧ (clearEmpty s).cabinet = s.cabinet ∧
    (clearEmpty s).link = s.link ∧ (clearEmpty s).faults = s.faults ∧
    (clearEmpty s).events = s.events ∧ (clearEmpty s).resetLow = s.resetLow ∧
    (clearEmpty s).fresh = s.fresh ∧ (clearEmpty s).pending = s.pending := by
  refine ⟨rfl, rfl, rfl, rfl, rfl, rfl, rfl, rfl, rfl, rfl, rfl, rfl⟩

@[simp] theorem enterSales_frame (n : SalesState) (s : State) :
    (enterSales n s).money = s.money ∧ (enterSales n s).cabinet = s.cabinet ∧
    (enterSales n s).faults = s.faults ∧ (enterSales n s).resetLow = s.resetLow ∧
    (enterSales n s).pending = s.pending := by
  unfold enterSales
  (try simp only [])
  (repeat' split) <;> simp

@[simp] theorem suspendCheck_frame (s : State) :
    (suspendCheck s).money = s.money ∧ (suspendCheck s).cabinet = s.cabinet ∧
    (suspendCheck s).faults = s.faults ∧ (suspendCheck s).resetLow = s.resetLow ∧
    (suspendCheck s).pending = s.pending := by
  unfold suspendCheck
  (try simp only [])
  (repeat' split) <;> simp

@[simp] theorem accept_frame (i : Fin 96) (f : Funds) (s : State) :
    (accept i f s).coins = s.coins ∧ (accept i f s).cabinet = s.cabinet ∧
    (accept i f s).faults = s.faults ∧ (accept i f s).resetLow = s.resetLow ∧
    (accept i f s).pending = s.pending := by
  unfold accept
  (try simp only [])
  (repeat' split) <;> simp

@[simp] theorem selectVend_frame (a b : Byte) (s : State) :
    (selectVend a b s).coins = s.coins ∧ (selectVend a b s).cabinet = s.cabinet ∧
    (selectVend a b s).faults = s.faults ∧ (selectVend a b s).resetLow = s.resetLow ∧
    (selectVend a b s).pending = s.pending := by
  unfold selectVend
  (try simp only [])
  (repeat' split) <;> simp

@[simp] theorem isolationBegins_frame (i : Item) (s : State) :
    (isolationBegins i s).cabinet = s.cabinet ∧ (isolationBegins i s).faults = s.faults ∧
    (isolationBegins i s).resetLow = s.resetLow ∧ (isolationBegins i s).pending = s.pending := by
  unfold isolationBegins
  (try simp only [])
  (repeat' split) <;> simp

@[simp] theorem isolationEnds_frame (i : Item) (s : State) :
    (isolationEnds i s).money = s.money ∧ (isolationEnds i s).vend = s.vend ∧
    (isolationEnds i s).drive = s.drive ∧ (isolationEnds i s).supply = s.supply ∧
    (isolationEnds i s).cooling = s.cooling ∧ (isolationEnds i s).cabinet = s.cabinet ∧
    (isolationEnds i s).faults = s.faults ∧ (isolationEnds i s).resetLow = s.resetLow ∧
    (isolationEnds i s).fresh = s.fresh ∧ (isolationEnds i s).pending = s.pending := by
  unfold isolationEnds
  (try simp only [])
  (repeat' split) <;> simp

@[simp] theorem repeatFault_frame (p : Fin 24) (r : FaultRecord) (s : State) :
    (repeatFault p r s).money = s.money ∧ (repeatFault p r s).coins = s.coins ∧
    (repeatFault p r s).vend = s.vend ∧ (repeatFault p r s).drive = s.drive ∧
    (repeatFault p r s).supply = s.supply ∧ (repeatFault p r s).cooling = s.cooling ∧
    (repeatFault p r s).cabinet = s.cabinet ∧ (repeatFault p r s).resetLow = s.resetLow ∧
    (repeatFault p r s).fresh = s.fresh ∧ (repeatFault p r s).pending = s.pending := by
  unfold repeatFault
  (try simp only [])
  (repeat' split) <;> simp

@[simp] theorem storeFault_frame (p : Fin 24) (k : FaultKind) (n : Nat) (s : State) :
    (storeFault p k n s).cabinet = s.cabinet ∧ (storeFault p k n s).resetLow = s.resetLow ∧
    (storeFault p k n s).pending = s.pending := by
  unfold storeFault
  (try simp only [])
  (repeat' split) <;> simp

@[simp] theorem loseFault_frame (k : FaultKind) (n : Nat) (s : State) :
    (loseFault k n s).money = s.money ∧ (loseFault k n s).cabinet = s.cabinet ∧
    (loseFault k n s).resetLow = s.resetLow ∧ (loseFault k n s).pending = s.pending := by
  unfold loseFault
  (try simp only [])
  (repeat' split) <;> simp

@[simp] theorem report_frame (k : FaultKind) (n : Nat) (s : State) :
    (report k n s).cabinet = s.cabinet ∧ (report k n s).resetLow = s.resetLow ∧
    (report k n s).pending = s.pending := by
  unfold report
  (try simp only [])
  (repeat' split) <;> simp

@[simp] theorem conditionEnded_frame (k : FaultKind) (n : Nat) (s : State) :
    (conditionEnded k n s).money = s.money ∧ (conditionEnded k n s).coins = s.coins ∧
    (conditionEnded k n s).vend = s.vend ∧ (conditionEnded k n s).drive = s.drive ∧
    (conditionEnded k n s).supply = s.supply ∧ (conditionEnded k n s).cooling = s.cooling ∧
    (conditionEnded k n s).cabinet = s.cabinet ∧ (conditionEnded k n s).resetLow = s.resetLow ∧
    (conditionEnded k n s).fresh = s.fresh ∧ (conditionEnded k n s).pending = s.pending := by
  unfold conditionEnded
  (try simp only [])
  (repeat' split) <;> simp

@[simp] theorem rejudge_frame (b : FaultList) (i : Item) (s : State) :
    (rejudge b s i).cabinet = s.cabinet ∧ (rejudge b s i).faults = s.faults ∧
    (rejudge b s i).resetLow = s.resetLow ∧ (rejudge b s i).pending = s.pending := by
  unfold rejudge
  split <;> simp

@[simp] theorem writeClass_frame (k : Fin 12) (c : FaultClass) (s : State) :
    (writeClass k c s).cabinet = s.cabinet ∧ (writeClass k c s).resetLow = s.resetLow ∧
    (writeClass k c s).pending = s.pending := by
  have h : ∀ (b : FaultList) (l : List Item) (s : State),
      (l.foldl (rejudge b) s).cabinet = s.cabinet ∧ (l.foldl (rejudge b) s).resetLow = s.resetLow ∧ (l.foldl (rejudge b) s).pending = s.pending := by
    intro b l
    induction l with
    | nil => intro s; simp
    | cons e l ih => intro s; simp [ih]
  unfold writeClass
  simp [h]

@[simp] theorem reportAgain_frame (k : FaultKind) (n : Nat) (b : Bool) (s : State) :
    (reportAgain k n b s).cabinet = s.cabinet ∧ (reportAgain k n b s).resetLow = s.resetLow ∧
    (reportAgain k n b s).pending = s.pending := by
  unfold reportAgain
  (try simp only [])
  (repeat' split) <;> simp

@[simp] theorem probeAgain_frame (i : Fin 3) (s : State) :
    (probeAgain s i).cabinet = s.cabinet ∧ (probeAgain s i).resetLow = s.resetLow ∧
    (probeAgain s i).pending = s.pending := by
  unfold probeAgain
  (try simp only [])
  (repeat' split) <;> simp

@[simp] theorem endOverflow_frame (s : State) :
    (endOverflow s).cabinet = s.cabinet ∧ (endOverflow s).resetLow = s.resetLow ∧
    (endOverflow s).pending = s.pending := by
  have h : ∀ (l : List (Fin 3)) (s : State),
      (l.foldl probeAgain s).cabinet = s.cabinet ∧ (l.foldl probeAgain s).resetLow = s.resetLow ∧ (l.foldl probeAgain s).pending = s.pending := by
    intro l
    induction l with
    | nil => intro s; simp
    | cons e l ih => intro s; simp [ih]
  have g : ∀ (l : List (Fin 4)) (s : State),
      (l.foldl (fun (w : State) (p : PortId) => reportAgain .portQuiet p (decide ((w.port p).state = .quiet)) w) s).cabinet = s.cabinet ∧ (l.foldl (fun (w : State) (p : PortId) => reportAgain .portQuiet p (decide ((w.port p).state = .quiet)) w) s).resetLow = s.resetLow ∧ (l.foldl (fun (w : State) (p : PortId) => reportAgain .portQuiet p (decide ((w.port p).state = .quiet)) w) s).pending = s.pending := by
    intro l
    induction l with
    | nil => intro s; simp
    | cons e l ih => intro s; simp [ih]
  unfold endOverflow
  simp [h, g]

@[simp] theorem removeFault_frame (p : Fin 24) (r : FaultRecord) (s : State) :
    (removeFault p r s).cabinet = s.cabinet ∧ (removeFault p r s).resetLow = s.resetLow ∧
    (removeFault p r s).pending = s.pending := by
  unfold removeFault
  (try simp only [])
  (repeat' split) <;> simp

@[simp] theorem raiseDefrost_frame (v : Nat) (s : State) :
    (raiseDefrost v s).money = s.money ∧ (raiseDefrost v s).coins = s.coins ∧
    (raiseDefrost v s).vend = s.vend ∧ (raiseDefrost v s).drive = s.drive ∧
    (raiseDefrost v s).supply = s.supply ∧ (raiseDefrost v s).cooling = s.cooling ∧
    (raiseDefrost v s).cabinet = s.cabinet ∧ (raiseDefrost v s).faults = s.faults ∧
    (raiseDefrost v s).resetLow = s.resetLow ∧ (raiseDefrost v s).fresh = s.fresh ∧
    (raiseDefrost v s).pending = s.pending := by
  unfold raiseDefrost
  (try simp only [])
  (repeat' split) <;> simp

@[simp] theorem enterHeating_frame (s : State) :
    (enterHeating s).money = s.money ∧ (enterHeating s).coins = s.coins ∧
    (enterHeating s).cabinet = s.cabinet ∧ (enterHeating s).faults = s.faults ∧
    (enterHeating s).resetLow = s.resetLow ∧ (enterHeating s).pending = s.pending := by
  unfold enterHeating
  (try simp only [])
  (repeat' split) <;> simp

@[simp] theorem stopCompressor_frame (s : State) :
    (stopCompressor s).money = s.money ∧ (stopCompressor s).coins = s.coins ∧
    (stopCompressor s).cabinet = s.cabinet ∧ (stopCompressor s).faults = s.faults ∧
    (stopCompressor s).resetLow = s.resetLow ∧ (stopCompressor s).pending = s.pending := by
  unfold stopCompressor
  (try simp only [])
  (repeat' split) <;> simp

@[simp] theorem reactCompressor_frame (s : State) :
    (reactCompressor s).money = s.money ∧ (reactCompressor s).coins = s.coins ∧
    (reactCompressor s).cabinet = s.cabinet ∧ (reactCompressor s).faults = s.faults ∧
    (reactCompressor s).resetLow = s.resetLow ∧ (reactCompressor s).pending = s.pending := by
  unfold reactCompressor
  (try simp only [])
  (repeat' split) <;> simp

@[simp] theorem enterPending_frame (c : Nat) (s : State) :
    (enterPending c s).money = s.money ∧ (enterPending c s).coins = s.coins ∧
    (enterPending c s).cabinet = s.cabinet ∧ (enterPending c s).faults = s.faults ∧
    (enterPending c s).resetLow = s.resetLow ∧ (enterPending c s).pending = s.pending := by
  unfold enterPending
  (try simp only [])
  (repeat' split) <;> simp

@[simp] theorem heaterOff_frame (s : State) :
    (heaterOff s).money = s.money ∧ (heaterOff s).coins = s.coins ∧
    (heaterOff s).cabinet = s.cabinet ∧ (heaterOff s).faults = s.faults ∧
    (heaterOff s).resetLow = s.resetLow ∧ (heaterOff s).pending = s.pending := by
  unfold heaterOff
  (try simp only [])
  (repeat' split) <;> simp

@[simp] theorem endHeating_frame (s : State) :
    (endHeating s).money = s.money ∧ (endHeating s).coins = s.coins ∧
    (endHeating s).cabinet = s.cabinet ∧ (endHeating s).faults = s.faults ∧
    (endHeating s).resetLow = s.resetLow ∧ (endHeating s).pending = s.pending := by
  unfold endHeating
  (try simp only [])
  (repeat' split) <;> simp

@[simp] theorem endDripping_frame (s : State) :
    (endDripping s).money = s.money ∧ (endDripping s).coins = s.coins ∧
    (endDripping s).cabinet = s.cabinet ∧ (endDripping s).faults = s.faults ∧
    (endDripping s).resetLow = s.resetLow ∧ (endDripping s).pending = s.pending := by
  unfold endDripping
  (try simp only [])
  (repeat' split) <;> simp

@[simp] theorem setDemand_frame (z : ZoneId) (b : Bool) (s : State) :
    (setDemand z b s).money = s.money ∧ (setDemand z b s).coins = s.coins ∧
    (setDemand z b s).cabinet = s.cabinet ∧ (setDemand z b s).faults = s.faults ∧
    (setDemand z b s).resetLow = s.resetLow ∧ (setDemand z b s).pending = s.pending := by
  unfold setDemand
  (try simp only [])
  (repeat' split) <;> simp

@[simp] theorem evalDemand_frame (z : ZoneId) (s : State) :
    (evalDemand z s).money = s.money ∧ (evalDemand z s).coins = s.coins ∧
    (evalDemand z s).cabinet = s.cabinet ∧ (evalDemand z s).faults = s.faults ∧
    (evalDemand z s).resetLow = s.resetLow ∧ (evalDemand z s).pending = s.pending := by
  unfold evalDemand
  (try simp only [])
  (repeat' split) <;> simp

@[simp] theorem formSetpoint_frame (z : ZoneId) (s : State) :
    (formSetpoint z s).money = s.money ∧ (formSetpoint z s).coins = s.coins ∧
    (formSetpoint z s).cabinet = s.cabinet ∧ (formSetpoint z s).faults = s.faults ∧
    (formSetpoint z s).resetLow = s.resetLow ∧ (formSetpoint z s).pending = s.pending := by
  unfold formSetpoint
  (try simp only [])
  (repeat' split) <;> simp

@[simp] theorem enterLimp_frame (z : ZoneId) (s : State) :
    (enterLimp z s).money = s.money ∧ (enterLimp z s).coins = s.coins ∧
    (enterLimp z s).cabinet = s.cabinet ∧ (enterLimp z s).faults = s.faults ∧
    (enterLimp z s).resetLow = s.resetLow ∧ (enterLimp z s).pending = s.pending := by
  unfold enterLimp
  (try simp only [])
  (repeat' split) <;> simp

@[simp] theorem reportPassage_frame (i : Fin 3) (a b : ChannelState) (s : State) :
    (reportPassage i a b s).cabinet = s.cabinet ∧ (reportPassage i a b s).resetLow = s.resetLow ∧
    (reportPassage i a b s).pending = s.pending := by
  unfold reportPassage
  (try simp only [])
  (repeat' split) <;> simp

@[simp] theorem sampleProbe_frame (i : Fin 3) (r : Int) (s : State) :
    (sampleProbe i r s).cabinet = s.cabinet ∧ (sampleProbe i r s).resetLow = s.resetLow ∧
    (sampleProbe i r s).pending = s.pending := by
  unfold sampleProbe
  (try simp only [])
  (repeat' split) <;> simp

@[simp] theorem airTaken_frame (z : ZoneId) (a : ChannelState) (s : State) :
    (airTaken z a s).money = s.money ∧ (airTaken z a s).coins = s.coins ∧
    (airTaken z a s).cabinet = s.cabinet ∧ (airTaken z a s).faults = s.faults ∧
    (airTaken z a s).resetLow = s.resetLow ∧ (airTaken z a s).pending = s.pending := by
  unfold airTaken
  (try simp only [])
  (repeat' split) <;> simp

@[simp] theorem sampleAir_frame (z : ZoneId) (r : Int) (s : State) :
    (sampleAir z r s).cabinet = s.cabinet ∧ (sampleAir z r s).resetLow = s.resetLow ∧
    (sampleAir z r s).pending = s.pending := by
  unfold sampleAir
  (try simp only [])
  (repeat' split) <;> simp

@[simp] theorem checkNoCool_frame (s : State) :
    (checkNoCool s).cabinet = s.cabinet ∧ (checkNoCool s).resetLow = s.resetLow ∧
    (checkNoCool s).pending = s.pending := by
  unfold checkNoCool
  (try simp only [])
  (repeat' split) <;> simp

@[simp] theorem checkCoil_frame (s : State) :
    (checkCoil s).money = s.money ∧ (checkCoil s).coins = s.coins ∧
    (checkCoil s).cabinet = s.cabinet ∧ (checkCoil s).faults = s.faults ∧
    (checkCoil s).resetLow = s.resetLow ∧ (checkCoil s).pending = s.pending := by
  unfold checkCoil
  (try simp only [])
  (repeat' split) <;> simp

@[simp] theorem sampleCoil_frame (r : Int) (s : State) :
    (sampleCoil r s).cabinet = s.cabinet ∧ (sampleCoil r s).resetLow = s.resetLow ∧
    (sampleCoil r s).pending = s.pending := by
  unfold sampleCoil
  (try simp only [])
  (repeat' split) <;> simp

@[simp] theorem enterHeld_frame (z : ZoneId) (s : State) :
    (enterHeld z s).coins = s.coins ∧ (enterHeld z s).faults = s.faults ∧
    (enterHeld z s).resetLow = s.resetLow ∧ (enterHeld z s).pending = s.pending := by
  unfold enterHeld
  (try simp only [])
  (repeat' split) <;> simp

@[simp] theorem accumulate_frame (z : ZoneId) (s : State) :
    (accumulate z s).coins = s.coins ∧ (accumulate z s).faults = s.faults ∧
    (accumulate z s).resetLow = s.resetLow ∧ (accumulate z s).pending = s.pending := by
  unfold accumulate
  (try simp only [])
  (repeat' split) <;> simp

@[simp] theorem changeEconomy_frame (n : EconomyState) (v : Nat) (s : State) :
    (changeEconomy n v s).money = s.money ∧ (changeEconomy n v s).coins = s.coins ∧
    (changeEconomy n v s).faults = s.faults ∧ (changeEconomy n v s).resetLow = s.resetLow ∧
    (changeEconomy n v s).pending = s.pending := by
  unfold changeEconomy
  (try simp only [])
  (repeat' split) <;> simp

@[simp] theorem judgeEconomy_frame (s : State) :
    (judgeEconomy s).money = s.money ∧ (judgeEconomy s).coins = s.coins ∧
    (judgeEconomy s).faults = s.faults ∧ (judgeEconomy s).resetLow = s.resetLow ∧
    (judgeEconomy s).pending = s.pending := by
  unfold judgeEconomy
  (try simp only [])
  (repeat' split) <;> simp

@[simp] theorem judgeWindow_frame (s : State) :
    (judgeWindow s).money = s.money ∧ (judgeWindow s).coins = s.coins ∧
    (judgeWindow s).faults = s.faults ∧ (judgeWindow s).resetLow = s.resetLow ∧
    (judgeWindow s).pending = s.pending := by
  unfold judgeWindow
  (try simp only [])
  (repeat' split) <;> simp

@[simp] theorem activity_frame (k : Activity) (s : State) :
    (activity k s).money = s.money ∧ (activity k s).coins = s.coins ∧
    (activity k s).faults = s.faults ∧ (activity k s).resetLow = s.resetLow ∧
    (activity k s).pending = s.pending := by
  unfold activity
  (try simp only [])
  (repeat' split) <;> simp

@[simp] theorem settleVend_frame (e : Entry) (x : VendOutcome) (s : State) :
    (settleVend e x s).cabinet = s.cabinet ∧ (settleVend e x s).faults = s.faults ∧
    (settleVend e x s).resetLow = s.resetLow ∧ (settleVend e x s).pending = s.pending := by
  unfold settleVend
  simp only
  split <;> split <;> simp

@[simp] theorem vendOutcome_frame (t : Byte) (x : VendOutcome) (s : State) :
    (vendOutcome t x s).cabinet = s.cabinet ∧ (vendOutcome t x s).faults = s.faults ∧
    (vendOutcome t x s).resetLow = s.resetLow ∧ (vendOutcome t x s).pending = s.pending := by
  unfold vendOutcome
  (try simp only [])
  (repeat' split) <;> simp

@[simp] theorem endDrive_frame (r : Drive) (x : VendOutcome) (s : State) :
    (endDrive r x s).cabinet = s.cabinet ∧ (endDrive r x s).faults = s.faults ∧
    (endDrive r x s).resetLow = s.resetLow ∧ (endDrive r x s).pending = s.pending := by
  unfold endDrive
  (try simp only [])
  (repeat' split) <;> simp

@[simp] theorem driveFault_frame (k : FaultKind) (m : List Motor) (r : Drive) (s : State) :
    (driveFault k m r s).cabinet = s.cabinet ∧ (driveFault k m r s).resetLow = s.resetLow ∧
    (driveFault k m r s).pending = s.pending := by
  have h : ∀ (l : List Motor) (s : State),
      (l.foldl (fun v n => report k n.index v) s).cabinet = s.cabinet ∧ (l.foldl (fun v n => report k n.index v) s).resetLow = s.resetLow ∧ (l.foldl (fun v n => report k n.index v) s).pending = s.pending := by
    intro l
    induction l with
    | nil => intro s; simp
    | cons e l ih => intro s; simp [ih]
  unfold driveFault
  simp [h]

@[simp] theorem endOfLastTurn_frame (r : Drive) (s : State) :
    (endOfLastTurn r s).cabinet = s.cabinet ∧ (endOfLastTurn r s).faults = s.faults ∧
    (endOfLastTurn r s).resetLow = s.resetLow ∧ (endOfLastTurn r s).pending = s.pending := by
  unfold endOfLastTurn
  (try simp only [])
  (repeat' split) <;> simp

@[simp] theorem nextContinuous_frame (r : Drive) (s : State) :
    (nextContinuous r s).money = s.money ∧ (nextContinuous r s).coins = s.coins ∧
    (nextContinuous r s).vend = s.vend ∧ (nextContinuous r s).supply = s.supply ∧
    (nextContinuous r s).cooling = s.cooling ∧ (nextContinuous r s).cabinet = s.cabinet ∧
    (nextContinuous r s).link = s.link ∧ (nextContinuous r s).faults = s.faults ∧
    (nextContinuous r s).events = s.events ∧ (nextContinuous r s).resetLow = s.resetLow ∧
    (nextContinuous r s).fresh = s.fresh ∧ (nextContinuous r s).pending = s.pending := by
  refine ⟨rfl, rfl, rfl, rfl, rfl, rfl, rfl, rfl, rfl, rfl, rfl, rfl⟩

@[simp] theorem turnEnded_frame (r : Drive) (s : State) :
    (turnEnded r s).cabinet = s.cabinet ∧ (turnEnded r s).faults = s.faults ∧
    (turnEnded r s).resetLow = s.resetLow ∧ (turnEnded r s).pending = s.pending := by
  unfold turnEnded
  (try simp only [])
  (repeat' split) <;> simp

@[simp] theorem switchesClose_frame (m : TurnEnd) (r : Drive) (s : State) :
    (switchesClose m r s).cabinet = s.cabinet ∧ (switchesClose m r s).faults = s.faults ∧
    (switchesClose m r s).resetLow = s.resetLow ∧ (switchesClose m r s).pending = s.pending := by
  unfold switchesClose
  (try simp only [])
  (repeat' split) <;> simp

@[simp] theorem tailEnds_frame (r : Drive) (s : State) :
    (tailEnds r s).cabinet = s.cabinet ∧ (tailEnds r s).faults = s.faults ∧
    (tailEnds r s).resetLow = s.resetLow ∧ (tailEnds r s).pending = s.pending := by
  unfold tailEnds
  (try simp only [])
  (repeat' split) <;> simp

@[simp] theorem sampleCurrent_frame (c : Byte) (r : Drive) (s : State) :
    (sampleCurrent c r s).cabinet = s.cabinet ∧ (sampleCurrent c r s).resetLow = s.resetLow ∧
    (sampleCurrent c r s).pending = s.pending := by
  unfold sampleCurrent
  (try simp only [])
  (repeat' split) <;> simp

@[simp] theorem countDrop_frame (s : State) :
    (countDrop s).cabinet = s.cabinet ∧ (countDrop s).faults = s.faults ∧
    (countDrop s).resetLow = s.resetLow ∧ (countDrop s).pending = s.pending := by
  unfold countDrop
  (try simp only [])
  (repeat' split) <;> simp

@[simp] theorem enterQuiet_frame (p : PortId) (s : State) :
    (enterQuiet p s).cabinet = s.cabinet ∧ (enterQuiet p s).resetLow = s.resetLow ∧
    (enterQuiet p s).pending = s.pending := by
  unfold enterQuiet
  (try simp only [])
  (repeat' split) <;> simp

@[simp] theorem scoreBad_frame (p : PortId) (s : State) :
    (scoreBad p s).cabinet = s.cabinet ∧ (scoreBad p s).resetLow = s.resetLow ∧
    (scoreBad p s).pending = s.pending := by
  unfold scoreBad
  (try simp only [])
  (repeat' split) <;> simp

@[simp] theorem scoreGood_frame (p : PortId) (s : State) :
    (scoreGood p s).money = s.money ∧ (scoreGood p s).coins = s.coins ∧
    (scoreGood p s).vend = s.vend ∧ (scoreGood p s).drive = s.drive ∧
    (scoreGood p s).supply = s.supply ∧ (scoreGood p s).cooling = s.cooling ∧
    (scoreGood p s).cabinet = s.cabinet ∧ (scoreGood p s).faults = s.faults ∧
    (scoreGood p s).events = s.events ∧ (scoreGood p s).resetLow = s.resetLow ∧
    (scoreGood p s).fresh = s.fresh ∧ (scoreGood p s).pending = s.pending := by
  refine ⟨rfl, rfl, rfl, rfl, rfl, rfl, rfl, rfl, rfl, rfl, rfl, rfl⟩

@[simp] theorem recover_frame (p : PortId) (s : State) :
    (recover p s).money = s.money ∧ (recover p s).vend = s.vend ∧ (recover p s).drive = s.drive ∧
    (recover p s).supply = s.supply ∧ (recover p s).cooling = s.cooling ∧
    (recover p s).cabinet = s.cabinet ∧ (recover p s).resetLow = s.resetLow ∧
    (recover p s).fresh = s.fresh ∧ (recover p s).pending = s.pending := by
  unfold recover
  (try simp only [])
  (repeat' split) <;> simp

@[simp] theorem overflowDrop_frame (p : PortId) (s : State) :
    (overflowDrop p s).money = s.money ∧ (overflowDrop p s).coins = s.coins ∧
    (overflowDrop p s).vend = s.vend ∧ (overflowDrop p s).drive = s.drive ∧
    (overflowDrop p s).supply = s.supply ∧ (overflowDrop p s).cooling = s.cooling ∧
    (overflowDrop p s).cabinet = s.cabinet ∧ (overflowDrop p s).faults = s.faults ∧
    (overflowDrop p s).resetLow = s.resetLow ∧ (overflowDrop p s).fresh = s.fresh ∧
    (overflowDrop p s).pending = s.pending := by
  unfold overflowDrop
  (try simp only [])
  (repeat' split) <;> simp

@[simp] theorem forward_frame (p : PortId) (f : Frame) (s : State) :
    (forward p f s).money = s.money ∧ (forward p f s).coins = s.coins ∧
    (forward p f s).vend = s.vend ∧ (forward p f s).drive = s.drive ∧
    (forward p f s).supply = s.supply ∧ (forward p f s).cooling = s.cooling ∧
    (forward p f s).cabinet = s.cabinet ∧ (forward p f s).faults = s.faults ∧
    (forward p f s).resetLow = s.resetLow ∧ (forward p f s).fresh = s.fresh ∧
    (forward p f s).pending = s.pending := by
  unfold forward
  (try simp only [])
  (repeat' split) <;> simp

end Sys2Proof.Machine
end

