-- ==== Sys2Proof/Laws/Queues.lean ====
section
/-! SUPPORT. What the part does with RESETn high and low, what a REPLY does to its queue, what a settlement
record takes with it from the pending lists, and when a count reaches its limit. -/

namespace Sys2Proof.Machine

/-- With RESETn high a meaning's effect is the next state. -/
theorem act_of_high {s : State} (h : s.resetLow = false) (t : State) : act s t = .next t := by
  simp [act, h]

/-- With RESETn low a meaning has no effect. -/
theorem act_of_low {s : State} (h : s.resetLow = true) (t : State) : act s t = .next s := by
  simp [act, h]

/-- A meaning answers next, the state as it was or its effect. -/
theorem act_next {s t u : State} (h : act s t = .next u) :
    (s.resetLow = true ∧ u = s) ∨ (s.resetLow = false ∧ u = t) := by
  cases hr : s.resetLow
  · rw [act_of_high hr] at h; exact .inr ⟨rfl, by cases h; rfl⟩
  · rw [act_of_low hr] at h; exact .inl ⟨rfl, by cases h; rfl⟩

/-- A count held in ms is at most one second short of its limit. -/
@[simp] theorem risesTo_iff {count limit : Nat} : risesTo count limit = true ↔ limit ≤ count + 1000 := by
  simp [risesTo]

/-- All that making room for a REPLY can do: nothing, or the last frame of a full queue, an own one, goes back
to the pending list. -/
theorem Port.yieldPlace_cases (q : Port) :
    (q.yieldPlace = q ∧ (q.tx.length < 6 ∨ ∀ x, q.tx.getLast? = some x → x.kind ≠ .own)) ∨
    ∃ before f, q.tx = before ++ [f] ∧ f.kind = .own ∧ 6 ≤ q.tx.length ∧
      q.yieldPlace = { q with tx := before, waiting := putBack f.frame q.waiting } := by
  unfold Port.yieldPlace
  split
  · exact .inl ⟨rfl, .inl ‹_›⟩
  · rename_i full
    cases hl : q.tx.getLast? with
    | none => exact .inl ⟨rfl, .inr (by simp)⟩
    | some x =>
      by_cases hx : x.kind = .own
      · refine .inr ⟨q.tx.dropLast, x, ?_, hx, by omega, by simp [hx]⟩
        obtain ⟨l, hl⟩ := List.getLast?_eq_some_iff.mp hl
        simp [hl]
      · refine .inl ⟨by simp [hx], .inr ?_⟩
        intro y hy
        cases hy
        exact hx

/-- Where a queue keeps to its places a REPLY leaves it within them, unless its last frame cannot yield. -/
theorem Port.yieldPlace_room {q : Port} (h : q.tx.length ≤ 6)
    (own : q.tx.length = 6 → ∃ x, q.tx.getLast? = some x ∧ x.kind = .own) :
    q.yieldPlace.tx.length < 6 := by
  rcases q.yieldPlace_cases with ⟨he, hr | hk⟩ | ⟨before, f, hq, _, _, he⟩
  · rw [he]; exact hr
  · by_cases h6 : q.tx.length = 6
    · obtain ⟨x, hx, ho⟩ := own h6
      exact absurd ho (hk x hx)
    · rw [he]; omega
  · have : q.tx.length = before.length + 1 := by simp [hq]
    rw [he]; show before.length < 6; omega

/-- What waits in a port without the SETTLE of a tag. -/
@[simp] theorem Port.mem_withoutSettle_waiting {tag : Byte} {q : Port} {f : Frame} :
    f ∈ (q.withoutSettle tag).waiting ↔ f ∈ q.waiting ∧ isSettleOf tag f = false := by
  simp [Port.withoutSettle]

/-- A port without the SETTLE of a tag has the queue and the state it had. -/
@[simp] theorem Port.withoutSettle_rest (tag : Byte) (q : Port) :
    (q.withoutSettle tag).tx = q.tx ∧ (q.withoutSettle tag).state = q.state ∧
    (q.withoutSettle tag).overflow = q.overflow ∧ (q.withoutSettle tag).runOpen = q.runOpen :=
  ⟨rfl, rfl, rfl, rfl⟩

/-- A settlement record that leaves changes the settlement list and the pending lists alone. -/
@[simp] theorem dropSettlement_frame (r : Settlement) (s : State) :
    (dropSettlement r s).coins = s.coins ∧ (dropSettlement r s).vend = s.vend ∧
    (dropSettlement r s).drive = s.drive ∧ (dropSettlement r s).supply = s.supply ∧
    (dropSettlement r s).cooling = s.cooling ∧ (dropSettlement r s).cabinet = s.cabinet ∧
    (dropSettlement r s).faults = s.faults ∧ (dropSettlement r s).events = s.events ∧
    (dropSettlement r s).resetLow = s.resetLow ∧ (dropSettlement r s).fresh = s.fresh ∧
    (dropSettlement r s).pending = s.pending := by
  refine ⟨rfl, rfl, rfl, rfl, rfl, rfl, rfl, rfl, rfl, rfl, rfl⟩

/-- The money after a settlement record has left. -/
@[simp] theorem dropSettlement_money (r : Settlement) (s : State) :
    (dropSettlement r s).money = { s.money with settlements := s.money.settlements.erase r } := rfl

/-- A port after a settlement record has left. -/
@[simp] theorem dropSettlement_port (r : Settlement) (s : State) (p : PortId) :
    (dropSettlement r s).port p = (s.port p).withoutSettle r.tag := by
  simp [dropSettlement, State.port, State.mapLink, State.mapMoney]

end Sys2Proof.Machine
end

