-- ==== Sys2Proof/Laws/Reports.lean ====
section
/-! SUPPORT. What raising an event and judging the condition of R153 do to the reports of the part:
`Becomes` is kept by both, so a command's events add up in order. -/

namespace Sys2Proof.Machine

/-- The lines of events raised in state `u`. -/
theorem lines_length (u : State) (es : List (EventCode × Byte × Word)) :
    (es.map fun e => Event.line { code := e.1, subject := e.2.1, value := e.2.2, time := stamp u }).length
      = es.length := by simp

/-- An EVENT frame carries the line of its record. -/
theorem eventFrame_line (own c : Byte) (e : Event) (lost : Nat) :
    (eventFrame own c e lost).payload.take 10 = e.line := by
  simp [eventFrame, Event.line, bytes32]

/-- Head records leave the queue as EVENT frames at the end of the port's queue, and no line is lost. -/
theorem drain_spec (own c : Byte) (es : List Event) (lost : Nat) (q : Port) :
    ∃ sent : List TxFrame, (∀ f ∈ sent, f.kind = .event) ∧
      (drain own c es lost q).2.2 = { q with tx := q.tx ++ sent } ∧
      (sent.map fun f => f.frame.payload.take 10) ++ (drain own c es lost q).1.map Event.line
        = es.map Event.line := by
  induction es generalizing lost q with
  | nil => exact ⟨[], by simp, by simp [drain], by simp [drain]⟩
  | cons e es ih =>
    unfold drain
    split
    · obtain ⟨sent, h1, h2, h3⟩ := ih 0 (q.enqueue (eventFrame own c e lost) .event)
      refine ⟨{ frame := eventFrame own c e lost, kind := .event } :: sent, ?_, ?_, ?_⟩
      · intro f hf
        rcases List.mem_cons.mp hf with h | h
        · rw [h]
        · exact h1 f h
      · rw [h2]; simp [Port.enqueue]
      · simp only [List.map_cons, List.cons_append, eventFrame_line, h3]
    · exact ⟨[], by simp, by simp, by simp⟩

/-- All frames of a list of EVENT frames pass the filter of `reports`. -/
theorem filter_events (l : List TxFrame) (h : ∀ f ∈ l, f.kind = .event) :
    l.filter (fun f => decide (f.kind = .event)) = l := by
  rw [List.filter_eq_self]; intro f hf; simp [h f hf]

/-- `pump` changes nothing but the reports' places. -/
theorem pump_same (s : State) : SameButReports s (pump s) ∧ reports (pump s) = reports s := by
  obtain ⟨sent, h1, h2, h3⟩ := drain_spec s.link.ownNode (controllerNode s.link) s.events.queue
    s.events.lost (s.port 0)
  refine ⟨⟨sent, h1, ?_⟩, ?_⟩
  · simp [pump, State.mapEvents, State.mapPort, State.mapLink, h2]
  · have h4 : (pump s).port 0 = { s.port 0 with tx := (s.port 0).tx ++ sent } := by
      simp [pump, State.mapEvents, State.mapPort, State.mapLink, State.port]
      exact h2
    have h5 : (pump s).events.queue = (drain s.link.ownNode (controllerNode s.link) s.events.queue
        s.events.lost (s.port 0)).1 := rfl
    simp only [reports, h4, h5, List.filter_append, filter_events sent h1, List.map_append,
      List.append_assoc, h3]

/-- Storing port U's own state changes nothing. -/
theorem set_port_self (u : State) (h : 0 < 4) : u.link.ports.set 0 (u.port 0) h = u.link.ports := by
  simp [State.port]

/-- A state becomes itself. -/
theorem becomes_self (u : State) : Becomes u [] u := by
  refine ⟨⟨[], by simp, ?_⟩, by simp⟩
  have h := set_port_self u (by decide)
  simp only [List.append_nil]
  change u = { u with link := { u.link with ports := u.link.ports.set 0 (u.port 0) _ } }
  rw [h]

/-- A second stretch of EVENT frames follows a first. -/
theorem SameButReports.trans {u t v : State} (h : SameButReports u t) (k : SameButReports t v) :
    SameButReports u v := by
  obtain ⟨a, ha, h⟩ := h
  obtain ⟨b, hb, k⟩ := k
  refine ⟨a ++ b, ?_, ?_⟩
  · intro f hf
    rcases List.mem_append.mp hf with h | h
    · exact ha f h
    · exact hb f h
  · rw [k, h]; simp [State.port]

/-- Judging the condition of R153 keeps what a command leaves behind. -/
theorem becomes_pump {u t : State} {es : List (EventCode × Byte × Word)} (h : Becomes u es t) :
    Becomes u es (pump t) := by
  obtain ⟨h1, h2⟩ := h
  exact ⟨h1.trans (pump_same t).1, fun r => by rw [(pump_same t).2, h2 r]⟩

/-- The second of the moment is not changed by reports. -/
theorem SameButReports.stamp_eq {u t : State} (h : SameButReports u t) : stamp t = stamp u := by
  obtain ⟨a, _, h⟩ := h
  rw [h]; rfl

/-- The queue holds no more than the reports that were added. -/
theorem queue_bound {u t : State} {es : List (EventCode × Byte × Word)} (h : Becomes u es t)
    (r : u.events.queue.length + es.length ≤ 16) :
    t.events.queue.length ≤ u.events.queue.length + es.length := by
  obtain ⟨⟨a, ha, h1⟩, h2⟩ := h
  have h3 := congrArg List.length (h2 r)
  rw [h1] at h3
  simp [reports, State.port, List.filter_append, filter_events a ha] at h3
  omega

/-- A raised event is the last report. -/
theorem becomes_raise {u t : State} {es : List (EventCode × Byte × Word)} (h : Becomes u es t)
    (c : EventCode) (a : Byte) (v : Word) : Becomes u (es ++ [(c, a, v)]) (raise c a v t) := by
  have hs : SameButReports u (t.mapEvents fun q =>
      q.place { code := c, subject := a, value := v, time := stamp t }) := by
    obtain ⟨b, hb, h1⟩ := h.1
    refine ⟨b, hb, ?_⟩
    rw [h1]; rfl
  refine ⟨hs.trans (pump_same _).1, fun r => ?_⟩
  rw [List.length_append] at r
  have hq := queue_bound h (by omega)
  have hl : ¬ 16 ≤ t.events.queue.length := by simp at r; omega
  rw [raise, (pump_same _).2]
  have h2 := h.2 (by omega)
  simp only [reports, State.mapEvents, EventQueue.place, if_neg hl, State.port, List.map_append,
    ← List.append_assoc] at h2 ⊢
  rw [h2]
  simp [h.1.stamp_eq]

end Sys2Proof.Machine
end

