-- ==== Sys2Proof/WellFormed.lean ====
section
/-! DEFINITION. Which commands the outside can bring. A good frame carries at most 40 payload bytes,
because a longer length byte abandons the frame (R145, R161); a drive has at most three turns
and two retries (R51). Every other operand is exactly as wide as the item it carries, and
values out of a field's range are well formed: the rules answer them. -/

namespace Sys2Proof

/-- The payload length a frame can have (R161). -/
def payloadFits (payload : List Byte) : Bool := payload.length ≤ 40

/-- The number of a turn in its drive: up to three turns and two retries (R51, R90). -/
def turnFits (turn : Nat) : Bool := turn < 5

/-- Whether the outside can bring this command. -/
def Instr.wellFormed : Instr → Bool
  | .goodFrame _ _ _ _ payload => payloadFits payload
  | .turnTimerExpiry timer => turnFits timer.turn
  | .coldReset _ _ | .warmRestart | .badFrame _ _ | .frameGapExpiry _ | .frameSent _
  | .select _ _ | .cancel _ _ | .creditReturn | .coinReturnLeverPress | .coinReturnLeverRelease
  | .coinIn _ | .noteHeld _ | .noteStacked _ | .noteReturned _ | .noteEscrowTimerExpiry
  | .funds _ | .sessionEnd | .settleAck _ | .settlementTimerExpiry _ | .solenoidPulseEnd
  | .exitPulse | .exitWaitExpiry | .gapEnd | .tinPulse _ | .cbinPulse | .doorChange _
  | .currentSample _ | .motorStall | .motorOpen | .switchSeenOpen _ | .motorTurnEnd _
  | .pauseEnd | .timedRunEnd | .routeDeadlineExpiry _ | .tailEnd | .beamBroken | .beamClear
  | .dropBlocked | .traceSample _ | .supplyDefer | .probeSample _ _ _ | .zoneHeld _
  | .limpPhaseEnd _ | .offTimerExpiry | .startWindowEnd | .compressorStop | .condenserRunOnEnd
  | .defrostPending | .heatTimerExpiry | .dripTimerExpiry | .dimEntry | .economyEntry
  | .timeOfWeekTick | .selectionTableWrite _ _ _ | .coinTableWrite _ _ _ _ _
  | .noteTableWrite _ _ _ _ _ | .tubeConfigurationWrite _ _ _ _ _ | .nodeTableWrite _ _ _ _ _ _
  | .dispositionTableWrite _ _ _ _ _ _ _ | .faultDispositionWrite _ _ _
  | .creditSettingsWrite _ _ _ _ | .changeSettingsWrite _ _ _ _
  | .supplySettingsWrite _ _ _ _ _ _ _ | .driveSettingsWrite _ _ _ _ _ _ | .zoneTableWrite _ _ _ _
  | .refrigerationSettingsWrite _ _ _ _ _ _ | .saleHoldTableWrite _ _ _ _ _
  | .economySettingsWrite _ _ _ _ _ _ _ | .scheduleTableWrite _ _ _ _ _ _ | .tableRead _ _ _
  | .recordRead _ _ _ | .modeSetService _ | .modeSetSelling _ | .tubeSet _ _ _
  | .tubeDispense _ _ _ | .creditClear _ | .saleRelease _ _ | .faultClear _ _ | .settleClear _ _
  | .timeSet _ _ | .traceRelease _ | .portRestart _ _ | .defrostNow _ | .restart _ => true

end Sys2Proof
end

