-- ==== Sys2Proof/Tests/Slice0.lean ====
section
/-! SUPPORT. The tests: the smoke test of WellFormed, the worked figures of the spec, and for each statement
a witness that its hypotheses can be met, each clause at a boundary value where it has one. Expected values
are the spec's own; each test names the section it is taken from. -/

namespace Sys2Proof.Tests

open Sys2Proof.Machine

set_option Elab.async false

/-! ## The well-formedness check -/

/-- A frame of 41 payload bytes is refused, one of 40 is not (R161). -/
theorem test_wellFormed_payload :
    (Instr.goodFrame 0 24 1 0x50 (List.replicate 41 0)).wellFormed = false ∧
    (Instr.goodFrame 0 24 1 0x50 (List.replicate 40 0)).wellFormed = true := by decide +kernel

/-- A sixth turn of a drive is refused, the fifth is not (R51, R90). -/
theorem test_wellFormed_turn :
    (Instr.turnTimerExpiry { tag := 0, turn := 5, motor := .a }).wellFormed = false ∧
    (Instr.turnTimerExpiry { tag := 0, turn := 4, motor := .a }).wellFormed = true := by decide +kernel

/-- No word spells a command: the table gives no row any bits. -/
theorem test_no_word : decodeTableWord 8 0 = none ∧ (State.reset.withFetchWord 8 0).pending = [] := by
  decide +kernel

/-! ## States of the tests -/

/-- What a command leads to. -/
def led (c : Instr) (s : State) : State :=
  match exec c s with
  | .next t => t
  | .fault _ | .refused _ => s

/-- A coin class that goes to a tube. -/
def coin (value : Nat) (t : Nat) : CoinEntry := { value := value, policy := .always, tube := some (Fin.ofNat 6 t) }

/-- A tube with a class and a count, full level 80. -/
def tube (cls count : Nat) : Tube :=
  { cls := some (Fin.ofNat 16 cls), capacity := 100, fullLevel := 80, count := count, overfill := 0, flap := .tube }

/-- A SPIRAL selection of one turn in zone NONE. -/
def spiral (price : Nat) : Selection := { Reset.selection with enabled := true, price := price }

/-- The four nodes of the examples: the controller on U, validator, note reader and card reader on D1 to D3. -/
def nodes : Vector Node 16 :=
  Vector.ofFn fun i =>
    ([({ valid := true, node := 1, port := 0, role := .machineController } : Node),
      { valid := true, node := 2, port := 1, role := .coinValidator },
      { valid := true, node := 3, port := 2, role := .noteReader },
      { valid := true, node := 4, port := 3, role := .cardReader }])[i.val]?.getD
      { valid := false, node := 1, port := 0, role := .other }

/-- The coins, tubes and selections of the worked figures (sections 1.4.3 and 2.5.3), in SELLING with the door
closed and no report waiting. -/
def selling : State :=
  let r := State.reset
  let sel : Vector Selection 96 := Vector.ofFn fun i =>
    if i.val = 12 then spiral 120
    else if i.val = 40 then { spiral 150 with zone := some 0, motorA := { row := 4, col := 0 } }
    else if i.val = 60 then
      { spiral 200 with kind := .twinSpiral, motorA := { row := 4, col := 2 }, motorB := some 3, trace := true }
    else Reset.selection
  let none : Tube := { cls := none, capacity := 100, fullLevel := 80, count := 0, overfill := 0, flap := .tube }
  let unused : CoinEntry := { value := 0, policy := .never, tube := Option.none }
  { r with
    money := { r.money with
      credit := { r.money.credit with cash := 150 }
      totals := { r.money.totals with deposited := 150 }
      notes := r.money.notes.set 2 { value := 500, enabled := true, changeTest := true } }
    coins := { r.coins with
      table := #v[coin 100 0, coin 50 1, coin 20 2, coin 10 3, unused, unused, unused, unused, unused, unused,
        unused, unused, unused, unused, unused, unused]
      tubes := #v[tube 0 3, tube 1 4, tube 2 10, tube 3 0, none, none] }
    vend := { r.vend with selections := sel, sales := .selling, doorOpen := false }
    link := { r.link with nodes := nodes }
    events := { queue := [], lost := 0 } }

/-- The same in SERVICE. -/
def service : State := { selling with vend := { selling.vend with sales := .service } }

/-- A state with another count in tube 2. -/
def withTube2 (n : Nat) (s : State) : State := s.mapTube 2 fun x => { x with count := n }

/-- An entry for selection 12. -/
def entry (tag : Byte) (funds : Funds) (driving : Bool) : Entry :=
  { tag := tag, selection := 12, price := 120, funds := funds, driving := driving }

/-- A drive of tag 0 in its only turn. -/
def drive (x : Selection) : Drive := { newDrive 0 x .clear with a := { on := true, turn := .leaving, timerMs := 8000 } }

/-- Selection 12 driven under tag 0 with the vend claim granted. -/
def driving : State :=
  { selling with
    vend := { selling.vend with queue := [entry 0 .cash true] }
    money := { selling.money with credit := { selling.money.credit with committed := 120 } }
    drive := { selling.drive with
      phase := .energised, record := some (drive (spiral 120)), monitor := .clear, lastTag := 0 }
    supply := { selling.supply with vend := { state := .granted, cost := 3, held := 3 } } }

/-- The drive record of a state is changed. -/
def drivesWith (s : State) (f : Drive → Drive) : State :=
  s.mapDrive fun d => { d with record := d.record.map f }

/-- A fault record. -/
def fault (k : FaultKind) (subject : Nat) (present : Bool) : FaultRecord :=
  { kind := k, subject := subject, firstSeen := noTime, count := 1, present := present, storeOrder := 0,
    reportOrder := 0 }

/-- A state with a fault record at a place. -/
def withFault (p : Fin 24) (r : FaultRecord) (s : State) : State :=
  s.mapFaults fun f => { f with places := f.places.set p (some r), nextOrder := f.nextOrder + 1 }

/-- A list whose 24 places hold a record of this kind and condition. -/
def fullList (k : FaultKind) (present : Bool) (s : State) : State :=
  s.mapFaults fun f => { f with places := Vector.ofFn fun p => some (fault k p present), nextOrder := 24 }

/-- The engine of a state. -/
def withEngine (e : Engine) (s : State) : State := s.mapEngine fun _ => e

/-- A change run of one 20-unit coin from tube 2. -/
def run (phase : EnginePhase) : Engine :=
  { manual := false, phase := phase, timerMs := 40, plan := [(2, 1)], remainder := 0, current := some 2,
    excluded := [], paid := 0, startWaiting := false }

/-- A port's frame that no rule minds. -/
def filler : TxFrame := { frame := { dest := 1, src := 24, type := 0x90, payload := [] }, kind := .reply }

/-- A state whose port U has this many replies queued. -/
def busyU (n : Nat) (s : State) : State := s.mapPort 0 fun q => { q with tx := List.replicate n filler }

/-- Whether a frame of this kind, type and payload stands last in a port's queue. -/
def lastIn (p : PortId) (type : Byte) (payload : List Byte) (s : State) : Bool :=
  ((s.port p).tx.getLast?.map fun f => f.frame.type == type && f.frame.payload == payload).getD false

/-! ## Credit (chapter 1) -/

/-- Section 11.1.2: COIN-IN of a 100-unit coin with C at 150 gives C 250 and CREDIT (250). -/
theorem test_coinIn_credits :
    (led (.coinIn 0) selling).money.credit.cash = 250 ∧
    (led (.coinIn 0) selling).coins.inflight.length = 1 ∧
    reports (led (.coinIn 0) selling) = [[0x10, 0, 0, 0, 0, 250, 0xFF, 0xFF, 0xFF, 0xFF]] := by decide +kernel

/-- Section 1.4.3: the change test of the 500-unit note passes, the part sends NOTE-STACK (2). -/
theorem test_noteHeld_stacks :
    (led (.noteHeld 2) selling).money.escrow.state = .decidedStack ∧
    lastIn 2 0x68 [2] (led (.noteHeld 2) selling) = true := by decide +kernel

/-- Section 1.4.3, tube 2 at count 0: the test fails, the part sends NOTE-RETURN (2). -/
theorem test_noteHeld_returns :
    (led (.noteHeld 2) (withTube2 0 selling)).money.escrow.state = .decidedReturn ∧
    lastIn 2 0x69 [2] (led (.noteHeld 2) (withTube2 0 selling)) = true := by decide +kernel

/-- Section 11.3: the timer makes the note UNCERTAIN, the late confirmation credits its value. -/
theorem test_note_late :
    let s := led .noteEscrowTimerExpiry (led (.noteHeld 2) selling)
    s.money.escrow.state = .uncertain ∧ (led (.noteStacked 2) s).money.credit.cash = 650 ∧
    (led (.noteStacked 2) s).money.escrow.state = .none := by decide +kernel

/-- Section 11.2.2: CREDIT-RETURN of 170 moves it to Q, and the plan is 1 × 100, 1 × 50, 1 × 20. -/
theorem test_creditReturn :
    let s := { selling with money := { selling.money with credit := { selling.money.credit with cash := 170 } } }
    (led .creditReturn s).money.credit.cash = 0 ∧ (led .creditReturn s).money.credit.payout = 170 ∧
    (led .creditReturn s).coins.engine.plan = [(0, 1), (1, 1), (2, 1)] := by decide +kernel

/-- R21: the held lever gives one request. -/
theorem test_lever_once :
    (led .coinReturnLeverPress selling).money.leverArmed = false ∧
    (led .coinReturnLeverRelease (led .coinReturnLeverPress selling)).money.leverArmed = true := by decide +kernel

/-- R12, R13: FUNDS opens a session and SESSION-END closes it. -/
theorem test_card_session :
    (led (.funds 500) selling).money.credit.funds = some 500 ∧
    (led .sessionEnd (led (.funds 500) selling)).money.credit.session = .none := by decide +kernel

/-- R152: with its record the SETTLE that waits leaves the pending list, and what waits beside it stays. -/
theorem test_settle_leaves_pending :
    let settle (tag : Byte) : Frame := { dest := 4, src := 24, type := 0x78, payload := [tag, 12, 0, 120] }
    let record (tag : Byte) : Settlement :=
      { tag := tag, selection := 12, amount := 120, state := .unconfirmed, timerMs := 0 }
    let s := (selling.mapMoney fun m => { m with settlements := [record 5, record 6] }).mapPort 3 fun q =>
      { q with state := .quiet, waiting := [settle 5, settle 6] }
    ((led (.settleAck 5) s).port 3).waiting = [settle 6] ∧
    ((led (.settleClear 1 6) s).port 3).waiting = [settle 5] ∧
    ((led (.settleAck 7) s).port 3).waiting = [settle 5, settle 6] := by decide +kernel

/-! ## Coin tubes and change (chapter 2) -/

/-- Section 2.5.3, case 1: 60 is paid by 3 × 20. -/
theorem test_plan_case1 : payoutPlan [] 60 selling = ([(2, 3)], 0) := by decide +kernel

/-- Section 2.5.3, case 2: 370 with two 20s is 3 × 100, 1 × 50, 1 × 20. -/
theorem test_plan_case2 : payoutPlan [] 370 (withTube2 2 selling) = ([(0, 3), (1, 1), (2, 1)], 0) := by
  decide +kernel

/-- Section 1.4.3: 530 is 3 × 100, 3 × 50, 4 × 20. -/
theorem test_plan_530 : payoutPlan [] 530 selling = ([(0, 3), (1, 3), (2, 4)], 0) := by decide +kernel

/-- Section 1.4.3, tube 2 empty: the plan is stage A with remainder 30. -/
theorem test_plan_remainder : payoutPlan [] 530 (withTube2 0 selling) = ([(0, 3), (1, 4)], 30) := by
  decide +kernel

/-- Section 2.7.1: assured with ten 20s up to 100, and 60 is the first failing amount with two. -/
theorem test_assurance :
    let s := selling.mapCoins fun c => { c with ceiling := 100 }
    shortfall s = none ∧ shortfall (withTube2 2 s) = some 60 := by decide +kernel

/-- Section 2.6.1: START for 60 dispenses from tube 2, and the exit pulse takes the coin. -/
theorem test_payout_cycle :
    let s := start (selling.mapCredit fun c => { c with payout := 60 })
    let t := led .exitPulse (led .solenoidPulseEnd s)
    s.coins.engine.current = some 2 ∧ t.coins.tubes[(2 : TubeId)].count = 9 ∧ t.money.credit.payout = 40 ∧
    t.coins.engine.paid = 20 ∧ t.coins.engine.phase = .gap ∧
    (led .gapEnd t).coins.engine.phase = .pulse := by decide +kernel

/-- Section 11.2.2: no exit pulse in the wait jams tube 2, whose flap goes to CASHBOX. -/
theorem test_jam :
    let t := led .exitWaitExpiry (led .solenoidPulseEnd (start (selling.mapCredit fun c => { c with payout := 60 })))
    jammed 2 t = true ∧ t.coins.tubes[(2 : TubeId)].flap = .cashbox ∧ t.coins.engine.excluded = [2] := by
  decide +kernel

/-- R32, R34: the pulse takes the record of its route; a deadline without one is ROUTE-LOST. -/
theorem test_route :
    (led (.tinPulse 0) (led (.coinIn 0) selling)).coins.tubes[(0 : TubeId)].count = 4 ∧
    (led (.tinPulse 0) (led (.coinIn 0) selling)).coins.inflight = [] ∧
    ((led (.routeDeadlineExpiry 0) (led (.coinIn 0) selling)).faults.places[(0 : Fin 24)]).map (·.kind)
      = some .routeLost := by decide +kernel

/-- R33: the cash box pulse without a record is UNCLAIMED-COIN (6; 0). -/
theorem test_cbin_unclaimed :
    reports (led .cbinPulse selling) = [[0x21, 6, 0, 0, 0, 0, 0xFF, 0xFF, 0xFF, 0xFF]] := by decide +kernel

/-- R28, R45: TUBE-SET and TUBE-DISPENSE in SERVICE. -/
theorem test_tube_requests :
    (led (.tubeSet 1 3 7) service).coins.tubes[(3 : TubeId)].count = 7 ∧
    (led (.tubeDispense 1 2 5) service).coins.engine.plan = [(2, 5)] ∧
    (led (.tubeDispense 1 2 5) service).coins.engine.manual = true := by decide +kernel

/-! ## Selections and vending (chapter 3) -/

/-- Section 3.7: with C 300 the first SELECT drives at once and the second waits, K 270. -/
theorem test_select_two :
    let s := selling.mapCredit fun c => { c with cash := 300, vendMode := .multi }
    let t := led (.select 40 1) (led (.select 12 0) s)
    t.money.credit.committed = 270 ∧ t.vend.queue.map (fun e => (e.tag, e.driving)) = [(0, true), (1, false)] ∧
    t.supply.vend.state = .granted := by decide +kernel

/-- Section 3.7: the third SELECT finds C − K = 30 and is refused with CREDIT, code 7. -/
theorem test_select_refused :
    let s := (selling.mapCredit fun c => { c with cash := 300, vendMode := .multi })
    let t := (led (.select 40 1) (led (.select 12 0) s)).mapPort 0 fun q => { q with tx := [] }
    reports (led (.select 40 1) t) = [[0x31, 40, 0, 0, 0, 7, 0xFF, 0xFF, 0xFF, 0xFF]] := by decide +kernel

/-- Section 3.7: the open door suspends with cause DOOR. -/
theorem test_door_suspends :
    (led (.doorChange true) selling).vend.sales = .suspended ∧
    (led (.doorChange false) (led (.doorChange true) selling)).vend.sales = .selling := by decide +kernel

/-- Section 11.1.2: DELIVERED in SINGLE mode charges 120 of 150 and moves 30 to Q, which cannot be paid
whole by the tubes, so that the plan pays one 20 and the last 10 is its remainder. -/
theorem test_delivered :
    let t := vendOutcome 0 .delivered driving
    t.money.totals.sales = 120 ∧ t.money.credit.cash = 0 ∧ t.money.credit.payout = 30 ∧
    t.coins.engine.plan = [(2, 1)] ∧ t.coins.engine.remainder = 10 ∧ t.vend.queue = [] := by decide +kernel

/-- R14, R19: a card-funded delivery lowers F and KC by 120 and sends SETTLE to the card reader; section 3.6: a
motor fault charges nothing and releases K. -/
theorem test_card_delivery_and_release :
    let s := { driving with
      vend := { driving.vend with queue := [entry 0 .card true] }
      money := { driving.money with credit := { driving.money.credit with
        committed := 0, session := .opened, funds := some 500, cardCommitted := 120 } } }
    let t := vendOutcome 0 .delivered s
    t.money.credit.funds = some 380 ∧ t.money.credit.cardCommitted = 0 ∧ t.money.credit.cash = 150 ∧
    lastIn 3 0x78 [0, 12, 0, 120] t = true ∧
    (vendOutcome 0 .motorFault s).money.credit.funds = some 500 ∧
    (vendOutcome 0 .motorFault s).money.credit.cardCommitted = 0 ∧
    (vendOutcome 0 .motorFault driving).money.credit.committed = 0 ∧
    (vendOutcome 0 .motorFault driving).money.credit.cash = 150 := by decide +kernel

/-- R64: CANCEL of a WAITING entry returns its commitment. -/
theorem test_cancel :
    let s := { driving with
      vend := { driving.vend with queue := [entry 0 .cash true, entry 1 .cash false] }
      money := { driving.money with credit := { driving.money.credit with cash := 300, committed := 240 } } }
    (led (.cancel 1 1) s).vend.queue = [entry 0 .cash true] ∧
    (led (.cancel 1 1) s).money.credit.committed = 120 ∧ (led (.cancel 1 0) s).vend.queue = s.vend.queue := by
  decide +kernel

/-- R57, R58: after cold reset MODE-SET SELLING finds no MACHINE-CONTROLLER entry: CONFLICT, table 4, index
0xFF. -/
theorem test_mode_conflict :
    lastIn 0 0x33 [0x42, 4, 4, 0xFF] 
      (led (.modeSetSelling 1) { State.reset with events := { queue := [], lost := 0 } }) = true := by decide +kernel

/-- R57: with consistent tables SERVICE becomes SELLING. -/
theorem test_mode_selling : (led (.modeSetSelling 1) service).vend.sales = .selling := by decide +kernel

/-! ## Spiral matrix drive (chapter 4) -/

/-- Section 4.8: LEAVING, AWAY, then the end of the last turn begins the 1,200 ms tail. -/
theorem test_turn :
    let t := led (.motorTurnEnd .a) (led (.switchSeenOpen { tag := 0, motor := .a }) driving)
    t.drive.phase = .tail ∧ t.drive.record.map (·.phaseMs) = some 1200 ∧
    t.drive.record.map (·.turnsDone) = some 1 ∧ driveSet t.drive = none := by decide +kernel

/-- Section 4.8: a drop in the tail ends the drive DELIVERED. -/
theorem test_drop_delivers :
    (led .beamBroken (led (.motorTurnEnd .a) (led (.switchSeenOpen { tag := 0, motor := .a }) driving))).vend.lastOutcome.map (·.outcome)
      = some .delivered := by decide +kernel

/-- Section 4.8: the tail without a drop and without a retry ends NOT-DELIVERED; the selection is EMPTY. -/
theorem test_tail_empty :
    let t := led .tailEnd (led (.motorTurnEnd .a) (led (.switchSeenOpen { tag := 0, motor := .a }) driving))
    t.vend.selections[(12 : Fin 96)].empty = true ∧ t.vend.selections[(12 : Fin 96)].failCount = 1 := by
  decide +kernel

/-- Section 4.9: at 1,300 mA the fifteenth sample of a single motor is the stall. -/
theorem test_stall :
    let s := driving.mapDrive fun d => { d with stallRun := 14 }
    (led (.currentSample 130) s).drive.phase = .idle ∧
    (led (.currentSample 130) s).vend.lastOutcome.map (·.outcome) = some .motorFault ∧
    (led (.currentSample 119) s).drive.stallRun = 0 := by decide +kernel

/-- R84: the timer of another drive or of a turn that has ended has no effect; that of the turn under way is
HOME-LOST. -/
theorem test_stale_turn_timer :
    (led (.turnTimerExpiry { tag := 1, turn := 0, motor := .a }) driving).drive.phase = .energised ∧
    (led (.turnTimerExpiry { tag := 0, turn := 1, motor := .a }) driving).drive.phase = .energised ∧
    ((led (.turnTimerExpiry { tag := 0, turn := 0, motor := .a }) driving).faults.places[(0 : Fin 24)]).map (·.kind)
      = some .motorHomeLost := by decide +kernel

/-- R91: the beam blocked for 2 s records DROP-BLOCKED, and a drive without a drop loses VERIFY. -/
theorem test_blocked :
    let t := led .dropBlocked (driving.mapDrive fun d => { d with monitor := .broken })
    t.drive.monitor = .blocked ∧ t.drive.record.map (·.verify) = some false ∧
    isolated .curtain t.faults = true := by decide +kernel

/-- R94: the 64th sample makes the trace FULL. -/
theorem test_trace_full :
    let s := driving.mapDrive fun d =>
      { d with trace := { d.trace with state := .filling, samples := List.replicate 63 0 } }
    (led (.traceSample 7) s).drive.trace.state = .full ∧
    (led (.traceRelease 1) (led (.traceSample 7) s)).drive.trace.state = .free := by decide +kernel

/-! ## Supply budget (chapter 5) -/

/-- Section 5.3.1: the twin vend of 6 points waits behind the starting compressor and starts at the shrink. -/
theorem test_twin_behind_start :
    let s := placeCompressor (selling.mapCooling fun c =>
      { c with compressor := { c.compressor with state := .waitingPower } })
    let t := led (.select 60 1) (s.mapCredit fun c => { c with cash := 200 })
    let u := led .startWindowEnd t
    pointsGranted s.supply = 8 ∧ t.supply.vend.state = .waiting ∧ t.supply.vend.cost = 6 ∧
    u.supply.vend.state = .granted ∧ pointsGranted u.supply = 10 ∧ freePoints u.supply = 2 ∧
    u.vend.queue.map (·.driving) = [true] := by decide +kernel

/-- Section 5.6.1: RANGE, BUSY and DONE of three budget writes with 7 points granted. -/
theorem test_budget_writes :
    let s := { service with supply := { service.supply with
      vend := { state := .granted, cost := 3, held := 3 }
      compressor := { state := .granted, cost := 8, held := 4 } } }
    lastIn 0 0x33 [0x40, 3] (led (.supplySettingsWrite 1 0 6 3 8 4 6) s) = true ∧
    lastIn 0 0x33 [0x40, 2] (led (.supplySettingsWrite 1 0 6 3 6 4 6) s) = true ∧
    lastIn 0 0x33 [0x40, 0, 9, 0] (led (.supplySettingsWrite 1 0 8 4 7 3 6) s) = true ∧
    freePoints (led (.supplySettingsWrite 1 0 8 4 7 3 6) s).supply = 1 := by decide +kernel

/-- R99, R102, R160: the wait time of a claim that was granted after 7 s is read in two bytes, and a new
placement begins it again. -/
theorem test_wait_time :
    let s := { selling with supply := { selling.supply with
      compressor := { state := .waiting, cost := 8, held := 0 }, waitMs := 7999 } }
    ((recordBlock 5 1 (consider s)).map fun b => (b.drop 6).take 4) = some [2, 8, 0, 7] ∧
    (placeCompressor (withdrawCompressor { s with cooling := s.cooling })).supply.waitMs = 0 := by decide +kernel

/-- Section 11.4: 30 s of waiting set deferring, SUPPLY-DEFER (0; 6). -/
theorem test_supply_defer :
    let s := { selling with supply := { selling.supply with
      vend := { state := .granted, cost := 6, held := 6 }
      compressor := { state := .waiting, cost := 8, held := 0 }, waitMs := 29000 } }
    (led .supplyDefer s).supply.deferring = true ∧
    (led .supplyDefer (s.mapSupply fun p => { p with waitMs := 28999 })).supply.deferring = false ∧
    reports (led .supplyDefer s) = [[0x40, 0, 0, 0, 0, 6, 0xFF, 0xFF, 0xFF, 0xFF]] := by decide +kernel

/-! ## Refrigeration (chapter 6) -/

/-- A VALID probe channel. -/
def valid (f : Int) : Probe := { raw := f, filtered := f, state := .valid }

/-- Section 6.1.2: F goes 52, 53, 52, 51, 51. -/
theorem test_filter :
    ((valid 52).sample 60).filtered = 53 ∧ ((valid 53).sample 48).filtered = 52 ∧
    ((valid 52).sample 39).filtered = 51 ∧ ((valid 51).sample 51).filtered = 51 := by decide +kernel

/-- Section 6.2.2: the effective setpoints in ECONOMY. -/
theorem test_effective_setpoints :
    effectiveOf 40 80 30 .economy = 70 ∧ effectiveOf 120 180 30 .economy = 150 ∧
    effectiveOf 40 60 30 .economy = 50 ∧ effectiveOf 100 80 30 .economy = 100 := by decide +kernel

/-- R117, R118: the off timer makes READY, and a demand then starts the compressor at 8 points. -/
theorem test_compressor_starts :
    let s := selling.mapZone 0 fun z => { z with demand := true }
    (led .offTimerExpiry s).cooling.compressor.state = .starting ∧
    (led .offTimerExpiry s).supply.compressor.held = 8 ∧
    (outputs (led .offTimerExpiry s)).comp = true := by decide +kernel

/-- R120: the second that completes 60 s of on time stops a compressor without demand, an earlier one does not. -/
theorem test_minimum_on_time :
    let s (on : Nat) : State := { selling with
      supply := { selling.supply with compressor := { state := .granted, cost := 8, held := 4 } }
      cooling := { selling.cooling with
        compressor := { selling.cooling.compressor with state := .running, relay := true, onMs := on } } }
    (led .compressorStop (s 59000)).cooling.compressor.state = .locked ∧
    (led .compressorStop (s 58999)).cooling.compressor.state = .running := by decide +kernel

/-- R123, R125: DEFROST-NOW with the compressor LOCKED heats at once under its claim; drip and end follow. -/
theorem test_defrost :
    let t := led (.defrostNow 1) selling
    t.cooling.defrost.state = .heating ∧ t.cooling.defrost.heater = true ∧ t.supply.heater.held = 6 ∧
    (led .heatTimerExpiry t).cooling.defrost.state = .dripping ∧
    (led .dripTimerExpiry (led .heatTimerExpiry t)).cooling.defrost.state = .none := by decide +kernel

/-- R113: an open probe (above +85.0 °C) begins the limp cycle with demand on. -/
theorem test_limp :
    let t := led (.probeSample 851 (-400) 850) selling
    t.cooling.probes[(0 : Fin 3)].state = .faultedOpen ∧ t.cooling.zones[(0 : ZoneId)].demand = true ∧
    t.cooling.zones[(0 : ZoneId)].limp = some { on := true, leftMs := 480000 } ∧
    t.cooling.probes[(1 : Fin 3)].state = .valid ∧
    (led (.limpPhaseEnd 0) t).cooling.zones[(0 : ZoneId)].demand = false := by decide +kernel

/-- R114, R122: with demand in zone A its damper is open and the evaporator fan runs, in HEATING neither. -/
theorem test_dampers_and_fans :
    let s := selling.mapZone 0 fun z => { z with demand := true }
    let hot := s.mapCooling fun c => { c with defrost := { c.defrost with state := .heating } }
    ((outputs s).dampA, (outputs s).dampB, (outputs s).efan, (outputs s).cfan) = (true, false, true, false) ∧
    ((outputs hot).dampA, (outputs hot).efan) = (false, false) := by decide +kernel

/-! ## Sale hold and economy (chapter 7) -/

/-- Section 7.1.6: the accumulator reaches 60 with F at 85, ZONE-HELD removes the WAITING entry. -/
theorem test_zone_held :
    let waiting : Entry := { tag := 3, selection := 40, price := 150, funds := .cash, driving := false }
    let warm : Hold := { (Reset.hold true 80) with delay := 60, accumulator := 59 }
    let s := { driving with
      vend := { driving.vend with queue := [entry 0 .cash true, waiting] }
      cooling := { driving.cooling with probes := driving.cooling.probes.set 0 (valid 85) }
      cabinet := { driving.cabinet with holds := driving.cabinet.holds.set 0 warm } }
    let t := led (.zoneHeld 0) s
    t.cabinet.holds[(0 : ZoneId)].held = true ∧ t.cabinet.holds[(0 : ZoneId)].accumulator = 60 ∧
    t.vend.queue = [entry 0 .cash true] ∧ t.vend.lastOutcome.map (·.cause) = some (some .held) := by
  decide +kernel

/-- Section 7.3.3: window 0 covers Friday 22:00 to Saturday 06:00. -/
theorem test_overnight_window :
    let week (second : Nat) : Cabinet := { selling.cabinet with
      schedule := selling.cabinet.schedule.set 0
        { enabled := true, days := 0b0010000, startMinute := 1320, endMinute := 360 }
      clock := { valid := true, second := second, phaseMs := 0 } }
    inWindow (week 424799) = false ∧ inWindow (week 424800) = true ∧ inWindow (week 436200) = true ∧
    inWindow (week 453599) = true ∧ inWindow (week 453600) = false := by decide +kernel

/-- Section 7.3.3: the dim delay dims to 30 %, a coin wakes to 100 %. -/
theorem test_dim_and_wake :
    let s := selling.mapEconomy fun e => { e with quietMs := 299000 }
    (led .dimEntry s).cabinet.economy.lamp = 30 ∧
    (led (.coinIn 0) (led .dimEntry s)).cabinet.economy.state = .active ∧
    (led (.coinIn 0) (led .dimEntry s)).cabinet.economy.lamp = 100 := by decide +kernel

/-- R136: a coin and the rise to the dim delay end ACTIVE with quiet time 0 in either order. -/
theorem test_dim_race :
    let s := selling.mapEconomy fun e => { e with quietMs := 299000 }
    let after (t : State) : EconomyState × Nat := (t.cabinet.economy.state, t.cabinet.economy.quietMs)
    after (led .dimEntry (led (.coinIn 0) s)) = (.active, 0) ∧
    after (led (.coinIn 0) (led .dimEntry s)) = (.active, 0) := by decide +kernel

/-- R123: a write that raises the interval before the accumulator reaches it leaves the defrost NONE. -/
theorem test_defrost_interval_raised :
    let s := selling.mapCooling fun c => { c with compressor :=
      { c.compressor with state := .running, relay := true, accumulatorMs := 21599000 } }
    (led .defrostPending s).cooling.defrost.state = .pending ∧
    (led .defrostPending (led (.refrigerationSettingsWrite 1 0 8 12 7 80) s)).cooling.defrost.state = .none := by
  decide +kernel

/-- R143: 604799 is followed by 0. -/
theorem test_week_wraps :
    (led .timeOfWeekTick (led (.timeSet 1 604799) selling)).cabinet.clock.second = 0 := by decide +kernel

/-! ## Cabinet link (chapter 8) -/

/-- Section 8.1.1: FUNDS of 42,406 from node 7 to node 25 on the line. -/
theorem test_escapes :
    (lineBytes { dest := 0x19, src := 0x07, type := 0x70, payload := [0xA5, 0xA6] }).take 9
      = [0xA5, 0x19, 0x07, 0x70, 0x02, 0xA6, 0x05, 0xA6, 0x06] := by decide +kernel

/-- The published check value of this CRC (polynomial 0x1021, initial value 0xFFFF) over "123456789". -/
theorem test_crc : crc [0x31, 0x32, 0x33, 0x34, 0x35, 0x36, 0x37, 0x38, 0x39] = 0x29B1 := by decide +kernel

/-- R147, R148: the eighth bad frame warns at 64, and 192 makes the port QUIET with PORT-QUIET. -/
theorem test_bad_frames :
    let at_ (state : PortState) (n : Nat) := selling.mapPort 3 fun q => { q with state := state, score := n }
    ((led (.badFrame 3 .crc) (at_ .active 56)).port 3).state = .warned ∧
    ((led (.badFrame 3 .crc) (at_ .warned 184)).port 3).state = .quiet ∧
    ((led (.frameGapExpiry 3) (at_ .warned 184)).faults.places[(0 : Fin 24)]).map (·.kind) = some .portQuiet := by
  decide +kernel

/-- R149: the 32nd good frame brings the port back and is not acted upon. -/
theorem test_recovery :
    let s := selling.mapPort 1 fun q => { q with state := .quiet, score := 192, recovery := 31 }
    let t := led (.goodFrame 1 24 2 0x50 [0]) s
    (t.port 1).state = .active ∧ (t.port 1).score = 0 ∧ t.money.credit.cash = 150 := by decide +kernel

/-- R155, R158: COIN-IN from the validator on its port is credited, from another node it is ROLE-MISMATCH. -/
theorem test_good_frame_roles :
    (led (.goodFrame 1 24 2 0x50 [0]) selling).money.credit.cash = 250 ∧
    (led (.goodFrame 1 24 3 0x50 [0]) selling).money.credit.cash = 150 ∧
    reports (led (.goodFrame 1 24 3 0x50 [0]) selling) = [[0x62, 3, 0, 0, 0, 0x50, 0xFF, 0xFF, 0xFF, 0xFF]] := by
  decide +kernel

/-- R158: a frame to node 4 is forwarded to D3, and a broadcast to the other three ports. -/
theorem test_forwarding :
    ((led (.goodFrame 1 4 2 0x90 []) selling).port 3).tx.length = 1 ∧
    ((led (.goodFrame 1 0 2 0x90 []) selling).link.ports.map (·.tx.length)) = #v[1, 0, 1, 1] ∧
    ((led (.goodFrame 1 9 2 0x90 []) selling).port 1).unroutable = 1 := by decide +kernel

/-- R150: the sixth place is a REPLY's, the next request waits in the hold, and a sent frame lets it in. -/
theorem test_request_hold :
    let held := led (.tableRead 1 0 0) (busyU 6 selling)
    ((led (.tableRead 1 0 0) (busyU 5 selling)).port 0).tx.length = 6 ∧ held.link.hold.isSome = true ∧
    (led (.frameSent 0) held).link.hold = none ∧ ((led (.frameSent 0) held).port 0).tx.length = 6 := by
  decide +kernel

/-- R150: the ACCEPT-SET that a node write sends to port U gives the last place up to the write's REPLY. -/
theorem test_reply_place :
    let t := led (.nodeTableWrite 1 1 1 7 0 1) (busyU 5 service)
    (t.port 0).tx.length = 6 ∧ ((t.port 0).tx.getLast?.map (·.kind)) = some .reply ∧
    (t.port 0).waiting.map (·.type) = [0x58] := by decide +kernel

/-! ## Table and record access (chapter 10) -/

/-- A selection entry as written: SPIRAL at row 3 column 5, price 140. -/
def written27 : SelectionEntry :=
  { enabled := 1, price := 140, kind := 0, rowA := 3, colA := 5, rowB := 0, colB := 0, turns := 2, runTime := 10,
    retries := 1, verify := 0, continuous := 0, trace := 0, zone := 0 }

/-- R52, R165, R176: the write is DONE and the read carries the entry, motor B absent, and the kept fields. -/
theorem test_selection_write_read :
    lastIn 0 0x33 [0x41, 0, 0, 27, 1, 0, 140, 0, 3, 5, 0xFF, 0xFF, 2, 10, 1, 0, 0, 0, 0, 0, 0, 0, 0]
      (led (.tableRead 1 0 27) (led (.selectionTableWrite 1 27 written27) service)) = true ∧
    lastIn 0 0x33 [0x40, 1] (led (.selectionTableWrite 1 27 written27) selling) = true := by decide +kernel

/-- R26, R5, R27, R154: coin, note, tube and node entries written in SERVICE. -/
theorem test_restricted_writes :
    (led (.coinTableWrite 1 4 200 1 6) service).coins.table[(4 : Fin 16)]
      = { value := 200, policy := .whenAssured, tube := none } ∧
    (led (.noteTableWrite 1 7 1000 1 0) service).money.notes[(7 : Fin 8)]
      = { value := 1000, enabled := true, changeTest := true } ∧
    (led (.tubeConfigurationWrite 1 5 4 50 40) service).coins.tubes[(5 : TubeId)].capacity = 50 ∧
    (led (.nodeTableWrite 1 9 1 8 3 4) service).link.nodes[(9 : Fin 16)]
      = { valid := true, node := 8, port := 3, role := .cabinet } ∧
    (led (.driveSettingsWrite 1 0 1500 200 1 4) service).drive.settings
      = { threshold := 1500, stallMs := 200, form := .fine, number := 4 } := by decide +kernel

/-- R23, R36, R110, R129, R134, R141, R156, R167: entries written in SELLING. -/
theorem test_any_state_writes :
    (led (.creditSettingsWrite 1 0 1000 1) selling).money.credit.limit = 1000 ∧
    (led (.changeSettingsWrite 1 0 40 2000) selling).coins.allowance = 40 ∧
    (led (.zoneTableWrite 1 0 50 20) selling).cooling.zones[(0 : ZoneId)].effective = 50 ∧
    (led (.refrigerationSettingsWrite 1 0 5 6 7 90) selling).cooling.intervalH = 7 ∧
    (led (.saleHoldTableWrite 1 0 1 90 60) selling).cabinet.holds[(0 : ZoneId)].delay = 60 ∧
    (led (.economySettingsWrite 1 0 63 10 60 20 30) selling).cabinet.economy.dimLevel = 20 ∧
    (led (.scheduleTableWrite 1 0 1 16 1320 360) selling).cabinet.schedule[(0 : Fin 8)].startMinute = 1320 ∧
    (led (.dispositionTableWrite 1 0 1 0x90 2 3 3) selling).link.dispositions[(0 : Fin 32)].action = .drop ∧
    (led (.faultDispositionWrite 1 5 0) selling).faults.classes[(5 : Fin 12)] = .stop := by decide +kernel

/-- R176, R177: a table code above 0x10 and a record code above 0x0B are refused with RANGE. -/
theorem test_read_range :
    lastIn 0 0x33 [0x41, 3] (led (.tableRead 1 0x11 0) selling) = true ∧
    lastIn 0 0x33 [0x43, 3] (led (.recordRead 1 0x0C 0) selling) = true ∧
    lastIn 0 0x33 ([0x43, 0, 1, 0, 0, 0, 0, 150] ++ List.replicate 24 0) (led (.recordRead 1 1 0) selling) = true := by
  decide +kernel

/-- R178: PORT-RESTART of port 0 is refused, of a WARNED port it makes ACTIVE with score 0. -/
theorem test_port_restart :
    let s := selling.mapPort 2 fun q => { q with state := .warned, score := 100 }
    lastIn 0 0x33 [0x4C, 3] (led (.portRestart 1 0) s) = true ∧
    lastIn 0 0x33 [0x4C, 0, 1] (led (.portRestart 1 2) s) = true ∧
    ((led (.portRestart 1 2) s).port 2).score = 0 := by decide +kernel

/-! ## Fault list (chapter 9) -/

/-- Section 9.8: the jam takes the NOTE record's place, the stall is lost with OVERFLOW, the clear ends it. -/
theorem test_full_list :
    let s := withFault 23 (fault .tubeOverfill 3 false) (fullList .motorOpen false selling)
    let t := report .tubeJam 1 s
    let u := report .motorStall 35 t
    (t.faults.places[(23 : Fin 24)]).map (·.kind) = some .tubeJam ∧ jammed 1 t = true ∧
    u.faults.overflow = true ∧ u.vend.sales = .suspended ∧
    (led (.faultClear 1 23) u).faults.overflow = false ∧ jammed 1 (led (.faultClear 1 23) u) = false ∧
    (led (.faultClear 1 23) u).vend.sales = .selling := by decide +kernel

/-- R170: a repeat counts. -/
theorem test_repeat :
    ((report .defrostTimeout 0 (report .defrostTimeout 0 selling)).faults.places[(0 : Fin 24)]).map (·.count)
      = some 2 := by decide +kernel

/-! ## Resets (chapter 10) -/

/-- R181: own node 24 plus the straps, OFFLINE, and POWER-UP with value 1 for the reset pin. -/
theorem test_cold_reset :
    let t := led (.coldReset 3 (.returns .resetPin)) driving
    t.link.ownNode = 27 ∧ t.vend.sales = .offline ∧
    t.events.queue = [{ code := .powerUp, subject := 27, value := 1, time := 0xFFFFFFFF }] := by decide +kernel

/-- R181: while RESETn is low every output is off and a frame that arrives is ignored; the return acts. -/
theorem test_reset_low :
    let low := led (.coldReset 0 .goesLow) driving
    (outputs driving).row = some 0 ∧ outputs low = Outputs.off ∧ led (.coinIn 0) low = low ∧ tick low = low ∧
    (led (.coldReset 1 (.returns .resetPin)) low).resetLow = false ∧
    (led (.coldReset 1 (.returns .resetPin)) low).link.ownNode = 25 := by decide +kernel

/-- R21, R25: a lever pressed through the warm restart gives no request before it has been released. -/
theorem test_lever_after_restart :
    let s := led .warmRestart { selling with link := { selling.link with restartPending := true } }
    (led .coinReturnLeverPress s).money.credit.cash = 150 ∧
    (led .coinReturnLeverPress (led .coinReturnLeverRelease s)).money.credit.cash ≠ 150 := by decide +kernel

/-- R180: the warm restart aborts the drive without charge and begins the events with RESTART. -/
theorem test_warm_restart :
    let s := { driving with link := { driving.link with restartPending := true } }
    let t := led .warmRestart s
    t.vend.lastOutcome.map (·.outcome) = some .aborted ∧ t.money.credit.committed = 0 ∧
    t.money.credit.cash = 150 ∧ t.vend.sales = .service ∧ t.supply.vend.state = .absent ∧
    (reports t).head? = some [2, 0, 0, 0, 0, 0, 0xFF, 0xFF, 0xFF, 0xFF] := by decide +kernel

/-- R179: RESTART acts when its REPLY has been sent. -/
theorem test_restart_request :
    let t := led (.restart 1) selling
    t.link.restartPending = true ∧ (led (.frameSent 0) t).vend.sales = .service ∧
    (led (.frameSent 0) t).link.restartPending = false := by decide +kernel

/-! ## Witnesses: the hypotheses of each statement can be met

Each conjunct meets the hypotheses of one clause, at a boundary of its range where the clause has one. -/

/-- RESETn is high in the states that the witnesses are made of; none of their updates changes it. -/
theorem witness_resetHigh :
    State.reset.resetLow = false ∧ selling.resetLow = false ∧ service.resetLow = false ∧
    driving.resetLow = false := by decide +kernel

/-- A state with this credit record. -/
def credited (f : Credit → Credit) (s : State) : State := s.mapCredit f

/-- A state with this note escrow record. -/
def escrowed (e : EscrowState) (s : State) : State :=
  s.mapMoney fun m => { m with escrow := { state := e, cls := 2, value := 500, timerMs := 5000 } }

/-- A settlement record of tag 5. -/
def settlement (st : SettleState) : Settlement :=
  { tag := 5, selection := 12, amount := 120, state := st, timerMs := 10 }

/-- CoinInCreditsRoutesOrRefuses: room to the last unit, no room by one unit, no value, class 16. -/
theorem witness_coinIn :
    (let s := credited (fun c => { c with cash := 0xFFFFFF9B }) selling
     s.coins.table[(0 : Fin 16)].value ≠ 0 ∧
     s.money.credit.cash.toNat + s.money.credit.payout.toNat + s.coins.table[(0 : Fin 16)].value < 2 ^ 32) ∧
    (let s := credited (fun c => { c with cash := 0xFFFFFF9C }) selling
     2 ^ 32 ≤ s.money.credit.cash.toNat + s.money.credit.payout.toNat + s.coins.table[(0 : Fin 16)].value) ∧
    selling.coins.table[(5 : Fin 16)].value = 0 ∧ 16 ≤ (16 : Byte).toNat := by decide +kernel

/-- NoteHeldDecision: all conditions of STACK with C + w at the limit, a failing one, an occupied record,
and four pending decisions at the reader's port. -/
theorem witness_noteHeld :
    (let s := credited (fun c => { c with limit := 650 }) selling
     s.vend.sales = .selling ∧ s.money.notes[(2 : Fin 8)].enabled = true ∧
     s.money.notes[(2 : Fin 8)].value ≠ 0 ∧
     s.money.credit.cash.toNat + s.money.notes[(2 : Fin 8)].value ≤ s.money.credit.limit ∧
     changeTest s.money.notes[(2 : Fin 8)].value s = true ∧ s.money.escrow.state = .none ∧
     ((roleEntry .noteReader s.link).map fun m =>
       ((s.port m.port).waiting.filter isDecision).length) = some 0) ∧
    service.vend.sales ≠ .selling ∧ (escrowed .uncertain selling).money.escrow.state ≠ .none ∧
    (let s := selling.mapPort 2 fun q =>
       { q with waiting := List.replicate 4 { dest := 3, src := 24, type := 0x69, payload := [0] } }
     ((roleEntry .noteReader s.link).map fun m =>
       ((s.port m.port).waiting.filter isDecision).length) = some 4) := by decide +kernel

/-- ChangeTestByCheapestSelection and AssuranceByMultiplesOfSmallestValue: both sides of their equivalences, a
change either way, 60 as the third multiple of 20 and the first that fails, and no eligible tube. -/
theorem witness_changeTest_assurance :
    changeTest 500 selling = true ∧ changeTest 500 (withTube2 0 selling) = false ∧
    (let s := selling.mapCoins fun c => { c with ceiling := 100 }
     let few := withTube2 2 s
     let none := s.mapCoins fun c => { c with tubes := c.tubes.map fun t => { t with count := 0 } }
     s.coins.assured = true ∧ shortfall s = Option.none ∧ shortfall few ≠ Option.none ∧
     (s.mapCoins fun c => { c with assured := false }).coins.assured = false ∧
     eligible [] few 2 = true ∧ (∀ u, eligible [] few u = true → tubeValue 2 few.coins ≤ tubeValue u few.coins) ∧
     3 ≤ few.coins.ceiling / tubeValue 2 few.coins ∧ (payoutPlan [] (3 * tubeValue 2 few.coins) few).2 ≠ 0 ∧
     (payoutPlan [] (1 * tubeValue 2 few.coins) few).2 = 0 ∧ (payoutPlan [] (2 * tubeValue 2 few.coins) few).2 = 0 ∧
     (∀ t, eligible [] none t = false) ∧ none.coins.ceiling ≠ 0 ∧ none.coins.assured = true) := by decide +kernel

/-- PayoutPlanKeepsLimits: stage A with remainder 0, a candidate of stage B that is whole, and none; the amount 0. -/
theorem witness_plan :
    (greedy (positions [] selling) 170 25).2 = 0 ∧
    (let ps := positions [] selling
     let a := greedy ps 60 25
     a = ([0, 1, 0], 10) ∧ 1 ≤ a.1.getD 1 0 ∧ (greedy (ps.drop 2) 60 25).2 = 0 ∧ a.1.getD 0 0 = 0) ∧
    (greedy (positions [] (withTube2 0 selling)) 530 25).2 ≠ 0 ∧
    planCounts (positions [] (withTube2 0 selling)) 530 25 = greedy (positions [] (withTube2 0 selling)) 530 25 ∧
    (∀ t, eligible [0, 1, 2, 3, 4, 5] selling t = false) := by decide +kernel

/-- AcceptSetMembers: a set that differs from the last issued and one that does not, and no validator. -/
theorem witness_recomputeAccept :
    ((roleEntry .coinValidator selling.link).map (·.node)) = some 2 ∧
    selling.coins.lastAccept ≠ some (acceptSet selling) ∧
    (recomputeAccept selling).coins.lastAccept = some (acceptSet (recomputeAccept selling)) ∧
    roleEntry .coinValidator State.reset.link = none := by decide +kernel

/-- NoteConfirmationsAndExpiry: each state of the record, with room and without. -/
theorem witness_noteConfirmations :
    (escrowed .decidedStack selling).money.escrow.state = .decidedStack ∧
    (escrowed .uncertain selling).money.escrow.state = .uncertain ∧
    (escrowed .decidedReturn selling).money.escrow.state = .decidedReturn ∧
    selling.money.escrow.state = .none ∧
    selling.money.credit.cash.toNat + selling.money.credit.payout.toNat + 500 < 2 ^ 32 ∧
    (let s := credited (fun c => { c with cash := 0xFFFFFE0C }) (escrowed .uncertain selling)
     ¬ s.money.credit.cash.toNat + s.money.credit.payout.toNat + s.money.escrow.value < 2 ^ 32) := by
  decide +kernel

/-- A state with a card session and card funds 100. -/
def carded (st : Session) (kc : Word) (s : State) : State :=
  credited (fun c => { c with session := st, funds := some 100, cardCommitted := kc }) s

/-- CardSessionFrames: each session, with and without a commitment and a card-funded drive. -/
theorem witness_cardSession :
    selling.money.credit.session = .none ∧
    (carded .opened 0 selling).money.credit.cardCommitted = 0 ∧
    (carded .opened 1 selling).money.credit.cardCommitted ≠ 0 ∧
    (carded .ending 1 selling).money.credit.session = .ending ∧
    (let s := carded .opened 1 { driving with vend := { driving.vend with queue := [entry 0 .card true] } }
     s.money.credit.session = .opened ∧
     cardDriving (cancelWhere (fun e => decide (e.funds = .card)) .cardEnd s).vend = true) ∧
    cardDriving (cancelWhere (fun e => decide (e.funds = .card)) .cardEnd (carded .opened 0 selling)).vend
      = false := by decide +kernel

/-- SettlementRecords: a record in each state, and none. -/
theorem witness_settlement :
    (let s (st : SettleState) := selling.mapMoney fun m => { m with settlements := [settlement st] }
     replyPlace (s .sent) = true ∧
     (s .sent).money.settlements.find? (fun x => x.tag == 5) = some (settlement .sent) ∧
     (s .unconfirmed).money.settlements.find? (fun x => x.tag == 5) = some (settlement .unconfirmed) ∧
     (s .sent).money.settlements.find? (fun x => x.tag == 5 && decide (x.state = .sent))
       = some (settlement .sent) ∧
     (∀ r ∈ (s .unconfirmed).money.settlements, r.tag = 5 → r.state ≠ .sent) ∧
     ∀ r ∈ (s .sent).money.settlements, r.tag ≠ 6) := by decide +kernel

/-- CoinReturnMovesUncommittedCash: one unit to return, none, an armed lever and a held one. -/
theorem witness_coinReturn :
    (let s (k : Word) := credited (fun c => { c with committed := k }) selling
     (s 149).money.credit.cash - (s 149).money.credit.committed ≠ 0 ∧
     (s 150).money.credit.cash - (s 150).money.credit.committed = 0 ∧ (s 149).money.leverArmed = true ∧
     (led .coinReturnLeverPress (s 149)).money.leverArmed = false) := by decide +kernel

/-- CreditClearAndSettings: each sales state, a queue with an entry, the limit at 60000 and above. -/
theorem witness_creditClear :
    replyPlace selling = true ∧ selling.vend.sales ≠ .service ∧
    (let s := { service with vend := { service.vend with queue := [entry 0 .cash true] } }
     replyPlace s = true ∧ s.vend.sales = .service ∧ s.vend.queue ≠ []) ∧
    replyPlace service = true ∧ service.vend.queue = [] ∧
    readVendMode 1 = some .multi ∧ (60000 : Half).toNat ≤ 60000 ∧ readVendMode 2 = none ∧
    60000 < (60001 : Half).toNat ∧ (1 : Byte) ≠ 0 := by decide +kernel

/-- EveryStepKeepsMoneyBalanced: a state that is balanced, and a step from it. -/
theorem witness_moneyBalanced :
    MoneyBalanced driving ∧ MoneyBalanced (led (.coinIn 0) driving) ∧
    step { driving with pending := [.coinIn 0] } = .next (led (.coinIn 0) driving) := by
  refine ⟨?_, ?_, rfl⟩ <;> (unfold MoneyBalanced; decide +kernel)

/-- PayoutPlanKeepsLimits: no eligible tube. -/
theorem witness_noEligible : ∀ t, eligible [] State.reset t = false := by decide +kernel

/-- AcceptSetMembers: a class that is in the set and one that is not. -/
theorem witness_acceptSet :
    (acceptSet selling).getLsbD 0 = true ∧ (acceptSet selling).getLsbD 5 = false := by decide +kernel

/-- StartPlansPendingPayout: IDLE with and without Q, a running engine, a plan and an empty one. -/
theorem witness_start :
    (let s := credited (fun c => { c with payout := 60 }) selling
     s.coins.engine.phase = .idle ∧ s.money.credit.payout ≠ 0 ∧
     (payoutPlan [] s.money.credit.payout.toNat s).1 = [(2, 3)]) ∧
    selling.money.credit.payout = 0 ∧ (withEngine (run .gap) selling).coins.engine.phase ≠ .idle ∧
    (payoutPlan [] 5 selling).1 = [] := by decide +kernel

/-- PayoutCycle: each phase, a JAMMED plan head, a manual run, and an ended plan with and without remainder. -/
theorem witness_payoutCycle :
    (withEngine (run .pulse) selling).coins.engine.phase = .pulse ∧
    (withEngine (run .exitWait) selling).coins.engine.phase = .exitWait ∧
    (withEngine (run .exitWait) selling).coins.engine.current = some 2 ∧
    (withEngine { run .exitWait with manual := true } selling).coins.engine.manual = true ∧
    (withEngine (run .gap) selling).coins.engine.plan = (2, 1) :: [] ∧
    jammed 2 (withEngine (run .gap) selling) = false ∧
    jammed 2 (withFault 0 (fault .tubeJam 2 false) (withEngine (run .gap) selling)) = true ∧
    (withEngine { run .gap with plan := [] } selling).coins.engine.plan = [] ∧
    (withEngine { run .gap with plan := [], remainder := 5 } selling).coins.engine.remainder ≠ 0 := by
  decide +kernel

/-- A state with an in-flight record to tube 0 and one to the cash box. -/
def inFlight : State :=
  selling.mapCoins fun c =>
    { c with
      inflight := [{ cls := 0, value := 100, chute := some 0, route := some 0, deadlineMs := 800, number := 0 },
                   { cls := 1, value := 50, chute := some 1, route := none, deadlineMs := 800, number := 1 }]
      nextFlight := 2 }

/-- CoinSensorsDeadlinesAndFlaps: routes with a record and without, a number with a record and one without. -/
theorem witness_coinSensors :
    (inFlight.coins.inflight.find? fun r => decide (r.route = some 0)).isSome = true ∧
    (inFlight.coins.inflight.find? fun r => decide (r.route = some 3)) = none ∧
    (inFlight.coins.inflight.find? fun r => decide (r.route = none)).isSome = true ∧
    (selling.coins.inflight.find? fun r => decide (r.route = none)) = none ∧
    inFlight.resetLow = false ∧
    (inFlight.coins.inflight.find? fun r => decide (r.number = 1)).isSome = true ∧
    (∀ r ∈ inFlight.coins.inflight, r.number ≠ 2) := by decide +kernel

/-- TubeSetAndDispense: every check, the count at capacity and one above, the coins at 50 and at the count. -/
theorem witness_tubeRequests :
    replyPlace service = true ∧ selling.vend.sales ≠ .service ∧
    (100 : Byte).toNat ≤ service.coins.tubes[(2 : TubeId)].capacity ∧
    ¬ (101 : Byte).toNat ≤ service.coins.tubes[(2 : TubeId)].capacity ∧
    (10 : Byte).toNat ≤ service.coins.tubes[(2 : TubeId)].count ∧
    ¬ (11 : Byte).toNat ≤ service.coins.tubes[(2 : TubeId)].count ∧
    (withEngine (run .gap) service).coins.engine.phase ≠ .idle ∧ service.coins.engine.phase = .idle ∧
    tubeValue 2 service.coins ≠ 0 ∧ jammed 2 service = false ∧
    jammed 2 (withFault 0 (fault .tubeJam 2 false) service) = true ∧
    (let s := service.mapTube 4 fun x => { x with count := 50 }
     tubeValue 4 s.coins = 0 ∧ (50 : Byte).toNat ≤ s.coins.tubes[(4 : TubeId)].count) := by decide +kernel

/-- A state with four settlement records and the longest pending list: an ACCEPT-SET, four note decisions and the
SETTLE of each record. -/
def pendingFull : State :=
  let frame (type : Byte) (payload : List Byte) : Frame := { dest := 4, src := 24, type := type, payload := payload }
  (selling.mapMoney fun m => { m with
      settlements := [5, 6, 7, 8].map fun t => { settlement .sent with tag := t } }).mapPort 3 fun q =>
    { q with
      state := .quiet
      waiting := frame 0x58 [0, 0] :: List.replicate 4 (frame 0x69 [2]) ++
        [5, 6, 7, 8].map fun t => frame 0x78 [t, 12, 0, 120] }

/-- EveryStepKeepsCountsAndListsInBounds: a state at every bound. -/
theorem witness_bounds :
    (let s := { selling with
       coins := { selling.coins with
         tubes := selling.coins.tubes.set 2 (tube 2 100)
         inflight := inFlight.coins.inflight ++ inFlight.coins.inflight }
       vend := { selling.vend with queue := List.replicate 4 (entry 0 .card false) }
       link := { selling.link with
         ports := selling.link.ports.set 0 { selling.port 0 with
           tx := filler :: List.replicate 5 { filler with kind := .event } } }
       events := { queue := List.replicate 16 { code := .credit, subject := 0, value := 0, time := 0 }
                   lost := 255 } }
     (∀ t : TubeId, s.coins.tubes[t].count ≤ s.coins.tubes[t].capacity) ∧ QueueFits s ∧ FlightsFit s ∧
     CardPlacesFit s ∧ EventsFit s ∧ QueuesHold s) ∧
    QueueFits pendingFull ∧ CardPlacesFit pendingFull ∧ PendingFit pendingFull ∧
    (pendingFull.port 3).waiting.length = 9 := by
  refine ⟨⟨by decide +kernel, ?_, ?_, ?_, ?_, ?_⟩, ?_, ?_, ?_, by decide +kernel⟩
  · unfold QueueFits; decide +kernel
  · unfold FlightsFit; decide +kernel
  · unfold CardPlacesFit; decide +kernel
  · unfold EventsFit; decide +kernel
  · unfold QueuesHold; decide +kernel
  · unfold QueueFits; decide +kernel
  · unfold CardPlacesFit; decide +kernel
  · unfold PendingFit; decide +kernel

/-- A drive that the card pays, with all of the card funds committed to it. -/
def cardDriven : State :=
  credited (fun c => { c with session := .ending, funds := some 120, cardCommitted := 120, committed := 0 })
    { driving with vend := { driving.vend with queue := [entry 0 .card true] } }

/-- EveryStepKeepsCashSound: a drive with its price committed, in cash and from the card. -/
theorem witness_cashSound : CashSound driving ∧ CardSound cardDriven := by
  refine ⟨⟨by decide +kernel, by decide +kernel, by decide +kernel, ?_, by decide +kernel, ?_⟩,
    by decide +kernel, by decide +kernel, by decide +kernel, by decide +kernel, ?_⟩
  · intro h; exact absurd rfl h
  · intro h; rcases h with h | h <;> cases h
  · intro e es h
    cases h
    intro x hx
    cases hx

/-- SelectCheckedAndAccepted: each check failing alone, and each answer to COMMIT, the price at C − K. -/
theorem witness_select :
    service.vend.sales ≠ .selling ∧ 96 ≤ (96 : Byte).toNat ∧ readPreference 3 = none ∧
    readPreference 0 = some .any ∧ selling.vend.selections[(0 : Fin 96)].enabled = false ∧
    (let x := selling.vend.selections[(12 : Fin 96)]
     x.enabled = true ∧ x.empty = false ∧ faultBlocks x selling = false ∧ heldBlocks x selling = false ∧
     selling.vend.queue.length < 4 ∧ commitAnswer .any 150 selling = .cash ∧
     commitAnswer .any 151 selling = .credit ∧ commitAnswer .card 100 (carded .opened 0 selling) = .card) ∧
    (selling.mapSelection 12 fun x => { x with empty := true }).vend.selections[(12 : Fin 96)].empty = true ∧
    faultBlocks selling.vend.selections[(12 : Fin 96)] (withFault 0 (fault .motorStall 0 false) selling) = true ∧
    heldBlocks selling.vend.selections[(40 : Fin 96)]
      (selling.mapHold 0 fun h => { h with held := true }) = true ∧
    commitAnswer .card 100 (carded .opened 0 (selling.mapMoney fun m =>
      { m with settlements := List.replicate 4 (settlement .sent) })) = .settleFull := by decide +kernel

/-- CancelRemovesWaitingEntries: 0xFF, a WAITING tag, the DRIVING one and an unknown one. -/
theorem witness_cancel :
    (let s := { driving with vend := { driving.vend with queue := [entry 0 .cash true, entry 1 .cash false] } }
     replyPlace s = true ∧ (0xFF : Byte) = 0xFF ∧
     s.vend.queue.find? (fun x => x.tag == 1) = some (entry 1 .cash false) ∧
     s.vend.queue.find? (fun x => x.tag == 0) = some (entry 0 .cash true) ∧
     (∀ e ∈ s.vend.queue, e.tag ≠ 2) ∧
     (s.vend.queue.filter fun e => !e.driving && true).getLast? = some (entry 1 .cash false) ∧
     (s.vend.queue.filter fun e => !e.driving && false) = []) := by decide +kernel

/-- OutcomeSettlesHead: a DRIVING head and a WAITING one, paid in cash and by card; SINGLE with credit left and
without, MULTI; room for the reports; a session that the head closes; four settlement records. -/
theorem witness_outcome :
    driving.vend.queue = entry 0 .cash true :: [] ∧ (entry 0 .cash true).driving = true ∧
    (entry 0 .card false).driving = false ∧ (1 : Byte) ≠ (entry 0 .cash true).tag ∧
    driving.money.credit.vendMode = .single ∧ driving.money.credit.cash - driving.money.credit.committed ≠ 0 ∧
    (credited (fun c => { c with cash := 120 }) driving).money.credit.cash - driving.money.credit.committed = 0 ∧
    (credited (fun c => { c with vendMode := .multi }) driving).money.credit.vendMode = .multi ∧
    driving.events.queue.length ≤ 8 ∧ cardDriven.vend.queue = entry 0 .card true :: [] ∧
    cardDriven.money.credit.session = .ending ∧ pendingFull.money.settlements.length ≤ 4 ∧
    ([entry 1 .cash false].filter fun y => !y.driving && decide (VendOutcome.notDelivered = .notDelivered ∧
      y.selection = (entry 0 .cash true).selection)) ≠ [] := by decide +kernel

/-- SuspensionAndDoor: SELLING and SUSPENDED, each with a cause and without, and the door at both levels. -/
theorem witness_suspension :
    noCause selling = true ∧ selling.vend.sales = .selling ∧
    noCause (selling.mapVend fun v => { v with doorOpen := true }) = false ∧
    (led (.doorChange true) selling).vend.sales = .suspended ∧
    noCause (selling.mapVend fun v => { v with sales := .suspended }) = true ∧
    selling.vend.doorOpen ≠ true ∧ selling.vend.doorOpen = false ∧ State.reset.vend.sales = .offline := by
  decide +kernel

/-- ModeSetBySalesState: both outcomes of the consistency check, with and without a cause. -/
theorem witness_modeSet :
    replyPlace State.reset = true ∧ State.reset.vend.sales = .offline ∧
    inconsistency State.reset = some (0x04, 0xFF) ∧ replyPlace service = true ∧ inconsistency service = none ∧
    noCause service = true ∧ noCause (service.mapVend fun v => { v with doorOpen := true }) = false ∧
    replyPlace selling = true ∧ (led (.doorChange true) selling).vend.sales = .suspended := by decide +kernel

/-- EveryStepKeepsDriveUnderGrant: a drive under its grant, with its row and column on and with both off. -/
theorem witness_driveNeedsGrant : DriveNeedsGrant driving ∧ selling.drive.record = none ∧
    (outputs driving).row = some 0 ∧ (outputs driving).columns = [0] ∧
    (outputs (drivesWith driving Drive.switchOff)).columns = [] := by
  refine ⟨⟨?_, ?_, ?_⟩, by decide +kernel⟩
  · intro r h
    cases h
    exact ⟨rfl, _, _, rfl, rfl, rfl⟩
  · intro h; cases h
  · intro e es h
    cases h
    intro x hx
    cases hx

/-- FirstEnergisingMakesDrive: traced with a FREE buffer and a FILLING one, untraced, and TIMED. -/
theorem witness_firstEnergising :
    selling.vend.selections[(60 : Fin 96)].trace = true ∧ selling.drive.trace.state = .free ∧
    (selling.mapDrive fun d => { d with trace := { d.trace with state := .filling } }).drive.trace.state ≠ .free ∧
    selling.events.queue.length < 16 ∧ (spiral 120).trace = false ∧ (spiral 120).kind ≠ .timed := by
  decide +kernel

/-- CurrentChecksAndDriveFaults: blanked and judged samples, each run one short of its end and at it. -/
theorem witness_current :
    (let s (blank stall openRun : Nat) := driving.mapDrive fun d =>
       { d with blankLeft := blank, stallRun := stall, openRun := openRun }
     (s 1 0 0).drive.record = some (drive (spiral 120)) ∧ (s 1 0 0).drive.phase = .energised ∧
     (drive (spiral 120)).columns ≠ [] ∧ 0 < (s 1 0 0).drive.blankLeft ∧ (s 0 14 0).drive.blankLeft = 0 ∧
     (s 0 14 0).drive.settings.stallMs / 10 ≤ (s 0 14 0).drive.stallRun + 1 ∧
     ¬ (s 0 13 0).drive.settings.stallMs / 10 ≤ (s 0 13 0).drive.stallRun + 1 ∧
     30 ≤ (s 0 0 29).drive.openRun + 1 ∧ (s 0 0 28).drive.openRun + 1 < 30 ∧
     1200 ≤ (120 : Byte).toNat * 10 ∧ (5 : Byte).toNat * 10 < 60) ∧
    selling.drive.record = none ∧ driving.resetLow = false ∧
    ((drive (spiral 120)).tag = 0 ∧ (drive (spiral 120)).turnsDone = 0 ∧
     ({ tag := 1, turn := 0, motor := .a } : TurnTimer).tag ≠ (drive (spiral 120)).tag ∧
     ({ tag := 0, turn := 1, motor := .a } : TurnTimer).turn ≠ (drive (spiral 120)).turnsDone) ∧
    (drive (spiral 120)).kind ≠ .timed ∧ (drive (spiral 120)).a.on = true ∧
    (drive (spiral 120)).a.turn ≠ .ended ∧ (drive (spiral 120)).b.on = false := by decide +kernel

/-- A drive of this turn state with turns to come or not. -/
def turning (t : TurnState) (turns : Nat) (continuous : Bool) : State :=
  drivesWith driving fun r =>
    { r with a := { r.a with turn := t }, turns := turns, continuous := continuous }

/-- HomeSwitchTurns: LEAVING and AWAY, the last turn and an earlier one, continuous or not. -/
theorem witness_homeSwitch :
    (turning .leaving 1 false).drive.record.map (fun r => (r.a.on, r.a.turn)) = some (true, .leaving) ∧
    (turning .away 1 false).drive.record.map (fun r => (r.a.on, r.a.turn)) = some (true, .away) ∧
    (turning .away 1 false).drive.record.map (fun r => decide (r.turns ≤ r.turnsDone + 1)) = some true ∧
    (turning .away 2 false).drive.record.map (fun r => decide (r.turnsDone + 1 < r.turns)) = some true ∧
    (turning .away 2 true).drive.record.map (·.continuous) = some true ∧
    (turning .away 1 false).drive.record.map (·.b.turn) = some .ended ∧
    (turning .leaving 1 false).drive.record.map (·.tag) = some 0 ∧
    ({ tag := 1, motor := .a } : DriveMotor).tag ≠ 0 ∧
    (turning .away 1 false).drive.phase = .energised := by decide +kernel

/-- A drive in a phase. -/
def phased (p : DrivePhase) (f : Drive → Drive) : State :=
  (drivesWith driving f).mapDrive fun d => { d with phase := p }

/-- PauseRunAndTailEnd: each phase; a tail UNVERIFIED, with a drop, without one, with a retry left and none. -/
theorem witness_pauseTail :
    (phased .paused id).drive.phase = .paused ∧ (phased .paused id).drive.record.isSome = true ∧
    (phased .energised fun r => { r with kind := .timed }).drive.record.map (·.kind) = some .timed ∧
    (phased .tail fun r => { r with verify := false }).drive.record.map (·.verify) = some false ∧
    (phased .tail fun r => { r with drops := 1 }).drive.record.map (fun r => (r.verify, r.drops))
      = some (true, 1) ∧
    (phased .tail id).drive.record.map (fun r => (r.verify, r.drops, r.retriesLeft)) = some (true, 0, 0) ∧
    (phased .tail fun r => { r with retriesLeft := 1 }).drive.record.map (·.retriesLeft) = some 1 := by
  decide +kernel

/-- A state whose monitor is in a state. -/
def beam (m : Monitor) (s : State) : State := s.mapDrive fun d => { d with monitor := m }

/-- BeamAndDrops: each state of the monitor, without a drive, before a drop, after one, and in the tail. -/
theorem witness_beam :
    (beam .clear selling).drive.record = none ∧ (beam .clear selling).drive.monitor = .clear ∧
    driving.drive.record.map (·.drops) = some 0 ∧ driving.drive.monitor = .clear ∧
    (drivesWith driving fun r => { r with drops := 1 }).drive.record.map (·.drops) = some 1 ∧
    (phased .tail id).drive.monitor = .clear ∧ selling.drive.monitor = .unknown ∧
    (beam .broken driving).drive.monitor = .broken ∧ (beam .blocked driving).drive.monitor = .blocked := by
  decide +kernel

/-- TraceFillsAndIsReleased: a FILLING buffer one sample short, and a FREE one. -/
theorem witness_trace :
    (selling.mapDrive fun d => { d with trace := { d.trace with
      state := .filling, samples := List.replicate 63 0 } }).drive.trace.state = .filling ∧
    selling.drive.trace.state ≠ .filling ∧ replyPlace selling = true := by decide +kernel

/-- A state with these claims. -/
def claims (vend compressor heater : Claim) (s : State) : State :=
  s.mapSupply fun p => { p with vend := vend, compressor := compressor, heater := heater }

/-- A waiting claim. -/
def waiting (cost : Nat) : Claim := { state := .waiting, cost := cost, held := 0 }

/-- A granted claim. -/
def granted (cost : Nat) : Claim := { state := .granted, cost := cost, held := cost }

/-- EveryStepKeepsWithinBudget: the whole budget granted. -/
theorem witness_withinBudget : WithinBudget (claims (granted 4) (granted 8) Reset.claim selling) := by
  unfold WithinBudget; decide +kernel

/-- ConsiderationGrantsWhatFits: grants of all three claims, a claim left waiting for one point, and one passed
over behind a deferring compressor claim. -/
theorem witness_consideration :
    (let s := { (claims (waiting 3) (waiting 8) Reset.claim selling) with
       vend := { selling.vend with queue := [entry 0 .cash false] } }
     pointsGranted s.supply ≤ s.supply.budget ∧ vendReady (entry 0 .cash false) s = true ∧
     (consider s).supply.vend.state = .granted ∧ (consider s).supply.compressor.state = .granted) ∧
    (consider (claims Reset.claim Reset.claim (waiting 6) selling)).supply.heater.state = .granted ∧
    (consider (claims (granted 5) (waiting 8) (waiting 8) selling)).supply.compressor.state = .waiting ∧
    (consider (claims (granted 5) (waiting 8) (waiting 8) selling)).supply.heater.state = .waiting ∧
    (let s := { (claims (waiting 3) (waiting 13) Reset.claim selling).mapSupply (fun p =>
         { p with deferring := true }) with
       vend := { selling.vend with queue := [entry 0 .cash false] } }
     s.supply.deferring = true ∧ (consider s).supply.compressor.state = .waiting) ∧
    (let s := { (claims (waiting 13) Reset.claim Reset.claim selling) with
       vend := { selling.vend with queue := [entry 0 .cash false] } }
     vendReady (entry 0 .cash false) s = true ∧ (consider s).supply.vend.state = .waiting) := by
  decide +kernel

/-- ClaimsPlacedWithdrawnReleased: a head that places and one that does not, a wait of 29 s and one ms less. -/
theorem witness_claims :
    (let s := { selling with vend := { selling.vend with queue := [entry 0 .cash false] } }
     s.vend.queue = entry 0 .cash false :: [] ∧ s.supply.vend.state = .absent ∧ s.vend.sales = .selling ∧
     s.drive.record = none) ∧
    (entry 0 .cash true).driving = true ∧
    (claims Reset.claim (waiting 8) Reset.claim selling).supply.compressor.state = .waiting ∧
    (let s (n : Nat) : State := (claims Reset.claim (waiting 8) Reset.claim selling).mapSupply fun p =>
       { p with waitMs := n }
     (s 29000).supply.compressor.state = .waiting ∧ (s 29000).supply.deferring = false ∧
     29000 ≤ (s 29000).supply.waitMs ∧ (s 28999).supply.waitMs < 29000) ∧
    selling.supply.deferring = false ∧ selling.supply.compressor.state ≠ .waiting := by decide +kernel

/-- SupplyAndRefrigerationWrites: ranges at their ends and just outside, and a budget below what is granted. -/
theorem witness_supplyWrites :
    replyPlace service = true ∧ service.vend.sales = .service ∧
    (1 ≤ (31 : Byte).toNat ∧ (31 : Byte).toNat ≤ 31 ∧ (15 : Byte).toNat ≤ 15 ∧ 2 * (15 : Byte).toNat ≤ 31) ∧
    ¬ 2 * (3 : Byte).toNat ≤ (5 : Byte).toNat ∧
    (6 : Byte).toNat < pointsGranted (claims (granted 7) Reset.claim Reset.claim service).supply ∧
    ¬ (selling.vend.sales = .offline ∨ selling.vend.sales = .service) ∧
    -50 ≤ (0xFFCE : Half).toInt ∧ ¬ -50 ≤ (0xFFCD : Half).toInt ∧ (200 : Half).toInt ≤ 200 ∧
    (300 : Half).toInt ≤ 300 ∧ ¬ (301 : Half).toInt ≤ 300 ∧ 2 ≤ (2 : Byte).toNat ∧ (1 : Byte) = byteOf 1 := by
  decide +kernel

/-- A state with the compressor in a state. -/
def compressor (st : CompressorState) (f : Compressor → Compressor) (s : State) : State :=
  s.mapCooling fun c => { c with compressor := f { c.compressor with state := st } }

/-- A state with the defrost in a state. -/
def defrost (st : DefrostState) (s : State) : State :=
  s.mapCooling fun c => { c with defrost := { c.defrost with state := st } }

/-- EveryStepKeepsLoadsApart: a running compressor under its grant. -/
theorem witness_loadsApart :
    LoadsApart (claims Reset.claim (granted 4) Reset.claim
      (compressor .running (fun c => { c with relay := true }) selling)) := by
  unfold LoadsApart; decide +kernel

/-- ProbeFilterAndCoil: readings at both ends of the range and outside, each channel state, a coil at the
terminate temperature and a run of 15 min above −5.0 °C. -/
theorem witness_probe :
    (-401 : Int) < -400 ∧ (850 : Int) < 851 ∧ (-400 : Int) ≤ -400 ∧ (valid 52).state = .valid ∧
    (Reset.cooling.probes[(2 : Fin 3)]).state ≠ .valid ∧
    (let s := defrost .heating selling
     (sampleProbe 2 80 s).cooling.probes[(2 : Fin 3)].state = .valid ∧ s.cooling.defrost.state = .heating ∧
     s.cooling.terminate ≤ (sampleProbe 2 80 s).cooling.probes[(2 : Fin 3)].filtered) ∧
    (let s := compressor .running (fun c => { c with runningMs := 900000 }) selling
     s.cooling.compressor.state = .running ∧ 900000 ≤ s.cooling.compressor.runningMs ∧
     s.cooling.compressor.noCool = false ∧ -50 < (sampleProbe 2 (-49) s).cooling.probes[(2 : Fin 3)].filtered) ∧
    (let passes (old : ChannelState) (raw : Int) : ChannelState × ChannelState :=
       (old, (({ raw := 0, filtered := 0, state := old } : Probe).sample raw).state)
     passes .noSample 0 = (.noSample, .valid) ∧ passes .valid 850 = (.valid, .valid) ∧
     passes .noSample 851 = (.noSample, .faultedOpen) ∧ passes .valid (-401) = (.valid, .faultedShort) ∧
     passes .faultedOpen 850 = (.faultedOpen, .valid) ∧ passes .faultedOpen (-401) = (.faultedOpen, .faultedShort) ∧
     passes .faultedShort (-400) = (.faultedShort, .valid) ∧
     passes .faultedShort 851 = (.faultedShort, .faultedOpen) ∧
     passes .faultedOpen 851 = (.faultedOpen, .faultedOpen)) ∧
    (sampleProbe 2 851 selling).cooling.probes[(2 : Fin 3)].state ≠ .valid := by decide +kernel

/-- ProbeSampleDrivesZonesAndHolds: F at, between and above the two bounds of demand, a channel just FAULTED and
one that stays so, an enabled hold and a disabled one, rising and falling. -/
theorem witness_probeSample :
    (let t := led (.probeSample 60 40 0) selling
     t.cooling.probes[(0 : Fin 3)].state = .valid ∧
     t.cooling.zones[(0 : ZoneId)].effective + t.cooling.zones[(0 : ZoneId)].differential
       ≤ t.cooling.probes[(0 : Fin 3)].filtered ∧ t.cooling.zones[(0 : ZoneId)].demand = true) ∧
    (let t := led (.probeSample 41 40 0) selling
     t.cooling.probes[(0 : Fin 3)].filtered = 41 ∧ t.cooling.zones[(0 : ZoneId)].demand = false) ∧
    (led (.probeSample 851 851 0) selling).cooling.probes[(0 : Fin 3)].state = .faultedOpen ∧
    (led (.probeSample 851 851 0) (led (.probeSample 851 851 0) selling)).cooling.zones[(0 : ZoneId)].limp
      = some { on := true, leftMs := 480000 } ∧
    selling.cabinet.holds[(0 : ZoneId)].enabled = true ∧ selling.cabinet.holds[(1 : ZoneId)].enabled = false := by
  decide +kernel

/-- CompressorDemandTimersAndStop: each compressor state with demand and without, a run at 60 s and one short. -/
theorem witness_compressor :
    (let on (s : State) := s.mapZone 0 fun z => { z with demand := true }
     compressorDemand (on (compressor .ready id selling)).cooling = true ∧
     compressorDemand (compressor .waitingPower id selling).cooling = false ∧
     (compressor .running (fun c => { c with onMs := 60000 }) selling).cooling.compressor.onMs = 60000 ∧
     (compressor .running (fun c => { c with onMs := 59999 }) selling).cooling.compressor.onMs < 60000 ∧
     (compressor .running (fun c => { c with onMs := 59000 }) selling).cooling.compressor.state = .running ∧
     compressorDemand (compressor .running (fun c => { c with onMs := 59000 }) selling).cooling = false ∧
     59000 ≤ (compressor .running (fun c => { c with onMs := 59000 }) selling).cooling.compressor.onMs ∧
     (compressor .running (fun c => { c with onMs := 58999 }) selling).cooling.compressor.onMs < 59000 ∧
     compressorDemand (on (compressor .running id selling)).cooling = true) ∧
    selling.cooling.compressor.state = .locked ∧
    (compressor .starting id selling).cooling.compressor.state = .starting ∧
    (selling.cooling.zones[(0 : ZoneId)]).limp = none ∧
    ((led (.probeSample 851 0 0) selling).cooling.zones[(0 : ZoneId)]).limp.isSome = true ∧
    selling.cooling.zones[(0 : ZoneId)].demand ≠ true := by decide +kernel

/-- DefrostBeginsAndEnds: each defrost state, the accumulator at the interval. -/
theorem witness_defrost :
    selling.cooling.defrost.state = .none ∧
    (selling.cooling.intervalH * 3600000
      ≤ (compressor .locked (fun c => { c with accumulatorMs := 21600000 }) selling).cooling.compressor.accumulatorMs) ∧
    (let s (n : Nat) : State := compressor .running (fun c => { c with accumulatorMs := n }) selling
     (s 21599000).cooling.defrost.state = .none ∧ (s 21599000).cooling.compressor.state = .running ∧
     (s 21599000).cooling.intervalH * 3600000 ≤ (s 21599000).cooling.compressor.accumulatorMs + 1000 ∧
     (s 21598999).cooling.compressor.accumulatorMs + 1000 < (s 21598999).cooling.intervalH * 3600000) ∧
    selling.cooling.compressor.state ≠ .running ∧
    selling.cooling.compressor.accumulatorMs < selling.cooling.intervalH * 3600000 ∧
    (defrost .pending selling).cooling.defrost.state ≠ .none ∧
    (defrost .heating selling).cooling.defrost.state = .heating ∧
    (defrost .dripping selling).cooling.defrost.state = .dripping ∧ replyPlace selling = true := by
  decide +kernel

/-- EveryStepKeepsHoldsAndSetpoints: an accumulator at its delay, and setpoints as formed. -/
theorem witness_holds :
    HoldsCount (selling.mapHold 0 fun h => { h with accumulator := h.delay }) ∧ SetpointsClamped selling := by
  refine ⟨?_, ?_⟩
  · unfold HoldsCount; decide +kernel
  · unfold SetpointsClamped; decide +kernel

/-- ZoneHeldReleasedAndHoldWrite: the last step of the delay and the one before, a held zone with F at the limit
and one above, delays 60 and 59, limits −50 and 300. -/
theorem witness_zoneHeld :
    (let s (n : Nat) (held : Bool) (f : Int) : State :=
       (selling.mapHold 0 fun h => { h with accumulator := n, held := held }).mapCooling fun c =>
         { c with probes := c.probes.set 0 (valid f) }
     (s 1799 false 81).cabinet.holds[(0 : ZoneId)].limit < (s 1799 false 81).cooling.probes[(0 : Fin 3)].filtered ∧
     (s 1799 false 81).cabinet.holds[(0 : ZoneId)].delay
       ≤ (s 1799 false 81).cabinet.holds[(0 : ZoneId)].accumulator + 1 ∧
     ¬ (s 1798 false 81).cabinet.holds[(0 : ZoneId)].delay
       ≤ (s 1798 false 81).cabinet.holds[(0 : ZoneId)].accumulator + 1 ∧
     (s 0 true 80).cooling.probes[(0 : Fin 3)].filtered ≤ (s 0 true 80).cabinet.holds[(0 : ZoneId)].limit ∧
     (s 0 true 81).cabinet.holds[(0 : ZoneId)].held = true ∧ (s 0 false 80).cabinet.holds[(0 : ZoneId)].held = false ∧
     replyPlace (s 0 true 80) = true) ∧
    (60 : Half).toNat = 60 ∧ ¬ 60 ≤ (59 : Half).toNat ∧ (0xFFCE : Half).toInt = -50 ∧ (300 : Half).toInt = 300 ∧
    selling.cabinet.holds[(1 : ZoneId)].enabled = false := by decide +kernel

/-- SetpointFormedAndDemandJudged, EconomyWakesAndPassesForward: each economy state, masked and not, the quiet
time at each delay and one ms short, a second before each delay and one ms more, in window and not. -/
theorem witness_economy :
    (let s (st : EconomyState) (quiet : Nat) (inw : Bool) : State := selling.mapCabinet fun c =>
       { c with economy := { c.economy with state := st, quietMs := quiet, inWindow := inw }
                clock := { c.clock with valid := true } }
     (s .economy 0 true).cabinet.economy.state = .economy ∧
     (s .active 300000 false).cabinet.economy.dimDelay * 1000 ≤ (s .active 300000 false).cabinet.economy.quietMs ∧
     (s .active 299999 false).cabinet.economy.quietMs < (s .active 299999 false).cabinet.economy.dimDelay * 1000 ∧
     ((s .dim 2100000 true).cabinet.economy.dimDelay + (s .dim 2100000 true).cabinet.economy.economyDelay) * 1000
       ≤ (s .dim 2100000 true).cabinet.economy.quietMs ∧
     (s .dim 2100000 true).cabinet.clock.valid = true ∧
     (s .active 299000 false).cabinet.economy.dimDelay * 1000
       ≤ (s .active 299000 false).cabinet.economy.quietMs + 1000 ∧
     (s .active 298999 false).cabinet.economy.quietMs + 1000
       < (s .active 298999 false).cabinet.economy.dimDelay * 1000 ∧
     ((s .dim 2099000 true).cabinet.economy.dimDelay + (s .dim 2099000 true).cabinet.economy.economyDelay) * 1000
       ≤ (s .dim 2099000 true).cabinet.economy.quietMs + 1000 ∧
     (s .dim 2098999 true).cabinet.economy.quietMs + 1000
       < ((s .dim 2098999 true).cabinet.economy.dimDelay
           + (s .dim 2098999 true).cabinet.economy.economyDelay) * 1000) ∧
    selling.cabinet.economy.mask.getLsbD Activity.coin.bit = true ∧
    ((selling.mapEconomy fun e => { e with mask := 0 }).cabinet.economy.mask.getLsbD Activity.coin.bit) = false := by
  decide +kernel

/-- WindowsAndTimeOfWeek, EconomyScheduleAndTimeWrites: a valid counter and an invalid one, the last second and
one above, minutes 1439 and 1440, mask 63 and 64. -/
theorem witness_time :
    selling.cabinet.clock.valid = false ∧ (led (.timeSet 1 604799) selling).cabinet.clock.valid = true ∧
    (604799 : Word).toNat < 604800 ∧ 604800 ≤ (604800 : Word).toNat ∧ replyPlace selling = true ∧
    (1439 : Half).toNat ≤ 1439 ∧ ¬ (1440 : Half).toNat ≤ 1439 ∧ (63 : Byte).toNat < 64 ∧
    ¬ (64 : Byte).toNat < 64 ∧ (127 : Byte).toNat < 128 ∧ 8 ≤ (8 : Byte).toNat ∧
    (100 : Byte).toNat ≤ 100 ∧ ¬ (101 : Byte).toNat ≤ 100 := by decide +kernel

/-- SentFrameIsReceived: a payload of 40 bytes, all of them escaped, after noise. -/
theorem witness_sentFrame :
    (List.replicate 40 (0xA5 : Byte)).length ≤ 40 ∧ (∀ b ∈ [(0x00 : Byte), 0xA6, 0xFF], b ≠ 0xA5) ∧
    (receiveBytes .outside ([0x00, 0xA6, 0xFF] ++ lineBytes
      { dest := 24, src := 1, type := 0x41, payload := List.replicate 40 0xA5 })).2.length = 1 := by decide +kernel

/-- A state whose port D3 is in a state with a score and a recovery count. -/
def scored (st : PortState) (score recovery : Nat) (s : State) : State :=
  s.mapPort 3 fun q => { q with state := st, score := score, recovery := recovery }

/-- PortScoresQuietAndRecovery: scores on both sides of 64 and 192, recovery counts 30 and 31, each state for
PORT-RESTART, and port U with the REPLY to RESTART in its queue. -/
theorem witness_portScores :
    min 255 (((scored .active 55 0 selling).port 3).score + 8) < 64 ∧
    64 ≤ min 255 (((scored .active 56 0 selling).port 3).score + 8) ∧
    min 255 (((scored .warned 183 0 selling).port 3).score + 8) < 192 ∧
    192 ≤ min 255 (((scored .warned 184 0 selling).port 3).score + 8) ∧
    ((scored .quiet 192 30 selling).port 3).recovery < 31 ∧ ((scored .quiet 192 31 selling).port 3).state = .quiet ∧
    replyPlace (scored .quiet 192 31 selling) = true ∧ (3 : Byte) = byteOf 3 ∧
    (let s := led (.restart 1) selling
     s.link.restartPending = true ∧ holdsRestart (s.port 0) = true) ∧
    holdsRestart (selling.port 0) = false := by decide +kernel

/-- A state whose disposition entry 3 drops, copies or diverts type 0x90 from D1. -/
def disposed (a : Action) : State :=
  let entry : Disposition := { enabled := true, type := 0x90, ports := 0b0010, dest := .any, action := a }
  selling.mapLink fun l => { l with dispositions := l.dispositions.set 3 entry }

/-- GoodFrameSwitched: a port that is not QUIET, each action of a matching entry, each kind of destination, each
role, a failed role check and an unknown type. -/
theorem witness_goodFrame :
    (selling.port 1).state ≠ .quiet ∧
    (let f (dest type : Byte) : Frame := { dest := dest, src := 2, type := type, payload := [0] }
     actionOf 1 (f 4 0x90) (disposed .drop).link = .drop ∧ actionOf 1 (f 4 0x90) (disposed .copyUp).link = .copyUp ∧
     actionOf 1 (f 4 0x90) (disposed .divert).link = .divert ∧ actionOf 1 (f 4 0x91) (disposed .drop).link = .pass) ∧
    selling.link.ownNode = 24 ∧ ((nodeEntry 4 selling.link).map (·.port)) = some 3 ∧
    nodeEntry 9 selling.link = none ∧ ((nodeEntry 1 selling.link).map (·.port)) = some 0 ∧
    ((roleEntry .machineController selling.link).map fun n => (n.node, n.port)) = some (1, 0) ∧
    ((roleEntry .coinValidator selling.link).map fun n => (n.node, n.port)) = some (2, 1) ∧
    ((roleEntry .noteReader selling.link).map fun n => (n.node, n.port)) = some (3, 2) ∧
    ((roleEntry .cardReader selling.link).map fun n => (n.node, n.port)) = some (4, 3) ∧
    roleEntry .machineController State.reset.link = none ∧ senderRole 0x50 1 = some .coinValidator ∧
    senderRole 0x50 2 = none ∧ senderRole 0x4F 0 = none := by decide +kernel

/-- TransmitQueuesAndEvents: a queue with its last general place and without, a pending ACCEPT-SET, a sent REPLY
to RESTART, a held request, and two general places free and one. -/
theorem witness_queues :
    (let full := selling.mapPort 3 fun q => { q with tx := List.replicate 6 filler }
     (full.port 3).tx.length = 6 ∧ (full.port 3).runOpen = false ∧ (selling.port 3).tx.length < 6 ∧
     (selling.port 3).waiting = []) ∧
    ((selling.port 1).tx = [] ∧ (busyU 1 selling).port 0 ≠ selling.port 0) ∧
    (let s := selling.mapPort 1 fun q =>
       { q with waiting := [{ dest := 2, src := 24, type := 0x58, payload := [0, 7] }] }
     (s.port 1).waiting = [] ++ { dest := 2, src := 24, type := 0x58, payload := [0, 7] } :: [] ∧
     ((roleEntry .coinValidator s.link).map (·.port)) = some 1) ∧
    ((led (.restart 1) selling).port 0).tx.map (·.kind) = [.restartReply] ∧
    (led (.tableRead 1 0 0) (busyU 6 selling)).link.hold.isSome = true ∧
    replyPlace (busyU 5 selling) = true ∧ replyPlace (busyU 6 selling) = false ∧
    (let own : TxFrame := { filler with kind := .own }
     let s := (busyU 5 selling).mapPort 0 fun q => { q with tx := q.tx ++ [own] }
     (s.port 0).state ≠ .quiet ∧ 6 ≤ (s.port 0).tx.length ∧ (s.port 0).tx.getLast? = some own) ∧
    State.reset.events.queue ≠ [] ∧ (State.reset.port 0).tx.length ≤ 4 ∧ (busyU 5 selling).events.queue = [] := by
  decide +kernel

/-- RequestsHeldTakenAndAnswered: every state of the hold, and lengths that are not the type's. -/
theorem witness_requests :
    requestOf (.faultClear 1 5) = some (1, 0x48, [5]) ∧ (selling.port 0).state ≠ .quiet ∧
    ((busyU 5 selling).port 0).tx.length < 6 ∧ 6 ≤ ((busyU 6 selling).port 0).tx.length ∧
    selling.link.hold = none ∧ (led (.faultClear 1 5) (busyU 6 selling)).link.hold ≠ none ∧
    (selling.mapPort 0 Port.quieten).port 0 ≠ selling.port 0 ∧
    ((selling.mapPort 0 Port.quieten).port 0).state = .quiet ∧ ([] : List Byte).length ≠ 1 ∧
    17 ≤ (0x11 : Byte).toNat := by decide +kernel

/-- SalesTableWrites: SELLING and SERVICE, indices in and just out of range, an entry in range and one with motor B
in motor A's column, a DRIVING entry that names the selection, a running engine, a capacity below the count. -/
theorem witness_salesWrites :
    replyPlace selling = true ∧ replyPlace service = true ∧ 96 ≤ (96 : Byte).toNat ∧ (95 : Byte) = byteOf 95 ∧
    (readSelection written27 Reset.selection).isSome = true ∧
    readSelection { written27 with kind := 1, rowB := 3, colB := 5 } Reset.selection = none ∧
    (readSelection { written27 with kind := 1, rowB := 3, colB := 6 } Reset.selection).isSome = true ∧
    (let s := { driving with vend := { driving.vend with sales := .service } }
     replyPlace s = true ∧ s.vend.queue.any (fun v => v.driving && decide (v.selection = 12)) = true) ∧
    (withEngine (run .gap) service).coins.engine.phase ≠ .idle ∧
    (9 : Byte).toNat < service.coins.tubes[(2 : TubeId)].count ∧
    service.coins.tubes[(2 : TubeId)].count ≤ (10 : Byte).toNat ∧ (5000 : Half).toNat ≤ 5000 ∧
    (60000 : Half).toNat ≤ 60000 := by decide +kernel

/-- LinkClassAndSettingsWrites: writes that keep and that move the validator, the ends of each range, and a class
write under which a motor becomes isolated. -/
theorem witness_linkWrites :
    replyPlace service = true ∧ validatorAt service.link = some (2, 1) ∧
    validatorAt (led (.nodeTableWrite 1 1 1 7 1 1) service).link = some (7, 1) ∧
    validatorAt (led (.nodeTableWrite 1 1 0 7 1 1) service).link = none ∧
    validatorAt (led (.nodeTableWrite 1 9 1 8 3 4) service).link = some (2, 1) ∧
    32 ≤ (32 : Byte).toNat ∧ 12 ≤ (12 : Byte).toNat ∧ FaultClass.code .note = 2 ∧
    (40 : Byte).toNat ≤ 40 ∧ (2000 : Half).toNat ≤ 2000 ∧
    (2550 : Half).toNat % 10 = 0 ∧ (1000 : Half).toNat % 10 = 0 ∧
    driving.vend.queue.any (·.driving) = true ∧
    (let s := (withFault 0 (fault .motorStall 0 false) selling).mapFaults fun f =>
       { f with classes := f.classes.set 0 .note }
     isolated (.motor 0) s.faults = false ∧
     isolated (.motor 0) { s.faults with classes := s.faults.classes.set 0 .isolate } = true) := by decide +kernel

/-- ReadsReturnWhatIsHeld: the last index of a table and the first outside, card funds, no claim absent, and a
write that is DONE. -/
theorem witness_reads :
    cardDriven.money.credit.funds = some 120 ∧
    (let p := (claims (granted 3) (waiting 8) (waiting 6) selling).supply
     p.vend.state ≠ .absent ∧ p.compressor.state ≠ .absent ∧ p.heater.state ≠ .absent) ∧
    replyPlace selling = true ∧ (95 : Byte).toNat < 96 ∧ 96 ≤ (96 : Byte).toNat ∧
    (tableWrite 0x05 [31, 1, 0x90, 15, 3, 3] selling).status = .done ∧
    (tableWrite 0x00 (27 :: [1, 0, 140, 1, 3, 5, 3, 6, 2, 10, 1, 0, 0, 0, 0]) service).status = .done ∧
    (tableWrite 0x00 (27 :: [1, 0, 140, 0, 3, 5, 9, 9, 2, 10, 1, 0, 0, 0, 0]) service).status = .done := by
  decide +kernel

/-- FaultReported: a stored record, an empty place, a full list with a NOTE record and one without. -/
theorem witness_faultReported :
    (withFault 0 (fault .tubeJam 2 false) selling).faults.places[(0 : Fin 24)] = some (fault .tubeJam 2 false) ∧
    findPlace .tubeJam 3 (withFault 0 (fault .tubeJam 2 false) selling).faults = none ∧
    selling.faults.places[(0 : Fin 24)] = none ∧
    (∀ o : Fin 24, (fullList .defrostTimeout false selling).faults.places[o] ≠ none) ∧
    oldestNote (fullList .defrostTimeout false selling).faults = some 0 ∧
    (∀ o : Fin 24, (fullList .portQuiet true selling).faults.places[o] ≠ none) ∧
    oldestNote (fullList .portQuiet true selling).faults = none ∧
    isolated (.tube 3) selling.faults = false := by decide +kernel

/-- FaultClearedAndOverflowEnds: index 23 and 24, an empty place, a present condition, a tube freed and one that
another record keeps isolated. -/
theorem witness_faultCleared :
    replyPlace selling = true ∧ 24 ≤ (24 : Byte).toNat ∧ (23 : Byte) = byteOf 23 ∧
    selling.faults.places[(23 : Fin 24)] = none ∧ (fault .portQuiet 1 true).present = true ∧
    (let one := withFault 0 (fault .tubeJam 2 false) selling
     isolated (.tube 2) one.faults = true ∧
     isolated (.tube 2) { one.faults with places := one.faults.places.set 0 none } = false ∧
     isolated (.tube 2) (withFault 1 (fault .tubeJam 2 false) selling).faults = true) := by decide +kernel

/-- WarmRestartActs: a warm restart pending with a card-funded drive, and none pending; a QUIET port with its
record and one that is not QUIET; a validator and none. -/
theorem witness_warmRestart :
    (let s := withFault 3 (fault .portQuiet 2 true) (selling.mapPort 2 Port.quieten)
     (s.port 2).state = .quiet ∧ (s.port 1).state ≠ .quiet ∧ findPlace .portQuiet 2 s.faults = some 3 ∧
     s.faults.places[(3 : Fin 24)] = some (fault .portQuiet 2 true) ∧
     ((warmRestart s).faults.places[(3 : Fin 24)]).map (·.present) = some false) ∧
    ((roleEntry .coinValidator selling.link).map (·.port)) = some 1 ∧
    roleEntry .coinValidator State.reset.link = none ∧
    replyPlace selling = true ∧ selling.link.restartPending = false ∧
    (led (.restart 1) selling).link.restartPending = true ∧
    cardDriving { driving.vend with queue := [entry 0 .card true] } = true ∧
    (driving.vend.queue.find? (·.driving)) = some (entry 0 .cash true) ∧
    (∀ e ∈ selling.vend.queue, e.driving = false) := by decide +kernel

/-- StepTakesTheFrontCommand: a queue with a command and an empty one. -/
theorem witness_step :
    ({ selling with pending := [.exitPulse, .gapEnd] } : State).pending = .exitPulse :: [.gapEnd] ∧
    selling.pending = [] := by decide +kernel

end Sys2Proof.Tests
end

section
/-! PROOFS. The change test (R8): what `cheapest` and `changeTest` give, in terms of the selections that qualify. -/

namespace Sys2Proof.Machine

/-- Whether selection i passes checks 2 to 5 and has a price above 0, so that R8 counts it. -/
def Qualifies (s : State) (i : Fin 96) : Prop :=
  s.vend.selections[i].enabled = true ∧ s.vend.selections[i].empty = false ∧
  faultBlocks s.vend.selections[i] s = false ∧ heldBlocks s.vend.selections[i] s = false ∧
  0 < s.vend.selections[i].price

theorem vendable_iff (x : Selection) (s : State) :
    vendable x s = true ↔
      x.enabled = true ∧ x.empty = false ∧ faultBlocks x s = false ∧ heldBlocks x s = false := by
  simp [vendable, and_assoc]

theorem qualifies_iff (s : State) (i : Fin 96) :
    Qualifies s i ↔ vendable s.vend.selections[i] s = true ∧ 0 < s.vend.selections[i].price := by
  simp only [Qualifies, vendable_iff, and_assoc]

/-- The prices of which `cheapest` takes the smallest. -/
def qualifyingPrices (s : State) : List Nat :=
  (s.vend.selections.toList.filter fun x => vendable x s && decide (0 < x.price)).map (·.price)

theorem cheapest_eq_min (s : State) : cheapest s = (qualifyingPrices s).min? := rfl

theorem mem_toList_iff_getElem_fin {α : Type} {n : Nat} (v : Vector α n) (x : α) :
    x ∈ v.toList ↔ ∃ i : Fin n, v[i] = x := by
  simp only [Vector.mem_toList_iff, Vector.mem_iff_getElem, Fin.exists_iff, Fin.getElem_fin]

theorem mem_qualifyingPrices (s : State) (p : Nat) :
    p ∈ qualifyingPrices s ↔ ∃ i, Qualifies s i ∧ s.vend.selections[i].price = p := by
  simp only [qualifyingPrices, List.mem_map, List.mem_filter, mem_toList_iff_getElem_fin,
    Bool.and_eq_true, decide_eq_true_eq, qualifies_iff]
  constructor
  · rintro ⟨_, ⟨⟨i, rfl⟩, hqualifies⟩, hprice⟩
    exact ⟨i, hqualifies, hprice⟩
  · rintro ⟨i, hqualifies, hprice⟩
    exact ⟨_, ⟨⟨i, rfl⟩, hqualifies⟩, hprice⟩

theorem cheapest_eq_none_iff (s : State) : cheapest s = none ↔ ∀ i, ¬ Qualifies s i := by
  simp [cheapest_eq_min, List.min?_eq_none_iff, List.eq_nil_iff_forall_not_mem, mem_qualifyingPrices]

theorem cheapest_eq_some_iff (s : State) (p : Nat) :
    cheapest s = some p ↔
      ∃ i, Qualifies s i ∧ (∀ j, Qualifies s j → s.vend.selections[i].price ≤ s.vend.selections[j].price) ∧
        s.vend.selections[i].price = p := by
  rw [cheapest_eq_min, List.min?_eq_some_iff]
  simp only [mem_qualifyingPrices]
  constructor
  · rintro ⟨⟨i, hi, rfl⟩, hleast⟩
    exact ⟨i, hi, fun j hj => hleast _ ⟨j, hj, rfl⟩, rfl⟩
  · rintro ⟨i, hi, hleast, rfl⟩
    refine ⟨⟨i, hi, rfl⟩, ?_⟩
    rintro _ ⟨j, hj, rfl⟩
    exact hleast j hj

theorem changeTest_of_cheapest_none {s : State} (w : Nat) (h : cheapest s = none) :
    changeTest w s = true := by
  simp [changeTest, h]

theorem changeTest_of_cheapest_some {s : State} {p : Nat} (w : Nat) (h : cheapest s = some p) :
    changeTest w s = true ↔
      s.money.credit.cash.toNat + w ≤ p ∨
        (payoutPlan [] (s.money.credit.cash.toNat + w - p) s).2 = 0 := by
  by_cases hle : s.money.credit.cash.toNat + w ≤ p <;> simp [changeTest, h, hle]

/-- The two disjuncts are the two answers of `cheapest`: nothing, and the least qualifying price. -/
theorem changeTest_iff (w : Nat) (s : State) :
    changeTest w s = true ↔
      (∀ i, ¬ Qualifies s i) ∨
      ∃ i, Qualifies s i ∧ (∀ j, Qualifies s j → s.vend.selections[i].price ≤ s.vend.selections[j].price) ∧
        (s.money.credit.cash.toNat + w ≤ s.vend.selections[i].price ∨
          (payoutPlan [] (s.money.credit.cash.toNat + w - s.vend.selections[i].price) s).2 = 0) := by
  constructor
  · intro hpass
    cases hc : cheapest s with
    | none => exact .inl ((cheapest_eq_none_iff s).mp hc)
    | some p =>
      obtain ⟨i, hi, hleast, rfl⟩ := (cheapest_eq_some_iff s p).mp hc
      exact .inr ⟨i, hi, hleast, (changeTest_of_cheapest_some w hc).mp hpass⟩
  · rintro (hnone | ⟨i, hi, hleast, hpays⟩)
    · exact changeTest_of_cheapest_none w ((cheapest_eq_none_iff s).mpr hnone)
    · have hc : cheapest s = some s.vend.selections[i].price :=
        (cheapest_eq_some_iff s _).mpr ⟨i, hi, hleast, rfl⟩
      exact (changeTest_of_cheapest_some w hc).mpr hpays

/-- Settles O3: the statement's qualifying selections are those of `Qualifies`. -/
theorem changeTestByCheapestSelection : Obligations.ChangeTestByCheapestSelection :=
  fun s w => changeTest_iff w s

end Sys2Proof.Machine
end

section
/-! PROOFS. The positions of a plan (R36): which tubes they hold, and their order. -/

namespace Sys2Proof.Machine

theorem eligible_iff (excluded : List TubeId) (s : State) (t : TubeId) :
    eligible excluded s t = true ↔
      1 ≤ tubeValue t s.coins ∧ jammed t s = false ∧ 1 ≤ s.coins.tubes[t].count ∧ t ∉ excluded := by
  simp [eligible, and_assoc]

/-- The position a tube takes when it is eligible. -/
def positionOf (s : State) (t : TubeId) : Position where
  tube := t
  value := tubeValue t s.coins
  count := s.coins.tubes[t].count

/-- The order of R36: the higher value first, and tubes of equal value in number order. -/
def Precedes (p q : Position) : Prop := q.value < p.value ∨ (p.value = q.value ∧ p.tube < q.tube)

theorem insertPosition_perm (p : Position) (ps : List Position) : (insertPosition p ps).Perm (p :: ps) := by
  induction ps with
  | nil => exact .refl _
  | cons q qs ih =>
    unfold insertPosition
    split
    · exact .refl _
    · exact (ih.cons q).trans (.swap p q qs)

/-- The new tube has the highest number, so it stands right behind those of equal value. -/
theorem pairwise_insertPosition {p : Position} {ps : List Position} (hps : ps.Pairwise Precedes)
    (hlast : ∀ q ∈ ps, q.tube < p.tube) : (insertPosition p ps).Pairwise Precedes := by
  induction ps with
  | nil => exact List.pairwise_singleton _ _
  | cons q qs ih =>
    obtain ⟨hq, hqs⟩ := List.pairwise_cons.mp hps
    unfold insertPosition
    split
    case isTrue hlt =>
      refine List.pairwise_cons.mpr ⟨fun r hr => .inl ?_, hps⟩
      rcases List.mem_cons.mp hr with rfl | hr
      · exact hlt
      · rcases hq r hr with h | ⟨h, -⟩ <;> omega
    case isFalse hge =>
      refine List.pairwise_cons.mpr ⟨fun r hr => ?_, ih hqs fun r hr => hlast r (List.mem_cons_of_mem q hr)⟩
      rcases List.mem_cons.mp ((insertPosition_perm p qs).mem_iff.mp hr) with rfl | hr
      · have htube := hlast q List.mem_cons_self
        rcases Nat.lt_or_eq_of_le (Nat.le_of_not_lt hge) with h | h
        · exact .inl h
        · exact .inr ⟨h.symm, htube⟩
      · exact hq r hr

/-- The positions of a list of tubes, each inserted behind those already placed in `ps`. -/
def insertTubes (s : State) (ts : List TubeId) (ps : List Position) : List Position :=
  ts.foldl (fun ps t => insertPosition (positionOf s t) ps) ps

theorem positions_eq_insertTubes (excluded : List TubeId) (s : State) :
    positions excluded s = insertTubes s ((List.finRange 6).filter (eligible excluded s)) [] := rfl

theorem insertTubes_perm (s : State) (ts : List TubeId) (ps : List Position) :
    (insertTubes s ts ps).Perm (ts.map (positionOf s) ++ ps) := by
  induction ts generalizing ps with
  | nil => exact .refl _
  | cons t ts ih =>
    have hmiddle := (insertPosition_perm (positionOf s t) ps).append_left (ts.map (positionOf s))
    exact (ih _).trans (hmiddle.trans List.perm_middle)

theorem pairwise_insertTubes {s : State} {ts : List TubeId} {ps : List Position}
    (hts : ts.Pairwise (· < ·)) (hps : ps.Pairwise Precedes) (hlast : ∀ q ∈ ps, ∀ t ∈ ts, q.tube < t) :
    (insertTubes s ts ps).Pairwise Precedes := by
  induction ts generalizing ps with
  | nil => exact hps
  | cons t ts ih =>
    obtain ⟨ht, hts⟩ := List.pairwise_cons.mp hts
    refine ih hts (pairwise_insertPosition hps fun q hq => hlast q hq t List.mem_cons_self) ?_
    intro q hq u hu
    rcases List.mem_cons.mp ((insertPosition_perm (positionOf s t) ps).mem_iff.mp hq) with rfl | hq
    · exact ht u hu
    · exact hlast q hq u (List.mem_cons_of_mem t hu)

theorem positions_perm (excluded : List TubeId) (s : State) :
    (positions excluded s).Perm (((List.finRange 6).filter (eligible excluded s)).map (positionOf s)) := by
  simpa [positions_eq_insertTubes] using
    insertTubes_perm s ((List.finRange 6).filter (eligible excluded s)) []

theorem mem_positions {excluded : List TubeId} {s : State} {p : Position} :
    p ∈ positions excluded s ↔
      eligible excluded s p.tube = true ∧ p.value = tubeValue p.tube s.coins ∧
        p.count = s.coins.tubes[p.tube].count := by
  rw [(positions_perm excluded s).mem_iff]
  simp only [List.mem_map, List.mem_filter, List.mem_finRange, true_and]
  constructor
  · rintro ⟨t, ht, rfl⟩
    exact ⟨ht, rfl, rfl⟩
  · obtain ⟨t, v, c⟩ := p
    rintro ⟨ht, hv, hc⟩
    exact ⟨t, ht, (congrArg₂ (Position.mk t) hv hc).symm⟩

theorem pairwise_positions (excluded : List TubeId) (s : State) :
    (positions excluded s).Pairwise Precedes :=
  pairwise_insertTubes ((List.pairwise_lt_finRange 6).filter _) .nil (by simp)

theorem nodup_positions_tube (excluded : List TubeId) (s : State) :
    ((positions excluded s).map fun p => p.tube).Nodup := by
  have hperm : ((positions excluded s).map fun p => p.tube).Perm
      ((List.finRange 6).filter (eligible excluded s)) := by
    simpa [Function.comp_def, positionOf] using (positions_perm excluded s).map fun p => p.tube
  exact hperm.nodup_iff.mpr ((List.nodup_finRange 6).filter _)

end Sys2Proof.Machine
end

section
/-! PROOFS. The payout plan (R37, R38): `Pays` says what both stages keep, and stage B is a search among the
candidates that `Whole` describes. -/

namespace Sys2Proof.Machine

/-- Taking the coins `ns` at the positions `ps`, in turn, out of amount x with allowance y stays within every
count, the amount and the allowance, and leaves r. -/
inductive Pays : List Position → List Nat → (x y r : Nat) → Prop
  | nil (x y : Nat) : Pays [] [] x y x
  | cons {p : Position} {ps : List Position} {n : Nat} {ns : List Nat} {x y r : Nat}
      (hcount : n ≤ p.count) (hamount : n * p.value ≤ x) (hallowance : n ≤ y)
      (hrest : Pays ps ns (x - n * p.value) (y - n) r) : Pays (p :: ps) (n :: ns) x y r

theorem greedy_pays (ps : List Position) (x y : Nat) : Pays ps (greedy ps x y).1 x y (greedy ps x y).2 := by
  induction ps generalizing x y with
  | nil => exact .nil x y
  | cons p ps ih =>
    have hdiv : min p.count (min (x / p.value) y) ≤ x / p.value := by omega
    exact .cons (by omega) ((Nat.mul_le_mul_right _ hdiv).trans (Nat.div_mul_le_self x p.value)) (by omega)
      (ih _ _)

/-- A candidate takes no more than stage A up to its position, and a greedy pass behind it. -/
theorem Pays.stageB {ps : List Position} {ns : List Nat} {x y r : Nat} (h : Pays ps ns x y r)
    {c : List Nat} (hc : stageB ps ns x y = some c) : Pays ps c x y 0 := by
  induction h generalizing c with
  | nil => simp [Machine.stageB] at hc
  | @cons p ps n ns x y r hcount hamount hallowance _ ih =>
    simp only [Machine.stageB] at hc
    split at hc
    case isTrue hwhole =>
      cases hc
      have hfewer : (n - 1) * p.value ≤ x := (Nat.mul_le_mul_right _ (by omega)).trans hamount
      exact .cons (by omega) hfewer (by omega) (hwhole.2 ▸ greedy_pays _ _ _)
    case isFalse =>
      obtain ⟨behind, hbehind, rfl⟩ := Option.map_eq_some_iff.mp hc
      exact .cons hcount hamount hallowance (ih hbehind)

theorem planCounts_of_stageA {ps : List Position} {a l : Nat} (h : (greedy ps a l).2 = 0) :
    planCounts ps a l = greedy ps a l := by
  simp [planCounts, h]

theorem planCounts_of_stageB {ps : List Position} {a l : Nat} {c : List Nat} (h : (greedy ps a l).2 ≠ 0)
    (hc : stageB ps (greedy ps a l).1 a l = some c) : planCounts ps a l = (c, 0) := by
  simp [planCounts, h, hc]

theorem planCounts_of_stageB_none {ps : List Position} {a l : Nat}
    (hc : stageB ps (greedy ps a l).1 a l = none) : planCounts ps a l = greedy ps a l := by
  simp [planCounts, hc]

theorem planCounts_pays (ps : List Position) (a l : Nat) :
    Pays ps (planCounts ps a l).1 a l (planCounts ps a l).2 := by
  by_cases hA : (greedy ps a l).2 = 0
  · rw [planCounts_of_stageA hA]
    exact greedy_pays ps a l
  · cases hB : stageB ps (greedy ps a l).1 a l with
    | none =>
      rw [planCounts_of_stageB_none hB]
      exact greedy_pays ps a l
    | some c =>
      rw [planCounts_of_stageB hA hB]
      exact (greedy_pays ps a l).stageB hB

/-! ## The limits (R38) -/

/-- The plan that takes the coins `ns` at the positions `ps`, without its zero entries. -/
def entries (ps : List Position) (ns : List Nat) : List (TubeId × Nat) :=
  ((ps.map fun p => p.tube).zip ns).filter fun e => decide (e.2 ≠ 0)

theorem payoutPlan_eq (excluded : List TubeId) (a : Nat) (s : State) :
    payoutPlan excluded a s =
      (entries (positions excluded s) (planCounts (positions excluded s) a s.coins.allowance).1,
        (planCounts (positions excluded s) a s.coins.allowance).2) := rfl

@[simp] theorem entries_nil (ns : List Nat) : entries [] ns = [] := rfl

theorem entries_cons (p : Position) (ps : List Position) (n : Nat) (ns : List Nat) :
    entries (p :: ps) (n :: ns) = if n = 0 then entries ps ns else (p.tube, n) :: entries ps ns := by
  by_cases hn : n = 0 <;> simp [entries, hn]

@[simp] theorem planValue_entries_cons (c : Coins) (p : Position) (ps : List Position) (n : Nat)
    (ns : List Nat) : planValue c (entries (p :: ps) (n :: ns)) =
      tubeValue p.tube c * n + planValue c (entries ps ns) := by
  by_cases hn : n = 0 <;> simp [entries_cons, planValue, hn]

@[simp] theorem planCoins_entries_cons (p : Position) (ps : List Position) (n : Nat) (ns : List Nat) :
    planCoins (entries (p :: ps) (n :: ns)) = n + planCoins (entries ps ns) := by
  by_cases hn : n = 0 <;> simp [entries_cons, planCoins, hn]

theorem Pays.planValue_add {ps : List Position} {ns : List Nat} {x y r : Nat} (h : Pays ps ns x y r)
    {c : Coins} (hvalue : ∀ p ∈ ps, p.value = tubeValue p.tube c) :
    planValue c (entries ps ns) + r = x := by
  induction h with
  | nil x y => simp [planValue]
  | @cons p ps n ns x y r _ hamount _ _ ih =>
    have hrest := ih fun q hq => hvalue q (List.mem_cons_of_mem p hq)
    rw [planValue_entries_cons, ← hvalue p List.mem_cons_self, Nat.mul_comm p.value n]
    omega

theorem Pays.planCoins_le {ps : List Position} {ns : List Nat} {x y r : Nat} (h : Pays ps ns x y r) :
    planCoins (entries ps ns) ≤ y := by
  induction h with
  | nil x y => simp [planCoins]
  | cons _ _ _ _ ih => rw [planCoins_entries_cons]; omega

theorem Pays.mem_entries {ps : List Position} {ns : List Nat} {x y r : Nat} (h : Pays ps ns x y r)
    {e : TubeId × Nat} (he : e ∈ entries ps ns) : 1 ≤ e.2 ∧ ∃ p ∈ ps, p.tube = e.1 ∧ e.2 ≤ p.count := by
  induction h with
  | nil => simp at he
  | @cons p ps n ns x y r hcount _ _ _ ih =>
    have hbehind (he : e ∈ entries ps ns) : 1 ≤ e.2 ∧ ∃ q ∈ p :: ps, q.tube = e.1 ∧ e.2 ≤ q.count := by
      obtain ⟨hpos, q, hq, hrest⟩ := ih he
      exact ⟨hpos, q, List.mem_cons_of_mem p hq, hrest⟩
    rw [entries_cons] at he
    split at he
    case isTrue => exact hbehind he
    case isFalse hn =>
      rcases List.mem_cons.mp he with rfl | he
      · exact ⟨Nat.pos_of_ne_zero hn, p, List.mem_cons_self, rfl, hcount⟩
      · exact hbehind he

theorem map_fst_entries_sublist (ps : List Position) (ns : List Nat) :
    ((entries ps ns).map Prod.fst).Sublist (ps.map fun p => p.tube) := by
  induction ps generalizing ns with
  | nil => exact .refl _
  | cons p ps ih =>
    cases ns with
    | nil => simp [entries]
    | cons n ns =>
      rw [entries_cons]
      split
      · exact (ih ns).cons _
      · exact (ih ns).cons_cons _

theorem payoutPlan_value (excluded : List TubeId) (a : Nat) (s : State) :
    planValue s.coins (payoutPlan excluded a s).1 + (payoutPlan excluded a s).2 = a :=
  (planCounts_pays _ _ _).planValue_add fun _ hp => (mem_positions.mp hp).2.1

theorem payoutPlan_coins_le (excluded : List TubeId) (a : Nat) (s : State) :
    planCoins (payoutPlan excluded a s).1 ≤ s.coins.allowance :=
  (planCounts_pays _ _ _).planCoins_le

theorem mem_payoutPlan {excluded : List TubeId} {a : Nat} {s : State} {e : TubeId × Nat}
    (he : e ∈ (payoutPlan excluded a s).1) :
    1 ≤ e.2 ∧ e.2 ≤ s.coins.tubes[e.1].count ∧ eligible excluded s e.1 = true := by
  obtain ⟨t, n⟩ := e
  obtain ⟨hpos, p, hp, rfl, hcount⟩ := (planCounts_pays _ _ _).mem_entries he
  obtain ⟨heligible, -, hheld⟩ := mem_positions.mp hp
  exact ⟨hpos, hcount.trans_eq hheld, heligible⟩

theorem nodup_payoutPlan_tube (excluded : List TubeId) (a : Nat) (s : State) :
    ((payoutPlan excluded a s).1.map Prod.fst).Nodup :=
  (map_fst_entries_sublist _ _).nodup (nodup_positions_tube excluded s)

/-- An entry of the plan would have a value above 0. -/
theorem payoutPlan_zero (excluded : List TubeId) (s : State) : payoutPlan excluded 0 s = ([], 0) := by
  have hvalue := payoutPlan_value excluded 0 s
  refine Prod.ext (List.eq_nil_iff_forall_not_mem.mpr fun e he => ?_) (by omega)
  obtain ⟨hpos, -, heligible⟩ := mem_payoutPlan he
  have hworth : 1 ≤ tubeValue e.1 s.coins * e.2 :=
    Nat.mul_pos ((eligible_iff excluded s e.1).mp heligible).1 hpos
  have hpart : tubeValue e.1 s.coins * e.2 ≤ planValue s.coins (payoutPlan excluded 0 s).1 :=
    List.le_sum_of_mem (List.mem_map.mpr ⟨e, he, rfl⟩)
  omega

theorem payoutPlan_of_no_eligible {excluded : List TubeId} {s : State} (a : Nat)
    (hnone : ∀ t, eligible excluded s t = false) : payoutPlan excluded a s = ([], a) := by
  have hempty : (payoutPlan excluded a s).1 = [] := by
    refine List.eq_nil_iff_forall_not_mem.mpr fun e he => ?_
    obtain ⟨-, -, heligible⟩ := mem_payoutPlan he
    simp [hnone] at heligible
  have hvalue := payoutPlan_value excluded a s
  rw [hempty] at hvalue
  exact Prod.ext hempty (by simpa [planValue] using hvalue)

/-! ## The candidates of stage B (R37) -/

/-- The coins of candidate i up to position i: those of stage A, one fewer at position i. -/
def keptCoins (ns : List Nat) (i : Nat) : List Nat := ns.take i ++ [ns.getD i 0 - 1]

/-- The greedy pass of candidate i behind position i, with what `keptCoins` leaves. -/
def passBehind (ps : List Position) (ns : List Nat) (x y i : Nat) : List Nat × Nat :=
  greedy (ps.drop (i + 1)) (x - (((keptCoins ns i).zip ps).map fun e => e.1 * e.2.value).sum)
    (y - (keptCoins ns i).sum)

/-- Candidate i exists and has remainder 0. -/
def Whole (ps : List Position) (ns : List Nat) (x y i : Nat) : Prop :=
  1 ≤ ns.getD i 0 ∧ (passBehind ps ns x y i).2 = 0

theorem keptCoins_zero (n : Nat) (ns : List Nat) : keptCoins (n :: ns) 0 = [n - 1] := rfl

theorem keptCoins_succ (n : Nat) (ns : List Nat) (i : Nat) :
    keptCoins (n :: ns) (i + 1) = n :: keptCoins ns i := rfl

theorem passBehind_zero (p : Position) (ps : List Position) (n : Nat) (ns : List Nat) (x y : Nat) :
    passBehind (p :: ps) (n :: ns) x y 0 = greedy ps (x - (n - 1) * p.value) (y - (n - 1)) := by
  simp [passBehind, keptCoins_zero]

theorem passBehind_succ (p : Position) (ps : List Position) (n : Nat) (ns : List Nat) (x y i : Nat) :
    passBehind (p :: ps) (n :: ns) x y (i + 1) = passBehind ps ns (x - n * p.value) (y - n) i := by
  simp [passBehind, keptCoins_succ, Nat.sub_sub]

theorem whole_succ (p : Position) (ps : List Position) (n : Nat) (ns : List Nat) (x y i : Nat) :
    Whole (p :: ps) (n :: ns) x y (i + 1) ↔ Whole ps ns (x - n * p.value) (y - n) i := by
  simp [Whole, passBehind_succ]

theorem stageB_of_whole_zero {p : Position} {ps : List Position} {n : Nat} {ns : List Nat} {x y : Nat}
    (h : Whole (p :: ps) (n :: ns) x y 0) :
    stageB (p :: ps) (n :: ns) x y =
      some (keptCoins (n :: ns) 0 ++ (passBehind (p :: ps) (n :: ns) x y 0).1) := by
  obtain ⟨htaken, hrest⟩ := h
  rw [passBehind_zero] at hrest ⊢
  exact if_pos ⟨htaken, hrest⟩

theorem stageB_of_not_whole_zero {p : Position} {ps : List Position} {n : Nat} {ns : List Nat} {x y : Nat}
    (h : ¬ Whole (p :: ps) (n :: ns) x y 0) :
    stageB (p :: ps) (n :: ns) x y = (stageB ps ns (x - n * p.value) (y - n)).map (n :: ·) := by
  rw [Whole, passBehind_zero] at h
  exact if_neg h

theorem Pays.stageB_eq_some {ps : List Position} {ns : List Nat} {x y r : Nat} (h : Pays ps ns x y r)
    {i : Nat} (hwhole : Whole ps ns x y i) (hfirst : ∀ j < i, ¬ Whole ps ns x y j) :
    Machine.stageB ps ns x y = some (keptCoins ns i ++ (passBehind ps ns x y i).1) := by
  induction h generalizing i with
  | nil => simp [Whole] at hwhole
  | cons _ _ _ _ ih =>
    cases i with
    | zero => exact stageB_of_whole_zero hwhole
    | succ i =>
      rw [stageB_of_not_whole_zero (hfirst 0 i.succ_pos), passBehind_succ,
        ih ((whole_succ ..).mp hwhole) fun j hj hj' => hfirst (j + 1) (by omega) ((whole_succ ..).mpr hj')]
      rfl

theorem Pays.stageB_eq_none {ps : List Position} {ns : List Nat} {x y r : Nat} (h : Pays ps ns x y r)
    (hnone : ∀ i, ¬ Whole ps ns x y i) : Machine.stageB ps ns x y = none := by
  induction h with
  | nil => rfl
  | cons _ _ _ _ ih =>
    rw [stageB_of_not_whole_zero (hnone 0), ih fun i hi => hnone (i + 1) ((whole_succ ..).mpr hi)]
    rfl

theorem planCounts_of_first_whole {ps : List Position} {a l i : Nat} (hA : (greedy ps a l).2 ≠ 0)
    (hwhole : Whole ps (greedy ps a l).1 a l i) (hfirst : ∀ j < i, ¬ Whole ps (greedy ps a l).1 a l j) :
    planCounts ps a l =
      (keptCoins (greedy ps a l).1 i ++ (passBehind ps (greedy ps a l).1 a l i).1, 0) :=
  planCounts_of_stageB hA ((greedy_pays ps a l).stageB_eq_some hwhole hfirst)

theorem planCounts_of_no_whole {ps : List Position} {a l : Nat}
    (hnone : ∀ i, ¬ Whole ps (greedy ps a l).1 a l i) : planCounts ps a l = greedy ps a l :=
  planCounts_of_stageB_none ((greedy_pays ps a l).stageB_eq_none hnone)

/-- Settles O10: both stages take coins as `Pays` says, and the candidates are those of `Whole`. -/
theorem payoutPlanKeepsLimits : Obligations.PayoutPlanKeepsLimits := by
  refine ⟨fun s excluded a => ?limits, fun s excluded => ?order, fun _ _ _ _ => ⟨rfl, rfl⟩,
    fun ps a l => ?stages⟩
  case limits =>
    refine ⟨payoutPlan_value excluded a s, payoutPlan_coins_le excluded a s, fun _ => mem_payoutPlan,
      nodup_payoutPlan_tube excluded a s, ?_, payoutPlan_of_no_eligible a⟩
    rintro rfl
    exact payoutPlan_zero excluded s
  case order =>
    exact ⟨eligible_iff excluded s, fun _ => mem_positions, pairwise_positions excluded s,
      fun a => payoutPlan_eq excluded a s⟩
  case stages =>
    exact ⟨planCounts_of_stageA, fun _ => planCounts_of_first_whole, fun _ => planCounts_of_no_whole⟩

end Sys2Proof.Machine
end

section
/-! PROOFS. The accept set (R49, R50): its members, and when a recomputation issues it. -/

namespace Sys2Proof.Machine

theorem acceptOpen_iff (s : State) :
    acceptOpen s = true ↔
      s.vend.sales = .selling ∧ s.vend.doorOpen = false ∧
        ∀ n, roleEntry .coinValidator s.link = some n → (s.port n.port).state ≠ .quiet := by
  cases h : roleEntry .coinValidator s.link <;> simp [acceptOpen, h, and_assoc]

theorem accepted_iff (s : State) (c : Fin 16) :
    accepted s c = true ↔
      s.coins.table[c].value ≠ 0 ∧
      (s.coins.table[c].policy = .always ∨
        (s.coins.table[c].policy = .whenAssured ∧ s.coins.assured = true)) ∧
      s.money.credit.cash.toNat + s.coins.table[c].value ≤ s.money.credit.limit ∧
      acceptOpen s = true := by
  simp only [accepted, Bool.and_eq_true, decide_eq_true_eq, and_assoc]
  cases s.coins.table[c].policy <;> simp

theorem getLsbD_acceptSet (s : State) (c : Fin 16) : (acceptSet s).getLsbD c.val = accepted s c := by
  simp [acceptSet]

theorem recomputeAccept_of_differs {s : State} {n : Node} (hnode : roleEntry .coinValidator s.link = some n)
    (hset : s.coins.lastAccept ≠ some (acceptSet s)) : recomputeAccept s = issueAccept s :=
  if_pos ⟨by simp [hnode], hset⟩

theorem recomputeAccept_of_no_node {s : State} (h : roleEntry .coinValidator s.link = none) :
    recomputeAccept s = s :=
  if_neg (by simp [h])

theorem recomputeAccept_of_same {s : State} (h : s.coins.lastAccept = some (acceptSet s)) :
    recomputeAccept s = s :=
  if_neg (by simp [h])

/-- Settles O12: bit c of the set is `accepted` of class c, and `recomputeAccept` issues or leaves the state. -/
theorem acceptSetMembers : Obligations.AcceptSetMembers := by
  refine ⟨fun s => ⟨rfl, fun n => recomputeAccept_of_differs, ?_⟩, fun s c => ?_⟩
  · rintro (hnone | hsame)
    · exact recomputeAccept_of_no_node hnone
    · exact recomputeAccept_of_same hsame
  · rw [getLsbD_acceptSet, accepted_iff, acceptOpen_iff]

end Sys2Proof.Machine
end

section
/-! PROOFS. What every operation keeps: the propositions of Safety.lean, stated so that they can be followed through
an operation that is half done, and the relation `Keeps` under which operations compose. -/

namespace Sys2Proof.Machine

/-- What an operation under way has begun and not yet finished. -/
structure Pledge where
  /-- the entry that has left the vend queue and whose end the card session has not yet judged -/
  left : Option Entry := none
  /-- the entry that has left the vend queue and whose commitment is not yet returned or charged -/
  owed : Option Entry := none
  /-- a request has been taken and its REPLY is still to come -/
  replyDue : Bool := false
  /-- the payout run has given its amount back and is still to be replaced or ended -/
  runEnding : Bool := false
  /-- zones whose effective setpoint is still to be formed again -/
  unformed : List ZoneId := []

/-- No entry is on its way out of the vend queue. -/
def Pledge.settled (g : Pledge) : Prop := g.left = none ∧ g.owed = none

/-- The commitments of the entries with these funds. -/
def committedIn (f : Funds) (q : List Entry) : Nat := ((q.filter fun x => decide (x.funds = f)).map (·.price)).sum

/-- The commitment still to be returned or charged, of these funds. -/
def Pledge.owedIn (g : Pledge) (f : Funds) : Nat := committedIn f g.owed.toList

/-- The engine's side of `CashSound`. -/
def RunSound (c : Coins) (payout : Word) : Prop :=
  (c.engine.phase ≠ .idle → c.engine.manual = false →
    planValue c c.engine.plan + c.engine.remainder.toNat ≤ payout.toNat) ∧
  (∀ x ∈ c.engine.plan, 1 ≤ x.2) ∧
  (c.engine.phase = .pulse ∨ c.engine.phase = .exitWait →
    ∃ x rest, c.engine.plan = x :: rest ∧ c.engine.current = some x.1)

/-- `CashSound`, the entry that is owed counted in and an ending payout run left out. -/
structure CashHeld (g : Pledge) (r : Credit) (q : List Entry) (c : Coins) : Prop where
  ceiling : r.cash.toNat + r.payout.toNat < 2 ^ 32
  sum : r.committed.toNat = committedIn .cash q + g.owedIn .cash
  covered : r.committed.toNat ≤ r.cash.toNat
  run : g.runEnding = false → RunSound c r.payout

/-- `CardSound`, the entry that is owed counted in; a DRIVING entry that has left was the only one. -/
structure CardHeld (g : Pledge) (r : Credit) (q : List Entry) : Prop where
  sum : r.cardCommitted.toNat = committedIn .card q + g.owedIn .card
  covered : r.session ≠ .none → r.cardCommitted.toNat ≤ (r.funds.getD 0).toNat
  none_cash : r.session = .none → ∀ e ∈ q, e.funds = .cash
  ending_driving : r.session = .ending → ∀ e ∈ q, e.funds = .card → e.driving = true
  head_only : ∀ e es, q = e :: es → ∀ x ∈ es, x.driving = false
  left_only : ∀ e, g.left = some e → e.driving = true → ∀ x ∈ q, x.driving = false

/-- `CardPlacesFit` with the place of the entry that is owed. -/
def PlacesHeld (g : Pledge) (s : State) : Prop :=
  cardCount s + (g.owed.toList.filter fun e => decide (e.funds = .card)).length ≤ 4

/-- The place for the REPLY that is due: free, or taken by an ACCEPT-SET that will give it up. -/
def ReplyFits (g : Pledge) (s : State) : Prop :=
  g.replyDue = true → (s.port 0).tx.length < 6 ∨
    ∃ x, (s.port 0).tx.getLast? = some x ∧ x.kind = .own ∧ x.frame.type = typeAcceptSet

/-- `SetpointsClamped` for the zones that are not to be formed again. -/
def SetpointsHeld (g : Pledge) (s : State) : Prop :=
  ∀ z : ZoneId, z ∉ g.unformed →
    s.cooling.zones[z].effective =
      effectiveOf s.cooling.zones[z].setpoint s.cabinet.holds[z].limit s.cabinet.economy.offset
        s.cabinet.economy.state

/-- Every promise of Safety.lean that holds of `s` under the pledge `g` holds of `t` under `g'`, and the commands that
wait are the same. -/
structure Keeps (g : Pledge) (s : State) (g' : Pledge) (t : State) : Prop where
  balanced : MoneyBalanced s → MoneyBalanced t := by exact id
  budget : WithinBudget s → WithinBudget t := by exact id
  tubes : TubesHold s → TubesHold t := by exact id
  flights : FlightsFit s → FlightsFit t := by exact id
  queue : QueueFits s → QueueFits t := by exact id
  events : EventsFit s → EventsFit t := by exact id
  places : PlacesHeld g s → PlacesHeld g' t := by exact id
  reply : ReplyFits g s → ReplyFits g' t := by exact id
  queues : ReplyFits g s → QueuesHold s → QueuesHold t := by exact fun _ => id
  pending : ReplyFits g s → PlacesHeld g s → PendingFit s → PendingFit t := by exact fun _ _ => id
  cash : CashHeld g s.money.credit s.vend.queue s.coins →
    CashHeld g' t.money.credit t.vend.queue t.coins := by exact id
  card : CardHeld g s.money.credit s.vend.queue → CardHeld g' t.money.credit t.vend.queue := by exact id
  drive : DriveNeedsGrant s → DriveNeedsGrant t := by exact id
  loads : LoadsApart s → LoadsApart t := by exact id
  holds : HoldsCount s → HoldsCount t := by exact id
  setpoints : SetpointsHeld g s → SetpointsHeld g' t := by exact id
  waits : t.pending = s.pending := by rfl

theorem Keeps.refl (g : Pledge) (s : State) : Keeps g s g s := {}

theorem Keeps.trans {g g' g'' : Pledge} {s t u : State} (h : Keeps g s g' t) (k : Keeps g' t g'' u) :
    Keeps g s g'' u where
  balanced x := k.balanced (h.balanced x)
  budget x := k.budget (h.budget x)
  tubes x := k.tubes (h.tubes x)
  flights x := k.flights (h.flights x)
  queue x := k.queue (h.queue x)
  events x := k.events (h.events x)
  places x := k.places (h.places x)
  reply x := k.reply (h.reply x)
  queues r x := k.queues (h.reply r) (h.queues r x)
  pending r p x := k.pending (h.reply r) (h.places p) (h.pending r p x)
  cash x := k.cash (h.cash x)
  card x := k.card (h.card x)
  drive x := k.drive (h.drive x)
  loads x := k.loads (h.loads x)
  holds x := k.holds (h.holds x)
  setpoints x := k.setpoints (h.setpoints x)
  waits := k.waits.trans h.waits

/-- A fold of operations that keep everything keeps everything. -/
theorem Keeps.foldl {α : Type} {g : Pledge} {f : State → α → State} (h : ∀ s a, Keeps g s g (f s a)) (l : List α)
    (s : State) : Keeps g s g (l.foldl f s) := by
  induction l generalizing s with
  | nil => exact .refl g s
  | cons a l ih => exact (h s a).trans (ih (f s a))

/-! ## Ports -/

/-- The frames in a queue that are no REPLY. -/
def generalTaken (q : Port) : Nat := (q.tx.filter fun f => !f.kind.isReply).length

theorem generalFree_eq (q : Port) : generalFree q = min (5 - generalTaken q) (6 - q.tx.length) := rfl

theorem generalTaken_enqueue (q : Port) (f : Frame) (k : TxKind) :
    generalTaken (q.enqueue f k) = generalTaken q + if k.isReply then 0 else 1 := by
  cases k <;> simp [generalTaken, Port.enqueue, List.filter_append, TxKind.isReply]

/-- A port's part of `QueuesHold`. -/
def PortHolds (p : PortId) (q : Port) : Prop := q.tx.length ≤ 6 ∧ (p = 0 → generalTaken q ≤ 5)

/-- A place for a REPLY is free, or an ACCEPT-SET will give it up. -/
def PortReply (q : Port) : Prop :=
  q.tx.length < 6 ∨ ∃ x, q.tx.getLast? = some x ∧ x.kind = .own ∧ x.frame.type = typeAcceptSet

/-- A port's part of `PendingFit`. -/
def PortPending (rs : List Settlement) (l : List Frame) : Prop :=
  (l.filter isDecision).length ≤ 4 ∧
  (l.filter fun f => f.type == typeAcceptSet).length ≤ 1 ∧
  ((l.filter fun f => f.type == typeSettle).map fun f => f.payload.head?).Nodup ∧
  ∀ f ∈ l, isDecision f = true ∨ f.type = typeAcceptSet ∨
    (f.type = typeSettle ∧ ∃ r ∈ rs, f.payload.head? = some r.tag)

theorem queuesHold_iff (s : State) : QueuesHold s ↔ ∀ p, PortHolds p (s.port p) := by
  constructor
  · rintro ⟨hlen, hgen⟩ p
    exact ⟨hlen p, by rintro rfl; exact hgen⟩
  · exact fun h => ⟨fun p => (h p).1, (h 0).2 rfl⟩

theorem pendingFit_iff (s : State) :
    PendingFit s ↔ ∀ p, PortPending s.money.settlements (s.port p).waiting := Iff.rfl

theorem replyFits_iff (g : Pledge) (s : State) : ReplyFits g s ↔ (g.replyDue = true → PortReply (s.port 0)) := Iff.rfl

/-- The ports after a change of one of them: the changed one and the others as they were. -/
theorem port_mapPort (s : State) (p q : PortId) (f : Port → Port) :
    (s.mapPort p f).port q = if p = q then f (s.port q) else s.port q := by
  split
  · subst_vars; simp
  · exact State.port_mapPort_ne s p q f ‹_›

theorem queuesHold_mapPort {s : State} {p : PortId} {f : Port → Port} (h : QueuesHold s)
    (hp : PortHolds p (s.port p) → PortHolds p (f (s.port p))) : QueuesHold (s.mapPort p f) := by
  rw [queuesHold_iff] at h ⊢
  intro q
  rw [port_mapPort]
  split
  · subst_vars; exact hp (h _)
  · exact h q

theorem pendingFit_mapPort {s : State} {p : PortId} {f : Port → Port}
    (h : ∀ q, q ≠ p → PortPending s.money.settlements (s.port q).waiting)
    (hp : PortPending s.money.settlements (f (s.port p)).waiting) : PendingFit (s.mapPort p f) := by
  rw [pendingFit_iff]
  intro q
  rw [port_mapPort]
  split
  · subst_vars; exact hp
  · exact h q (Ne.symm ‹_›)

/-- A change of one port keeps everything when it keeps that port's part. -/
theorem mapPort_keeps {g : Pledge} {s : State} {p : PortId} {f : Port → Port}
    (hreply : p = 0 → g.replyDue = true → PortReply (s.port p) → PortReply (f (s.port p)))
    (hqueue : PortHolds p (s.port p) → PortHolds p (f (s.port p)))
    (hpending : PlacesHeld g s → PortPending s.money.settlements (s.port p).waiting →
      PortPending s.money.settlements (f (s.port p)).waiting) :
    Keeps g s g (s.mapPort p f) where
  reply h := by
    intro hdue
    have h := h hdue
    simp only [port_mapPort]
    split
    · subst_vars; exact hreply rfl hdue h
    · exact h
  queues _ h := queuesHold_mapPort h hqueue
  pending _ hp h := pendingFit_mapPort (fun q _ => h q) (hpending hp (h p))

/-- A change of a port that leaves its queue and what waits there. -/
theorem mapPort_keeps_of_same {g : Pledge} {s : State} {p : PortId} {f : Port → Port}
    (htx : (f (s.port p)).tx = (s.port p).tx) (hwait : (f (s.port p)).waiting = (s.port p).waiting) :
    Keeps g s g (s.mapPort p f) :=
  mapPort_keeps (fun _ _ h => by rwa [PortReply, htx]) (fun h => by rwa [PortHolds, generalTaken, htx])
    (fun _ h => by rwa [hwait])

/-- A change of the link that leaves its ports. -/
theorem mapLink_keeps (g : Pledge) (s : State) {f : Link → Link} (h : (f s.link).ports = s.link.ports) :
    Keeps g s g (s.mapLink f) :=
  have hport (p : PortId) : (s.mapLink f).port p = s.port p := by simp [State.port, State.mapLink, h]
  { reply := fun k hdue => by simpa only [hport] using k hdue
    queues := fun _ k => by simpa only [QueuesHold, hport] using k
    pending := fun _ _ k => by simpa only [PendingFit, hport, State.mapLink_money] using k }

/-! ## Events -/

/-- EVENT frames enter a queue while two general places are free, and leave one. -/
theorem drain_room (own c : Byte) (es : List Event) (lost : Nat) (q : Port) :
    let q' := (drain own c es lost q).2.2
    (q' = q ∨ q'.tx.length < 6 ∧ generalTaken q' ≤ 5) ∧ q'.waiting = q.waiting := by
  induction es generalizing lost q with
  | nil => exact ⟨.inl rfl, rfl⟩
  | cons e es ih =>
    unfold drain
    split
    · rename_i hroom
      have hfree := hroom.2
      rw [generalFree_eq] at hfree
      obtain ⟨hsent, hwait⟩ := ih 0 (q.enqueue (eventFrame own c e lost) .event)
      refine ⟨.inr ?_, hwait⟩
      rcases hsent with h | h
      · rw [h, generalTaken_enqueue]
        simp [Port.enqueue, TxKind.isReply]
        omega
      · exact h
    · exact ⟨.inl rfl, rfl⟩

theorem drain_queue_le (own c : Byte) (es : List Event) (lost : Nat) (q : Port) :
    (drain own c es lost q).1.length ≤ es.length ∧ (drain own c es lost q).2.1 ≤ lost := by
  induction es generalizing lost q with
  | nil => simp [drain]
  | cons e es ih =>
    unfold drain
    split
    · have := ih 0 (q.enqueue (eventFrame own c e lost) .event)
      simp only [List.length_cons]
      omega
    · simp

/-- A change of the event queue that keeps it in its bounds. -/
theorem mapEvents_keeps (g : Pledge) (s : State) {f : EventQueue → EventQueue}
    (h : EventsFit s → EventsFit (s.mapEvents f)) : Keeps g s g (s.mapEvents f) where
  events := h

theorem pump_keeps (g : Pledge) (s : State) : Keeps g s g (pump s) := by
  obtain ⟨hroom, hwait⟩ := drain_room s.link.ownNode (controllerNode s.link) s.events.queue s.events.lost (s.port 0)
  have hpump : pump s = (s.mapEvents fun _ =>
      { queue := (drain s.link.ownNode (controllerNode s.link) s.events.queue s.events.lost (s.port 0)).1
        lost := (drain s.link.ownNode (controllerNode s.link) s.events.queue s.events.lost (s.port 0)).2.1 }).mapPort 0
      fun _ => (drain s.link.ownNode (controllerNode s.link) s.events.queue s.events.lost (s.port 0)).2.2 := rfl
  rw [hpump]
  refine (mapEvents_keeps g s ?_).trans (mapPort_keeps ?_ ?_ ?_)
  · have hle := drain_queue_le s.link.ownNode (controllerNode s.link) s.events.queue s.events.lost (s.port 0)
    exact fun h => ⟨hle.1.trans h.1, hle.2.trans h.2⟩
  · intro _ _ h
    rcases hroom with hsame | hroom
    · rw [hsame]; exact h
    · exact .inl hroom.1
  · intro h
    rcases hroom with hsame | hroom
    · rw [hsame]; exact h
    · exact ⟨hroom.1.le, fun _ => hroom.2⟩
  · intro _ h
    rw [hwait]; exact h

theorem place_fits {q : EventQueue} (e : Event) (h : q.queue.length ≤ 16 ∧ q.lost ≤ 255) :
    (q.place e).queue.length ≤ 16 ∧ (q.place e).lost ≤ 255 := by
  unfold EventQueue.place
  split
  · exact ⟨h.1, min_le_left _ _⟩
  · simp; omega

theorem raise_keeps (g : Pledge) (c : EventCode) (a : Byte) (v : Word) (s : State) : Keeps g s g (raise c a v s) :=
  ((@mapEvents_keeps g s (fun q => q.place { code := c, subject := a, value := v, time := stamp s }))
    (place_fits _)).trans (pump_keeps g _)

/-! ## The part's own frames -/

/-- A frame that may wait in a pending list leaves it in its bounds when its kind has room there. -/
theorem portPending_concat {rs : List Settlement} {f : Frame} {l : List Frame}
    (hdecision : isDecision f = true → (l.filter isDecision).length < 4)
    (haccept : f.type = typeAcceptSet → ∀ x ∈ l, x.type ≠ typeAcceptSet)
    (hsettle : f.type = typeSettle → ∀ x ∈ l, x.type = typeSettle → x.payload.head? ≠ f.payload.head?)
    (hkind : isDecision f = true ∨ f.type = typeAcceptSet ∨
      (f.type = typeSettle ∧ ∃ r ∈ rs, f.payload.head? = some r.tag))
    (h : PortPending rs l) : PortPending rs (l ++ [f]) := by
  obtain ⟨h1, h2, h3, h4⟩ := h
  refine ⟨?_, ?_, ?_, ?_⟩
  · by_cases hf : isDecision f = true
    · have := hdecision hf
      simp [List.filter_append, hf]; omega
    · simpa [List.filter_append, hf] using h1
  · by_cases hf : f.type = typeAcceptSet
    · have := haccept hf
      have hnil : l.filter (fun f => f.type == typeAcceptSet) = [] := by simpa using this
      simp [List.filter_append, hf, hnil]
    · simpa [List.filter_append, hf] using h2
  · by_cases hf : f.type = typeSettle
    · have := hsettle hf
      simp only [List.filter_append, List.map_append, List.nodup_append]
      refine ⟨h3, by simp [hf], ?_⟩
      simp only [List.mem_map, List.mem_filter, beq_iff_eq, List.filter_cons, hf, List.filter_nil]
      rintro _ ⟨x, ⟨hx, hxt⟩, rfl⟩ b hb
      simp only [if_true, List.mem_singleton] at hb
      obtain ⟨_, rfl, rfl⟩ := hb
      exact this x hx hxt
    · simpa [List.filter_append, hf] using h3
  · intro x hx
    rcases List.mem_append.mp hx with hx | hx
    · exact h4 x hx
    · rw [List.mem_singleton.mp hx]; exact hkind

/-- What waits may be put in another order. -/
theorem portPending_of_perm {rs : List Settlement} {l l' : List Frame} (hp : l.Perm l') (h : PortPending rs l) :
    PortPending rs l' := by
  obtain ⟨h1, h2, h3, h4⟩ := h
  refine ⟨?_, ?_, ?_, fun x hx => h4 x (hp.mem_iff.mpr hx)⟩
  · rwa [← (hp.filter _).length_eq]
  · rwa [← (hp.filter _).length_eq]
  · exact ((hp.filter _).map _).nodup_iff.mp h3

/-- Part of what waits may be taken away. -/
theorem portPending_of_sublist {rs : List Settlement} {l l' : List Frame} (hp : l'.Sublist l) (h : PortPending rs l) :
    PortPending rs l' := by
  obtain ⟨h1, h2, h3, h4⟩ := h
  exact ⟨(hp.filter _).length_le.trans h1, (hp.filter _).length_le.trans h2, ((hp.filter _).map _).nodup h3,
    fun x hx => h4 x (hp.subset hx)⟩

/-- The pending ACCEPT-SET is taken out and the new one put in its place. -/
theorem replacePending_perm {f : Frame} {l : List Frame} (h : ∃ g ∈ l, g.type = typeAcceptSet) :
    ∃ g ∈ l, g.type = typeAcceptSet ∧ (replacePending f l).Perm (l.erase g ++ [f]) := by
  induction l with
  | nil => simp at h
  | cons x xs ih =>
    by_cases hx : x.type = typeAcceptSet
    · exact ⟨x, by simp, hx, by simpa [replacePending, hx] using (List.perm_append_singleton f xs).symm⟩
    · obtain ⟨g, hg, hgt, hperm⟩ := ih (by
        obtain ⟨g, hg, hgt⟩ := h
        rcases List.mem_cons.mp hg with rfl | hg
        · exact absurd hgt hx
        · exact ⟨g, hg, hgt⟩)
      have hne : x ≠ g := by rintro rfl; exact hx hgt
      refine ⟨g, by simp [hg], hgt, ?_⟩
      rw [replacePending, if_neg hx, List.erase_cons_tail (by simpa using hne)]
      exact hperm.cons x

/-- Of the one pending ACCEPT-SET nothing is left once it is taken out. -/
theorem no_accept_of_erase {rs : List Settlement} {l : List Frame} {g : Frame} (h : PortPending rs l) (hg : g ∈ l)
    (ht : g.type = typeAcceptSet) : ∀ x ∈ l.erase g, x.type ≠ typeAcceptSet := by
  have hperm := (List.perm_cons_erase hg).filter fun f => f.type == typeAcceptSet
  have hlen := hperm.length_eq
  have hone := h.2.1
  simp only [List.filter_cons, ht, beq_self_eq_true, if_true, List.length_cons] at hlen
  have hnil : (l.erase g).filter (fun f => f.type == typeAcceptSet) = [] := List.length_eq_zero_iff.mp (by omega)
  simpa using hnil

theorem not_isDecision_accept {f : Frame} (h : f.type = typeAcceptSet) : isDecision f = false := by
  simp [isDecision, h, typeAcceptSet]

theorem accept_ne_settle {f : Frame} (h : f.type = typeAcceptSet) : f.type ≠ typeSettle := by
  rw [h]; decide

theorem portPending_concat_accept {rs : List Settlement} {f : Frame} {l : List Frame} (hf : f.type = typeAcceptSet)
    (hl : ∀ x ∈ l, x.type ≠ typeAcceptSet) (h : PortPending rs l) : PortPending rs (l ++ [f]) :=
  portPending_concat (by simp [not_isDecision_accept hf]) (fun _ => hl) (fun k => absurd k (accept_ne_settle hf))
    (.inr (.inl hf)) h

theorem portPending_replace {rs : List Settlement} {f : Frame} {l : List Frame} (hf : f.type = typeAcceptSet)
    (hl : ∃ g ∈ l, g.type = typeAcceptSet) (h : PortPending rs l) : PortPending rs (replacePending f l) := by
  obtain ⟨g, hg, hgt, hperm⟩ := (@replacePending_perm f) hl
  exact portPending_of_perm hperm.symm (portPending_concat_accept hf (no_accept_of_erase h hg hgt)
    (portPending_of_sublist List.erase_sublist h))

/-- An ACCEPT-SET that is put back is the one that waits, or takes the one that was issued after it to the front. -/
theorem portPending_putBack {rs : List Settlement} {f : Frame} {l : List Frame} (hf : f.type = typeAcceptSet)
    (h : PortPending rs l) : PortPending rs (putBack f l) := by
  unfold putBack
  rw [if_pos hf]
  split
  · rename_i hnone
    have hl : ∀ x ∈ l, x.type ≠ typeAcceptSet := by simpa using hnone
    exact portPending_of_perm (List.perm_append_singleton f l) (portPending_concat_accept hf hl h)
  · rename_i g hsome
    exact portPending_of_perm (List.perm_cons_erase (List.mem_of_find?_eq_some hsome)) h

/-- All that issuing a frame does to a port: it enters the queue, takes the pending ACCEPT-SET's place, or waits. -/
theorem issue_cases (q : Port) (p : PortId) (f : Frame) :
    (0 < freePlaces p q ∧ q.issue p f = q.enqueue f .own) ∨
    (f.type = typeAcceptSet ∧ (∃ g ∈ q.waiting, g.type = typeAcceptSet) ∧
      q.issue p f = { q with waiting := replacePending f q.waiting }) ∨
    ((f.type = typeAcceptSet → ∀ g ∈ q.waiting, g.type ≠ typeAcceptSet) ∧
      q.issue p f = { q with waiting := q.waiting ++ [f] }) := by
  unfold Port.issue
  split
  · rename_i h
    exact .inl ⟨h.2.2, rfl⟩
  · split
    · rename_i h
      exact .inr (.inl ⟨h.1, by simpa using h.2, rfl⟩)
    · rename_i h
      refine .inr (.inr ⟨fun hf g hg hgt => h ⟨hf, ?_⟩, rfl⟩)
      exact List.any_eq_true.mpr ⟨g, hg, by simp [hgt]⟩

/-- A frame enters a free place. -/
theorem portHolds_enqueue {p : PortId} {q : Port} (f : Frame) (k : TxKind) (hfree : 0 < freePlaces p q)
    (h : PortHolds p q) : PortHolds p (q.enqueue f k) := by
  have hgen := generalTaken_enqueue q f k
  obtain ⟨hlen, hzero⟩ := h
  by_cases hp : p = 0
  · have := hzero hp
    rw [freePlaces, if_pos hp, generalFree_eq] at hfree
    refine ⟨by simp [Port.enqueue]; omega, fun _ => ?_⟩
    rw [hgen]
    split <;> omega
  · rw [freePlaces, if_neg hp] at hfree
    exact ⟨by simp [Port.enqueue]; omega, fun h => absurd h hp⟩

theorem portHolds_issue {p : PortId} {q : Port} (f : Frame) (h : PortHolds p q) : PortHolds p (q.issue p f) := by
  rcases issue_cases q p f with ⟨hfree, he⟩ | ⟨_, _, he⟩ | ⟨_, he⟩ <;> rw [he]
  · exact portHolds_enqueue f .own hfree h
  · exact h
  · exact h

/-- An ACCEPT-SET is issued at a port. -/
theorem issueAt_keeps_accept (g : Pledge) (s : State) (p : PortId) {f : Frame} (hf : f.type = typeAcceptSet) :
    Keeps g s g (s.mapPort p fun q => q.issue p f) := by
  refine mapPort_keeps ?_ (portHolds_issue f) ?_
  · intro hp _ h
    rcases issue_cases (s.port p) p f with ⟨hfree, he⟩ | ⟨_, _, he⟩ | ⟨_, he⟩ <;> rw [he]
    · exact .inr ⟨_, List.getLast?_concat, rfl, hf⟩
    · exact h
    · exact h
  · intro _ h
    rcases issue_cases (s.port p) p f with ⟨hfree, he⟩ | ⟨_, hl, he⟩ | ⟨hl, he⟩ <;> rw [he]
    · exact h
    · exact portPending_replace hf hl h
    · exact portPending_concat_accept hf (hl hf) h

/-- A frame of another kind is issued at a port, with no REPLY due and with room for it in the pending list. -/
theorem issueAt_keeps {g : Pledge} {s : State} {p : PortId} {f : Frame} (hdue : g.replyDue = false)
    (hf : f.type ≠ typeAcceptSet)
    (hroom : PlacesHeld g s → PortPending s.money.settlements (s.port p).waiting →
      PortPending s.money.settlements ((s.port p).waiting ++ [f])) :
    Keeps g s g (s.mapPort p fun q => q.issue p f) := by
  refine mapPort_keeps (by simp [hdue]) (portHolds_issue f) ?_
  intro hp h
  rcases issue_cases (s.port p) p f with ⟨hfree, he⟩ | ⟨ha, _, _⟩ | ⟨_, he⟩
  · rw [he]; exact h
  · exact absurd ha hf
  · rw [he]; exact hroom hp h

/-- All that sending a frame to a role does: nothing without a node, else the frame is issued at the node's port. -/
theorem sendOwn_cases (r : Role) (ty : Byte) (d : List Byte) (s : State) :
    (roleEntry r s.link = none ∧ sendOwn r ty d s = s) ∨
    ∃ n, roleEntry r s.link = some n ∧ sendOwn r ty d s = s.mapPort n.port fun q =>
      q.issue n.port { dest := n.node, src := s.link.ownNode, type := ty, payload := d } := by
  unfold sendOwn
  cases roleEntry r s.link with
  | none => exact .inl ⟨rfl, rfl⟩
  | some n => exact .inr ⟨n, rfl, rfl⟩

theorem issueAccept_keeps (g : Pledge) (s : State) : Keeps g s g (issueAccept s) := by
  have hmark : Keeps g s g (s.mapCoins fun c => { c with lastAccept := some (acceptSet s) }) :=
    { cash := fun h => ⟨h.ceiling, h.sum, h.covered, h.run⟩ }
  unfold issueAccept
  simp only []
  rcases sendOwn_cases .coinValidator typeAcceptSet (bytes16 (acceptSet s))
    (s.mapCoins fun c => { c with lastAccept := some (acceptSet s) }) with ⟨_, he⟩ | ⟨n, _, he⟩ <;> rw [he]
  · exact hmark
  · exact hmark.trans (issueAt_keeps_accept g _ _ rfl)

theorem recomputeAccept_keeps (g : Pledge) (s : State) : Keeps g s g (recomputeAccept s) := by
  unfold recomputeAccept
  split
  · exact issueAccept_keeps g s
  · exact .refl g s

/-- Pending sends enter the free places of a queue; the rest of them waits on. -/
theorem fill_spec (p : PortId) (fs : List Frame) (q : Port) :
    (PortHolds p q → PortHolds p (fill p fs q)) ∧ (fill p fs q).waiting.Sublist fs := by
  induction fs generalizing q with
  | nil => exact ⟨id, .slnil⟩
  | cons f fs ih =>
    unfold fill
    split
    · rename_i h
      obtain ⟨hhold, hsub⟩ := ih (q.enqueue f .own)
      exact ⟨fun k => hhold (portHolds_enqueue f .own h.2 k), hsub.cons f⟩
    · exact ⟨id, .refl _⟩

/-- Pending sends of a port take its free places, with no REPLY due at port U. -/
theorem fillPending_keeps {g : Pledge} (s : State) (p : PortId) (hdue : p = 0 → g.replyDue = false) :
    Keeps g s g (s.mapPort p fun q => q.fillPending p) :=
  mapPort_keeps (fun hp hd => by simp [hdue hp] at hd) (fill_spec p _ _).1
    (fun _ h => portPending_of_sublist (fill_spec p _ _).2 h)

end Sys2Proof.Machine
end

section
/-! PROOFS. What the coin path unit, the credit unit and the payout engine keep (chapters 1 and 2). -/

namespace Sys2Proof.Machine

/-! ## Tubes, flaps and the in-flight list -/

/-- The tubes after a change of one of them: the changed one and the others as they were. -/
theorem tube_mapTube (s : State) (t u : TubeId) (f : Tube → Tube) :
    (s.mapTube t f).coins.tubes[u] = if t = u then f s.coins.tubes[u] else s.coins.tubes[u] := by
  simp only [State.mapTube, State.mapCoins_coins, Fin.getElem_fin, Vector.getElem_set]
  by_cases h : t = u
  · subst h; simp
  · simp [h, Fin.val_ne_of_ne h]

theorem tubeValue_mapTube (s : State) (t u : TubeId) (f : Tube → Tube)
    (hcls : (f s.coins.tubes[t]).cls = s.coins.tubes[t].cls) :
    tubeValue u (s.mapTube t f).coins = tubeValue u s.coins := by
  have hsame : (s.mapTube t f).coins.tubes[u].cls = s.coins.tubes[u].cls := by
    rw [tube_mapTube]
    split
    · subst_vars; exact hcls
    · rfl
  simp only [tubeValue, hsame]
  rfl

theorem planValue_congr {c c' : Coins} (h : ∀ u, tubeValue u c' = tubeValue u c) (l : List (TubeId × Nat)) :
    planValue c' l = planValue c l := by
  simp only [planValue, h]

/-- A run is as sound as before when neither the engine nor the value of a tube has changed. -/
theorem RunSound.congr {c c' : Coins} {q : Word} (h : RunSound c q) (he : c'.engine = c.engine)
    (hv : ∀ u, tubeValue u c' = tubeValue u c) : RunSound c' q := by
  unfold RunSound at h ⊢
  rw [he, planValue_congr hv]
  exact h

/-- An idle engine has nothing to pay, whatever the tubes hold. -/
theorem RunSound.of_idle {c c' : Coins} {q : Word} (h : RunSound c q) (he : c'.engine = c.engine)
    (hidle : c.engine.phase = .idle) : RunSound c' q := by
  obtain ⟨_, hcoins, _⟩ := h
  rw [RunSound, he]
  exact ⟨fun hp => absurd hidle hp, hcoins, by simp [hidle]⟩

theorem tubesHold_mapTube {s : State} {t : TubeId} {f : Tube → Tube} (h : TubesHold s)
    (hcount : s.coins.tubes[t].count ≤ s.coins.tubes[t].capacity →
      (f s.coins.tubes[t]).count ≤ (f s.coins.tubes[t]).capacity) : TubesHold (s.mapTube t f) := by
  intro u
  rw [tube_mapTube]
  split
  · subst_vars; exact hcount (h _)
  · exact h u

/-- A change of a tube that keeps the class it stores. -/
theorem mapTube_keeps (g : Pledge) {s : State} {t : TubeId} {f : Tube → Tube}
    (hcls : (f s.coins.tubes[t]).cls = s.coins.tubes[t].cls)
    (hcount : s.coins.tubes[t].count ≤ s.coins.tubes[t].capacity →
      (f s.coins.tubes[t]).count ≤ (f s.coins.tubes[t]).capacity) : Keeps g s g (s.mapTube t f) where
  tubes h := tubesHold_mapTube h hcount
  cash h := ⟨h.ceiling, h.sum, h.covered, fun r => (h.run r).congr rfl (tubeValue_mapTube s t · f hcls)⟩

/-- A change of a tube while the engine is IDLE. -/
theorem mapTube_keeps_of_idle (g : Pledge) {s : State} {t : TubeId} {f : Tube → Tube}
    (hidle : s.coins.engine.phase = .idle)
    (hcount : (f s.coins.tubes[t]).count ≤ (f s.coins.tubes[t]).capacity) : Keeps g s g (s.mapTube t f) where
  tubes h := tubesHold_mapTube h fun _ => hcount
  cash h := ⟨h.ceiling, h.sum, h.covered, fun r => (h.run r).of_idle rfl hidle⟩

theorem evaluateAssurance_keeps (g : Pledge) (s : State) : Keeps g s g (evaluateAssurance s) := by
  unfold evaluateAssurance
  simp only []
  split
  · exact .refl g s
  · have hset : Keeps g s g (s.mapCoins fun c => { c with assured := (shortfall s).isNone }) :=
      { cash := fun h => ⟨h.ceiling, h.sum, h.covered, h.run⟩ }
    exact (hset.trans (raise_keeps g _ _ _ _)).trans (recomputeAccept_keeps g _)

theorem setFlap_keeps (g : Pledge) (t : TubeId) (s : State) : Keeps g s g (setFlap t s) := by
  unfold setFlap
  split
  · exact .refl g s
  · exact mapTube_keeps g rfl id

theorem tubeChanged_keeps (g : Pledge) (t : TubeId) (s : State) : Keeps g s g (tubeChanged t s) :=
  (setFlap_keeps g t s).trans (evaluateAssurance_keeps g _)

theorem chuteFreed_keeps (g : Pledge) (c : Option TubeId) (s : State) : Keeps g s g (chuteFreed c s) := by
  cases c with
  | none => exact .refl g s
  | some t => exact setFlap_keeps g t s

/-- A change of the in-flight list that leaves it at most four records. -/
theorem mapFlights_keeps (g : Pledge) (s : State) {l : List Flight} {n : Nat}
    (h : s.coins.inflight.length ≤ 4 → l.length ≤ 4) :
    Keeps g s g (s.mapCoins fun c => { c with inflight := l, nextFlight := n }) where
  flights := h
  cash h := ⟨h.ceiling, h.sum, h.covered, h.run⟩

theorem route_keeps (g : Pledge) (c : Fin 16) (v : Nat) (s : State) : Keeps g s g (route c v s) := by
  unfold route
  simp only []
  split
  · exact mapFlights_keeps g s fun _ => by simp only [List.length_append, List.length_singleton]; omega
  · exact raise_keeps g _ _ _ s

theorem eraseFlight_keeps (g : Pledge) (s : State) (x : Flight) :
    Keeps g s g (s.mapCoins fun c => { c with inflight := c.inflight.erase x }) :=
  mapFlights_keeps g s fun h => List.length_erase_le.trans h

theorem claimFlight_keeps (g : Pledge) (r : Option TubeId) (s : State) : Keeps g s g (claimFlight r s) := by
  unfold claimFlight
  split
  · exact .refl g s
  · exact (eraseFlight_keeps g s _).trans (chuteFreed_keeps g _ _)

/-! ## The credit record -/

theorem passCash_keeps (g : Pledge) (b : Word) (s : State) : Keeps g s g (passCash b s) := by
  unfold passCash
  split
  · exact .refl g s
  · exact recomputeAccept_keeps g s

theorem raiseCredit_keeps (g : Pledge) (s : State) : Keeps g s g (raiseCredit s) := raise_keeps g _ _ _ s

theorem clearEscrow_keeps (g : Pledge) (s : State) : Keeps g s g (clearEscrow s) := {}

theorem amount_toNat_le (n : Nat) : (amount n).toNat ≤ n := by
  simp [amount, BitVec.toNat_ofNat, Nat.mod_le]

theorem amount_toNat {n : Nat} (h : n < 2 ^ 32) : (amount n).toNat = n := by
  rw [amount, BitVec.toNat_ofNat, Nat.mod_eq_of_lt h]

/-- A larger pending payout covers what a run has to pay. -/
theorem RunSound.mono {c : Coins} {q q' : Word} (h : RunSound c q) (hq : q.toNat ≤ q'.toNat) : RunSound c q' :=
  ⟨fun hp hm => (h.1 hp hm).trans hq, h.2⟩

theorem deposit_keeps (g : Pledge) {v : Nat} {s : State} (h : aboveCeiling v s.money.credit = false) :
    Keeps g s g (deposit v s) where
  balanced hb := by
    simp only [MoneyBalanced, deposit, State.mapMoney_money] at hb ⊢
    rw [hb]; ring
  cash hc := by
    have hsum : s.money.credit.cash.toNat + s.money.credit.payout.toNat + v < 2 ^ 32 := by
      simpa [aboveCeiling] using h
    have hcash : (s.money.credit.cash + amount v).toNat = s.money.credit.cash.toNat + v := by
      rw [BitVec.toNat_add, amount_toNat (by omega), Nat.mod_eq_of_lt (by omega)]
    have hcov := hc.covered
    refine ⟨?_, hc.sum, ?_, hc.run⟩ <;> simp only [deposit, State.mapMoney_money, hcash] <;> omega
  card hc := ⟨hc.sum, hc.covered, hc.none_cash, hc.ending_driving, hc.head_only, hc.left_only⟩

theorem creditOr_keeps {g : Pledge} (subject : Byte) (v : Nat) {after : State → State} (s : State)
    (h : ∀ t, Keeps g t g (after t)) : Keeps g s g (creditOr subject v after s) := by
  unfold creditOr
  split
  · exact raise_keeps g _ _ _ s
  · rename_i hv
    exact (((deposit_keeps g (by simpa using hv)).trans (raiseCredit_keeps g _)).trans (h _)).trans
      (passCash_keeps g _ _)

theorem available_toNat {c : Credit} (h : c.committed.toNat ≤ c.cash.toNat) :
    (available c).toNat = c.cash.toNat - c.committed.toNat := by
  unfold available
  rw [BitVec.toNat_sub]
  have := c.cash.isLt
  have := c.committed.isLt
  omega

theorem returnRest_keeps (g : Pledge) (s : State) : Keeps g s g (returnRest s) where
  balanced hb := by
    simp only [MoneyBalanced, returnRest, State.mapCredit, State.mapMoney_money, available] at hb ⊢
    rw [hb]; ring
  cash hc := by
    have hav := available_toNat hc.covered
    have hcov := hc.covered
    have hceil := hc.ceiling
    have hpay : (s.money.credit.payout + available s.money.credit).toNat =
        s.money.credit.payout.toNat + (s.money.credit.cash.toNat - s.money.credit.committed.toNat) := by
      rw [BitVec.toNat_add, hav, Nat.mod_eq_of_lt (by omega)]
    refine ⟨?_, hc.sum, le_rfl, fun r => (hc.run r).mono ?_⟩
    · simp only [returnRest, State.mapCredit, State.mapMoney_money, hpay]; omega
    · simp only [returnRest, State.mapCredit, State.mapMoney_money, hpay]; omega
  card hc := ⟨hc.sum, hc.covered, hc.none_cash, hc.ending_driving, hc.head_only, hc.left_only⟩

theorem writeOff_keeps (g : Pledge) (s : State) : Keeps g s g (writeOff s) := by
  refine Keeps.trans ?_ (passCash_keeps g _ _)
  exact
    { balanced := fun hb => by
        simp only [MoneyBalanced, State.mapMoney_money, available] at hb ⊢
        rw [hb]; ring
      cash := fun hc => ⟨lt_of_le_of_lt (Nat.add_le_add_right hc.covered _) hc.ceiling, hc.sum, le_rfl, hc.run⟩
      card := fun hc => ⟨hc.sum, hc.covered, hc.none_cash, hc.ending_driving, hc.head_only, hc.left_only⟩ }

/-! ## The payout engine -/

/-- The pledge of a payout run that has given its amount back. -/
def Pledge.endingRun (g : Pledge) : Pledge := { g with runEnding := true }

theorem endingRun_keeps (g : Pledge) (s : State) : Keeps g s g.endingRun s where
  cash h := ⟨h.ceiling, h.sum, h.covered, by simp [Pledge.endingRun]⟩
  card h := ⟨h.sum, h.covered, h.none_cash, h.ending_driving, h.head_only, h.left_only⟩

/-- The engine takes a run that is sound. -/
theorem setEngine_keeps {g : Pledge} {s : State} {f : Engine → Engine}
    (h : s.money.credit.cash.toNat + s.money.credit.payout.toNat < 2 ^ 32 →
      RunSound (s.mapEngine f).coins s.money.credit.payout) : Keeps g.endingRun s g (s.mapEngine f) where
  cash k := ⟨k.ceiling, k.sum, k.covered, fun _ => h k.ceiling⟩
  card h := ⟨h.sum, h.covered, h.none_cash, h.ending_driving, h.head_only, h.left_only⟩

/-- A step within a run. -/
theorem mapEngine_keeps (g : Pledge) {s : State} {f : Engine → Engine}
    (h : RunSound s.coins s.money.credit.payout → RunSound (s.mapEngine f).coins s.money.credit.payout) :
    Keeps g s g (s.mapEngine f) where
  cash k := ⟨k.ceiling, k.sum, k.covered, fun r => h (k.run r)⟩

theorem engineIdle_keeps (g : Pledge) (s : State) : Keeps g.endingRun s g (engineIdle s) :=
  setEngine_keeps fun _ => ⟨by simp [State.mapEngine, Reset.engine], by simp [State.mapEngine, Reset.engine],
    by simp [State.mapEngine, Reset.engine]⟩

/-- An amount that Q covers goes from Q back to C. -/
theorem unpaid_keeps {g : Pledge} {a : Word} {s : State}
    (h : CashHeld g s.money.credit s.vend.queue s.coins → a.toNat ≤ s.money.credit.payout.toNat) :
    Keeps g s g.endingRun (unpaid a s) := by
  refine Keeps.trans ?_ (passCash_keeps _ _ _)
  refine Keeps.trans ?_ (raiseCredit_keeps _ _)
  refine
    { balanced := fun hb => ?_
      cash := fun hc => ?_
      card := fun hc => ⟨hc.sum, hc.covered, hc.none_cash, hc.ending_driving, hc.head_only, hc.left_only⟩ }
  · simp only [MoneyBalanced, State.mapCredit, State.mapMoney_money] at hb ⊢
    rw [hb]; ring
  · have ha := h hc
    have hceil := hc.ceiling
    have hcov := hc.covered
    have hcash : (s.money.credit.cash + a).toNat = s.money.credit.cash.toNat + a.toNat := by
      rw [BitVec.toNat_add, Nat.mod_eq_of_lt (by omega)]
    have hpay : (s.money.credit.payout - a).toNat = s.money.credit.payout.toNat - a.toNat :=
      BitVec.toNat_sub_of_le (BitVec.le_def.mpr ha)
    refine ⟨?_, hc.sum, ?_, by simp [Pledge.endingRun]⟩
    · simp only [State.mapCredit, State.mapMoney_money, hcash, hpay]; omega
    · simp only [State.mapCredit, State.mapMoney_money, hcash]; omega

theorem endShort_keeps (g : Pledge) (d : Word) (s : State) : Keeps g.endingRun s g (endShort d s) :=
  ((((@unpaid_keeps g.endingRun) fun _ => le_rfl).trans (raise_keeps _ _ _ _ _)).trans
    (raise_keeps _ _ _ _ _)).trans (engineIdle_keeps g _)

theorem payoutPlan_entry_pos {x : List TubeId} {a : Nat} {s : State} {e : TubeId × Nat}
    (h : e ∈ (payoutPlan x a s).1) : 1 ≤ e.2 := by
  unfold payoutPlan at h
  have := (List.mem_filter.mp h).2
  simp at this
  omega

theorem planRun_keeps (g : Pledge) (x : List TubeId) (d : Word) (s : State) :
    Keeps g.endingRun s g (planRun x d s) := by
  unfold planRun
  simp only []
  split
  · exact endShort_keeps g d s
  · rename_i e rest hplan
    refine setEngine_keeps fun _ => ⟨fun _ _ => ?_, ?_, fun _ => ⟨e, rest, rfl, rfl⟩⟩
    · have hv := payoutPlan_value x s.money.credit.payout.toNat s
      have ha := amount_toNat_le (payoutPlan x s.money.credit.payout.toNat s).2
      simp only [State.mapEngine, State.mapCoins_coins, ← hplan]
      change planValue s.coins _ + _ ≤ _
      omega
    · intro y hy
      refine @payoutPlan_entry_pos x s.money.credit.payout.toNat s _ ?_
      rw [hplan]; exact hy

/-- `planRun` where no run is ending. -/
theorem planRun_keeps_of_run (g : Pledge) (x : List TubeId) (d : Word) (s : State) :
    Keeps g s g (planRun x d s) := (endingRun_keeps g s).trans (planRun_keeps g x d s)

theorem runOrIdle_keeps (g : Pledge) (s : State) : Keeps g.endingRun s g (runOrIdle s) := by
  unfold runOrIdle
  split
  · exact engineIdle_keeps g s
  · exact planRun_keeps g [] 0 s

theorem start_keeps (g : Pledge) (s : State) : Keeps g s g (start s) := by
  unfold start
  split
  · split
    · exact .refl g s
    · exact planRun_keeps_of_run g [] 0 s
  · split
    · exact mapEngine_keeps g id
    · exact .refl g s

theorem endManual_keeps (g : Pledge) (s : State) : Keeps g s g (endManual s) := by
  unfold endManual
  have hdone := (endingRun_keeps g s).trans (raise_keeps g.endingRun .payoutDone 1 s.coins.engine.paid s)
  simp only []
  split
  · exact hdone.trans (runOrIdle_keeps g _)
  · exact hdone.trans (engineIdle_keeps g _)

/-- The end of a plan that is under way and has no coin left. -/
theorem endPlan_keeps (g : Pledge) {s : State} (hrun : g.runEnding = false) (hphase : s.coins.engine.phase ≠ .idle)
    (hmanual : s.coins.engine.manual = false) : Keeps g s g (endPlan s) := by
  unfold endPlan
  simp only []
  refine ((@Keeps.trans _ g.endingRun) ?_ (raise_keeps _ _ _ _ _)).trans (runOrIdle_keeps g _)
  split
  · exact endingRun_keeps g s
  · refine (unpaid_keeps fun hc => ?_).trans (raise_keeps _ _ _ _ _)
    have := (hc.run hrun).1 hphase hmanual
    omega

theorem nextCoin_keeps (g : Pledge) {s : State} (hrun : g.runEnding = false) (hphase : s.coins.engine.phase ≠ .idle) :
    Keeps g s g (nextCoin s) := by
  unfold nextCoin
  split
  · rename_i e rest hplan
    unfold beginCoin
    split
    · split
      · exact endManual_keeps g s
      · exact planRun_keeps_of_run g _ _ s
    · refine mapEngine_keeps g fun ⟨hpay, hcoins, _⟩ => ⟨fun _ hm => hpay hphase hm, hcoins, fun _ => ?_⟩
      exact ⟨e, rest, hplan, rfl⟩
  · split
    · exact endManual_keeps g s
    · rename_i hm
      exact endPlan_keeps g hrun hphase (by simpa using hm)

theorem loseCoin_cons (t : TubeId) (n : Nat) (es : List (TubeId × Nat)) :
    loseCoin ((t, n) :: es) = if n ≤ 1 then es else (t, n - 1) :: es := rfl

theorem loseCoin_pos {l : List (TubeId × Nat)} (h : ∀ x ∈ l, 1 ≤ x.2) : ∀ x ∈ loseCoin l, 1 ≤ x.2 := by
  cases l with
  | nil => simp [loseCoin]
  | cons e es =>
    obtain ⟨t, n⟩ := e
    rw [loseCoin_cons]
    split
    · exact fun x hx => h x (List.mem_cons_of_mem _ hx)
    · intro x hx
      rcases List.mem_cons.mp hx with rfl | hx
      · show 1 ≤ n - 1; omega
      · exact h x (List.mem_cons_of_mem _ hx)

/-- The coin that a plan loses is worth what its tube stores. -/
theorem planValue_loseCoin (c : Coins) {t : TubeId} {n : Nat} (es : List (TubeId × Nat)) (h : 1 ≤ n) :
    planValue c (loseCoin ((t, n) :: es)) + tubeValue t c = planValue c ((t, n) :: es) := by
  obtain ⟨m, rfl⟩ : ∃ m, n = m + 1 := ⟨n - 1, by omega⟩
  rw [loseCoin_cons]
  split
  · obtain rfl : m = 0 := by omega
    simp [planValue]; omega
  · simp [planValue, Nat.mul_add]; omega

theorem manualPaid_keeps (g : Pledge) (v : Nat) (s : State) : Keeps g s g (manualPaid v s) := {}

/-- The state in which a confirmed coin is accounted for: the engine in its gap, one coin fewer in the tube. -/
def coinTaken (t : TubeId) (s : State) : State :=
  (s.mapEngine fun e =>
      { e with phase := .gap, timerMs := gapMs, plan := loseCoin e.plan,
               paid := e.paid + amount (tubeValue t s.coins) }).mapTube t fun x => { x with count := x.count - 1 }

theorem confirmCoin_eq (t : TubeId) (s : State) :
    confirmCoin t s = tubeChanged t (if s.coins.engine.manual then manualPaid (tubeValue t s.coins) (coinTaken t s)
      else paid (tubeValue t s.coins) (coinTaken t s)) := rfl

theorem tubesHold_coinTaken {t : TubeId} {s : State} (h : TubesHold s) : TubesHold (coinTaken t s) :=
  (@tubesHold_mapTube (s.mapEngine _)) h fun h => (Nat.sub_le _ _).trans h

/-- After a coin the run has the rest of its plan to pay. -/
theorem runSound_coinTaken {t : TubeId} {s : State} {q q' : Word} (h : RunSound s.coins q)
    (hphase : s.coins.engine.phase = .exitWait) (ht : s.coins.engine.current = some t)
    (hq : s.coins.engine.manual = false → q'.toNat + tubeValue t s.coins = q.toNat) :
    RunSound (coinTaken t s).coins q' ∧
    (s.coins.engine.manual = false → tubeValue t s.coins ≤ q.toNat) := by
  obtain ⟨hpay, hcoins, hhead⟩ := h
  obtain ⟨⟨u, n⟩, rest, hplan, hcur⟩ := hhead (.inr hphase)
  obtain rfl : u = t := by rw [hcur] at ht; exact Option.some.inj ht
  have hn : 1 ≤ n := hcoins (u, n) (by simp [hplan])
  have hlose := (@planValue_loseCoin s.coins u) rest hn
  have hpay' (hm : s.coins.engine.manual = false) := hpay (by simp [hphase]) hm
  rw [hplan] at hpay' hcoins
  have hv := planValue_congr (fun x => tubeValue_mapTube (s.mapEngine fun e =>
      { e with phase := .gap, timerMs := gapMs, plan := loseCoin e.plan,
               paid := e.paid + amount (tubeValue u s.coins) }) u x (fun x => { x with count := x.count - 1 }) rfl)
    (loseCoin ((u, n) :: rest))
  have hengine : (coinTaken u s).coins.engine.plan = loseCoin ((u, n) :: rest) := by
    simp [coinTaken, State.mapTube, State.mapEngine, hplan]
  refine ⟨⟨fun _ hm => ?_, by rw [hengine]; exact loseCoin_pos hcoins, ?_⟩, fun hm => ?_⟩
  · have hm' : s.coins.engine.manual = false := hm
    have h1 := hpay' hm'
    have h2 := hq hm'
    have h3 : planValue (coinTaken u s).coins (loseCoin ((u, n) :: rest)) =
        planValue s.coins (loseCoin ((u, n) :: rest)) := hv
    rw [hengine, h3]
    change _ + s.coins.engine.remainder.toNat ≤ _
    omega
  · intro hp
    simp [coinTaken, State.mapTube, State.mapEngine] at hp
  · have h1 := hpay' hm
    omega

theorem confirmCoin_keeps (g : Pledge) {t : TubeId} {s : State} (hrun : g.runEnding = false)
    (hphase : s.coins.engine.phase = .exitWait) (ht : s.coins.engine.current = some t) :
    Keeps g s g (confirmCoin t s) := by
  rw [confirmCoin_eq]
  refine Keeps.trans ?_ (tubeChanged_keeps g t _)
  split
  · rename_i hm
    refine Keeps.trans ?_ (manualPaid_keeps g _ _)
    exact
      { tubes := tubesHold_coinTaken
        cash := fun hc => ⟨hc.ceiling, hc.sum, hc.covered, fun r =>
          (runSound_coinTaken (hc.run r) hphase ht (by simp [hm])).1⟩ }
  · rename_i hm
    have hm : s.coins.engine.manual = false := by simpa using hm
    refine
      { balanced := fun hb => ?_
        tubes := tubesHold_coinTaken
        cash := fun hc => ?_
        card := fun hc => ⟨hc.sum, hc.covered, hc.none_cash, hc.ending_driving, hc.head_only, hc.left_only⟩ }
    · simp only [MoneyBalanced, paid, State.mapMoney_money] at hb ⊢
      change s.money.totals.deposited = s.money.credit.cash + (s.money.credit.payout - _) + s.money.totals.sales
        + (s.money.totals.paid + _) + s.money.totals.written
      rw [hb]; ring
    · have hceil := hc.ceiling
      have hle : tubeValue t s.coins ≤ s.money.credit.payout.toNat := by
        obtain ⟨hpay, hcoins, hhead⟩ := hc.run hrun
        obtain ⟨⟨u, n⟩, rest, hplan, hcur⟩ := hhead (.inr hphase)
        obtain rfl : u = t := by rw [hcur] at ht; exact Option.some.inj ht
        have h1 := hpay (by simp [hphase]) hm
        have hn : 1 ≤ n := hcoins (u, n) (by simp [hplan])
        have h2 := (@planValue_loseCoin s.coins u) rest hn
        rw [hplan] at h1
        omega
      have hsub : (s.money.credit.payout - amount (tubeValue t s.coins)).toNat =
          s.money.credit.payout.toNat - tubeValue t s.coins := by
        have hlt := s.money.credit.payout.isLt
        have ha := (@amount_toNat (tubeValue t s.coins)) (by omega)
        rw [BitVec.toNat_sub_of_le (BitVec.le_def.mpr (by omega)), ha]
      refine ⟨?_, hc.sum, hc.covered, fun r => ?_⟩
      · change s.money.credit.cash.toNat + (s.money.credit.payout - amount (tubeValue t s.coins)).toNat < _
        omega
      · refine (runSound_coinTaken (hc.run r) hphase ht fun _ => ?_).1
        change (s.money.credit.payout - amount (tubeValue t s.coins)).toNat + _ = _
        omega

theorem coinReturn_keeps (g : Pledge) (b : Byte) (s : State) : Keeps g s g (coinReturn b s) := by
  unfold coinReturn
  simp only []
  split
  · exact .refl g s
  · exact (((returnRest_keeps g s).trans (raise_keeps g _ _ _ _)).trans (passCash_keeps g _ _)).trans (start_keeps g _)

end Sys2Proof.Machine
end

section
/-! PROOFS. What the entries of the vend queue on their way out, the supply arbiter and the matrix driver's first
energising keep (chapters 1, 3, 4 and 5). -/

namespace Sys2Proof.Machine

/-! ## Entries that leave the vend queue -/

/-- The pledge of an entry that has left the queue with its commitment. -/
def Pledge.leaving (g : Pledge) (e : Entry) : Pledge := { g with left := some e, owed := some e }

/-- The pledge of an entry that has left the queue and has no commitment any more. -/
def Pledge.released (g : Pledge) (e : Entry) : Pledge := { g with left := some e, owed := none }

theorem committedIn_cons (f : Funds) (e : Entry) (q : List Entry) :
    committedIn f (e :: q) = (if e.funds = f then e.price else 0) + committedIn f q := by
  by_cases h : e.funds = f <;> simp [committedIn, h]

theorem committedIn_append (f : Funds) (q r : List Entry) :
    committedIn f (q ++ r) = committedIn f q + committedIn f r := by
  simp [committedIn]

theorem committedIn_singleton (f : Funds) (e : Entry) : committedIn f [e] = if e.funds = f then e.price else 0 := by
  by_cases h : e.funds = f <;> simp [committedIn, h]

theorem committedIn_perm (f : Funds) {q r : List Entry} (h : q.Perm r) : committedIn f q = committedIn f r :=
  ((h.filter _).map _).sum_eq

theorem committedIn_erase (f : Funds) {e : Entry} {q : List Entry} (h : e ∈ q) :
    committedIn f q = committedIn f (q.erase e) + committedIn f [e] := by
  rw [committedIn_perm f (List.perm_cons_erase h), committedIn_cons, committedIn_singleton]; omega

/-- The card-funded entries of a queue. -/
def cardIn (q : List Entry) : Nat := (q.filter fun e => decide (e.funds = .card)).length

theorem cardIn_erase {e : Entry} {q : List Entry} (h : e ∈ q) : cardIn q = cardIn (q.erase e) + cardIn [e] := by
  have := ((List.perm_cons_erase h).filter fun e => decide (e.funds = .card)).length_eq
  rw [← List.singleton_append, List.filter_append, List.length_append] at this
  unfold cardIn
  omega

theorem placesHeld_iff (g : Pledge) (s : State) :
    PlacesHeld g s ↔ cardIn s.vend.queue + s.money.settlements.length + cardIn g.owed.toList ≤ 4 := Iff.rfl

theorem mem_erase_of_head {e x : Entry} {q es : List Entry} (h : q.erase e = x :: es)
    (hq : ∀ y ys, q = y :: ys → ∀ z ∈ ys, z.driving = false) : ∀ z ∈ es, z.driving = false := by
  cases q with
  | nil => simp at h
  | cons y ys =>
    have hys := hq y ys rfl
    by_cases hye : y = e
    · subst hye
      rw [List.erase_cons_head] at h
      intro z hz
      exact hys z (by rw [h]; exact List.mem_cons_of_mem _ hz)
    · rw [List.erase_cons_tail (by simpa using hye)] at h
      obtain ⟨rfl, rfl⟩ := List.cons.inj h
      exact fun z hz => hys z (List.mem_of_mem_erase hz)

/-- A WAITING entry leaves the queue. -/
theorem eraseEntry_keeps {g : Pledge} {s : State} {e : Entry} (hg : g.settled) (he : e ∈ s.vend.queue)
    (hd : e.driving = false) :
    Keeps g s (g.leaving e) (s.mapVend fun v => { v with queue := v.queue.erase e }) where
  queue h := List.length_erase_le.trans h
  places h := by
    rw [placesHeld_iff] at h ⊢
    have := cardIn_erase he
    simp only [hg.2, Option.toList_none] at h
    simp only [Pledge.leaving, Option.toList_some, State.mapVend_vend, State.mapVend_money]
    omega
  cash h := by
    refine ⟨h.ceiling, h.sum.trans ?_, h.covered, h.run⟩
    rw [committedIn_erase .cash he]
    simp [Pledge.owedIn, Pledge.leaving, hg.2, committedIn]
  card h := by
    refine ⟨h.sum.trans ?_, h.covered, fun hs x hx => h.none_cash hs x (List.mem_of_mem_erase hx),
      fun hs x hx => h.ending_driving hs x (List.mem_of_mem_erase hx),
      fun x es hx => mem_erase_of_head hx h.head_only, ?_⟩
    · rw [committedIn_erase .card he]
      simp [Pledge.owedIn, Pledge.leaving, hg.2, committedIn]
    · rintro x hx hdx
      obtain rfl : e = x := Option.some.inj hx
      rw [hd] at hdx; cases hdx
  drive h := by
    obtain ⟨hsome, hnone, hhead⟩ := h
    refine ⟨fun r hr => ?_, fun hr => ⟨(hnone hr).1, fun x hx => (hnone hr).2 x (List.mem_of_mem_erase hx)⟩,
      fun x es hx => mem_erase_of_head hx hhead⟩
    obtain ⟨hgr, y, ys, hq, hdy, hty⟩ := hsome r hr
    have hye : y ≠ e := by rintro rfl; rw [hd] at hdy; cases hdy
    exact ⟨hgr, y, ys.erase e, by simp [hq, List.erase_cons_tail, hye], hdy, hty⟩

theorem sub_amount_toNat {w : Word} {n : Nat} (h : n ≤ w.toNat) : (w - amount n).toNat = w.toNat - n := by
  have hlt := w.isLt
  have ha := (@amount_toNat n) (by omega)
  rw [BitVec.toNat_sub_of_le (BitVec.le_def.mpr (by omega)), ha]

/-- The commitment of an entry that leaves is returned. -/
theorem returnCommitment_keeps (g : Pledge) (s : State) (e : Entry) :
    Keeps (g.leaving e) s (g.released e) (s.mapCredit fun c =>
      match e.funds with
      | .cash => { c with committed := c.committed - amount e.price }
      | .card => { c with cardCommitted := c.cardCommitted - amount e.price }) := by
  have howed (f : Funds) : (g.leaving e).owedIn f = if e.funds = f then e.price else 0 :=
    committedIn_singleton f e
  have hfree (f : Funds) : (g.released e).owedIn f = 0 := rfl
  cases hf : e.funds
  · refine
      { places := fun h => ?_, cash := fun h => ?_, card := fun h => ?_, balanced := fun h => h }
    · rw [placesHeld_iff] at h ⊢
      exact le_trans (Nat.add_le_add_left (by simp [Pledge.released, cardIn]) _) h
    · have hsum := h.sum
      have hcov := h.covered
      rw [howed, if_pos hf] at hsum
      have hsub := (@sub_amount_toNat s.money.credit.committed e.price) (by omega)
      refine ⟨h.ceiling, ?_, ?_, h.run⟩ <;> simp only [State.mapCredit, State.mapMoney_money, State.mapMoney_vend, hsub, hfree] <;> omega
    · refine ⟨?_, h.covered, h.none_cash, h.ending_driving, h.head_only, h.left_only⟩
      have hsum := h.sum
      rw [howed, if_neg (by rw [hf]; decide)] at hsum
      exact hsum
  · refine
      { places := fun h => ?_, cash := fun h => ?_, card := fun h => ?_, balanced := fun h => h }
    · rw [placesHeld_iff] at h ⊢
      exact le_trans (Nat.add_le_add_left (by simp [Pledge.released, cardIn]) _) h
    · refine ⟨h.ceiling, ?_, h.covered, h.run⟩
      have hsum := h.sum
      rw [howed, if_neg (by rw [hf]; decide)] at hsum
      exact hsum
    · have hsum := h.sum
      rw [howed, if_pos hf] at hsum
      have hsub := (@sub_amount_toNat s.money.credit.cardCommitted e.price) (by omega)
      refine ⟨?_, fun hs => ?_, h.none_cash, h.ending_driving, h.head_only, h.left_only⟩
      · simp only [State.mapCredit, State.mapMoney_money, State.mapMoney_vend, hsub, hfree]; omega
      · have hcov := h.covered hs
        simp only [State.mapCredit, State.mapMoney_money, hsub]; omega

/-- A session closes when no card-funded entry is left. -/
theorem closeSession_keeps {g : Pledge} {s : State}
    (h : CardHeld g s.money.credit s.vend.queue → ∀ e ∈ s.vend.queue, e.funds = .cash) :
    Keeps g s g (closeSession s) := by
  refine Keeps.trans ?_ (raise_keeps g _ _ _ _)
  exact
    { cash := fun hc => ⟨hc.ceiling, hc.sum, hc.covered, hc.run⟩
      card := fun hc => ⟨hc.sum, fun hs => absurd rfl hs, fun _ => h hc, fun hs => by simp [State.mapCredit] at hs,
        hc.head_only, hc.left_only⟩ }

/-- The session is judged by an entry that has left. -/
theorem endSession_keeps {g : Pledge} (e : Entry) (s : State) (hg : g.settled) :
    Keeps (g.released e) s g (endSession e s) := by
  have hforget (t : State) : Keeps (g.released e) t g t :=
    { places := fun h => by
        rw [placesHeld_iff] at h ⊢
        rwa [hg.2]
      cash := fun h => ⟨h.ceiling, by rw [h.sum, Pledge.owedIn, Pledge.owedIn, hg.2]; rfl, h.covered, h.run⟩
      card := fun h => ⟨by rw [h.sum, Pledge.owedIn, Pledge.owedIn, hg.2]; rfl, h.covered, h.none_cash,
        h.ending_driving, h.head_only, by simp [hg.1]⟩ }
  unfold endSession
  split
  · rename_i hend
    refine (closeSession_keeps fun hc x hx => ?_).trans (hforget _)
    cases hf : x.funds
    · rfl
    · have hx' := hc.ending_driving hend.1 x hx hf
      rw [hc.left_only e rfl hend.2.2 x hx] at hx'
      cases hx'
  · exact hforget s

theorem releaseFunds_keeps {g : Pledge} (e : Entry) (s : State) (hg : g.settled) :
    Keeps (g.leaving e) s g (releaseFunds e s) :=
  (returnCommitment_keeps g s e).trans (endSession_keeps e _ hg)

/-! ## DEBIT -/

theorem chargeCash_keeps {g : Pledge} {e : Entry} (s : State) (hg : g.settled) (hf : e.funds = .cash) :
    Keeps (g.leaving e) s g (chargeCash e s) where
  balanced hb := by
    simp only [MoneyBalanced, chargeCash, State.mapMoney_money] at hb ⊢
    rw [hb]; ring
  places h := by
    rw [placesHeld_iff] at h ⊢
    refine le_trans (Nat.add_le_add_left ?_ _) h
    simp [hg.2, cardIn]
  cash h := by
    have hsum := h.sum
    have hcov := h.covered
    have hceil := h.ceiling
    have howed : (g.leaving e).owedIn .cash = e.price := by
      rw [Pledge.owedIn]; simp [Pledge.leaving, committedIn, hf]
    rw [howed] at hsum
    have hk := (@sub_amount_toNat s.money.credit.committed e.price) (by omega)
    have hc := (@sub_amount_toNat s.money.credit.cash e.price) (by omega)
    have hfree : g.owedIn .cash = 0 := by rw [Pledge.owedIn, hg.2]; rfl
    refine ⟨?_, ?_, ?_, h.run⟩ <;>
      simp only [chargeCash, State.mapMoney_money, State.mapMoney_vend, hk, hc, hfree] <;> omega
  card h := by
    refine ⟨h.sum.trans ?_, h.covered, h.none_cash, h.ending_driving, h.head_only, by simp [hg.1]⟩
    simp [Pledge.owedIn, Pledge.leaving, committedIn, hf, hg.2, chargeCash]

theorem debitCash_keeps {g : Pledge} {e : Entry} (s : State) (hg : g.settled) (hf : e.funds = .cash) :
    Keeps (g.leaving e) s g (debitCash e s) := by
  unfold debitCash
  simp only []
  have hcharge := (@chargeCash_keeps _ e) s hg hf
  split
  · exact ((hcharge.trans (returnRest_keeps g _)).trans (passCash_keeps g _ _)).trans (start_keeps g _)
  · exact hcharge.trans (passCash_keeps g _ _)

/-- The tags that have been tried from a tag on, all of them in use. -/
theorem freeTag_used {used : Byte → Bool} {n : Nat} {t : Byte} (h : used (freeTag used n t) = true) :
    ∀ k ≤ n, used (t + BitVec.ofNat 8 k) = true := by
  induction n generalizing t with
  | zero =>
    intro k hk
    obtain rfl : k = 0 := by omega
    simpa [freeTag] using h
  | succ n ih =>
    unfold freeTag at h
    split at h
    · rename_i ht
      intro k hk
      cases k with
      | zero => simpa using ht
      | succ k =>
        have := ih h k (by omega)
        rw [show t + BitVec.ofNat 8 (k + 1) = t + 1 + BitVec.ofNat 8 k by
          rw [BitVec.ofNat_add, BitVec.add_assoc, BitVec.add_comm (BitVec.ofNat 8 k)]; rfl]
        exact this
    · exact absurd h (by assumption)

/-- With fewer tags in use than are tried, the tag is free. -/
theorem freeTag_free {l : List Byte} {used : Byte → Bool} (hused : ∀ t, used t = true → t ∈ l) {n : Nat} (hn : n < 256)
    (hl : l.length ≤ n) (t : Byte) : used (freeTag used n t) = false := by
  by_contra hcon
  have hall := freeTag_used (by simpa using hcon)
  have hsub : ((List.range (n + 1)).map fun k => t + BitVec.ofNat 8 k) ⊆ l := by
    intro x hx
    obtain ⟨k, hk, rfl⟩ := List.mem_map.mp hx
    exact hused _ (hall k (by have := List.mem_range.mp hk; omega))
  have hnodup : ((List.range (n + 1)).map fun k => t + BitVec.ofNat 8 k).Nodup := by
    refine List.Nodup.map_on ?_ List.nodup_range
    intro i hi j hj hij
    have hi := List.mem_range.mp hi
    have hj := List.mem_range.mp hj
    have := congrArg BitVec.toNat (BitVec.add_right_inj t |>.mp hij)
    simp only [BitVec.toNat_ofNat] at this
    omega
  have := (List.subperm_of_subset hnodup hsub).length_le
  simp at this
  omega

/-- The card record after DEBIT: F and KC fall by the price, and the settlement record is appended (R14, R19). -/
def cardCharged (e : Entry) (tag : Byte) (s : State) : State :=
  s.mapMoney fun m =>
    { m with
      credit := { m.credit with
        funds := m.credit.funds.map (· - amount e.price)
        cardCommitted := m.credit.cardCommitted - amount e.price }
      totals := { m.totals with
        cardSales := m.totals.cardSales + amount e.price
        vends := m.totals.vends + 1 }
      settlements := m.settlements ++
        [{ tag := tag, selection := e.selection, amount := e.price, state := .sent, timerMs := settleMs }]
      nextSettleTag := tag + 1 }

/-- The tag of a new settlement record (R14). -/
def newSettleTag (m : Money) : Byte :=
  freeTag (fun t => m.settlements.any fun r => r.tag == t) 4 m.nextSettleTag

theorem debitCard_eq (e : Entry) (s : State) :
    debitCard e s = endSession e (sendOwn .cardReader typeSettle
      ([newSettleTag s.money, byteOf e.selection] ++ halfOf e.price) (cardCharged e (newSettleTag s.money) s)) := rfl

theorem newSettleTag_free {m : Money} (h : m.settlements.length ≤ 4) :
    ∀ r ∈ m.settlements, r.tag ≠ newSettleTag m := by
  have hfree := (@freeTag_free (m.settlements.map (·.tag)) fun t => m.settlements.any fun r => r.tag == t) (by
      intro t ht
      obtain ⟨r, hr, hrt⟩ := List.any_eq_true.mp ht
      exact List.mem_map.mpr ⟨r, hr, by simpa using hrt⟩) (by decide : 4 < 256) (by simpa using h) m.nextSettleTag
  intro r hr heq
  have : (m.settlements.any fun x => x.tag == newSettleTag m) = true :=
    List.any_eq_true.mpr ⟨r, hr, by simp [heq]⟩
  rw [newSettleTag] at this
  rw [hfree] at this
  cases this

theorem cardCharged_keeps {g : Pledge} {e : Entry} {tag : Byte} (s : State) (hf : e.funds = .card) :
    Keeps (g.leaving e) s (g.released e) (cardCharged e tag s) where
  places h := by
    rw [placesHeld_iff] at h ⊢
    simp only [cardCharged, State.mapMoney_money, State.mapMoney_vend, List.length_append, List.length_singleton]
    have h1 : cardIn (g.leaving e).owed.toList = 1 := by simp [Pledge.leaving, cardIn, hf]
    have h2 : cardIn (g.released e).owed.toList = 0 := rfl
    omega
  pending _ _ h p := by
    obtain ⟨h1, h2, h3, h4⟩ := h p
    refine ⟨h1, h2, h3, fun f hfm => ?_⟩
    rcases h4 f hfm with hd | ha | ⟨hs, r, hr, ht⟩
    · exact .inl hd
    · exact .inr (.inl ha)
    · exact .inr (.inr ⟨hs, r, List.mem_append_left _ hr, ht⟩)
  cash h := by
    refine ⟨h.ceiling, h.sum.trans ?_, h.covered, h.run⟩
    simp [Pledge.owedIn, Pledge.leaving, Pledge.released, committedIn, hf, cardCharged]
  card h := by
    have hsum := h.sum
    have howed : (g.leaving e).owedIn .card = e.price := by
      rw [Pledge.owedIn]; simp [Pledge.leaving, committedIn, hf]
    rw [howed] at hsum
    have hk := (@sub_amount_toNat s.money.credit.cardCommitted e.price) (by omega)
    refine ⟨?_, fun hs => ?_, h.none_cash, h.ending_driving, h.head_only, h.left_only⟩
    · simp only [cardCharged, State.mapMoney_money, State.mapMoney_vend, hk]
      have : (g.released e).owedIn .card = 0 := rfl
      omega
    · have hcov := h.covered hs
      simp only [cardCharged, State.mapMoney_money, hk]
      cases hfu : s.money.credit.funds with
      | none => rw [hfu] at hcov; simp at hcov ⊢; omega
      | some w =>
        rw [hfu] at hcov
        simp only [Option.getD_some] at hcov
        simp only [Option.map_some, Option.getD_some]
        rw [sub_amount_toNat (by omega)]
        omega

theorem typeSettle_ne_accept : typeSettle ≠ typeAcceptSet := by decide

theorem not_isDecision_settle {f : Frame} (h : f.type = typeSettle) : isDecision f = false := by
  simp [isDecision, h, typeSettle]

/-- A SETTLE whose tag is new may wait once its record stands in the list. -/
theorem portPending_settle {rs rs' : List Settlement} {f : Frame} {l : List Frame} {tag : Byte}
    (hf : f.type = typeSettle) (hp : f.payload.head? = some tag) (hnew : ∀ r ∈ rs, r.tag ≠ tag)
    (hrs : rs ⊆ rs') (htag : ∃ r ∈ rs', r.tag = tag) (h : PortPending rs l) : PortPending rs' (l ++ [f]) := by
  obtain ⟨r', hr', ht'⟩ := htag
  refine portPending_concat (by simp [not_isDecision_settle hf])
    (fun ha => absurd (hf.symm.trans ha) typeSettle_ne_accept) (fun _ x hx hxs hxh => ?_)
    (.inr (.inr ⟨hf, r', hr', by rw [hp, ht']⟩)) ⟨h.1, h.2.1, h.2.2.1, fun x hx => ?_⟩
  · rcases h.2.2.2 x hx with hd | ha | ⟨_, r, hr, hrt⟩
    · rw [not_isDecision_settle hxs] at hd; cases hd
    · exact typeSettle_ne_accept (hxs.symm.trans ha)
    · rw [hxh, hp] at hrt
      exact hnew r hr (Option.some.inj hrt).symm
  · rcases h.2.2.2 x hx with hd | ha | ⟨hs, r, hr, hrt⟩
    · exact .inl hd
    · exact .inr (.inl ha)
    · exact .inr (.inr ⟨hs, r, hrs hr, hrt⟩)

/-- A settlement record and its SETTLE, whose tag is new to the pending lists. -/
theorem debitCard_keeps {g : Pledge} {e : Entry} (s : State) (hg : g.settled) (hdue : g.replyDue = false)
    (hf : e.funds = .card) : Keeps (g.leaving e) s g (debitCard e s) := by
  rw [debitCard_eq]
  refine Keeps.trans ?_ (endSession_keeps e _ hg)
  have hcharge := (@cardCharged_keeps g _ (newSettleTag s.money)) s hf
  rcases sendOwn_cases .cardReader typeSettle ([newSettleTag s.money, byteOf e.selection] ++ halfOf e.price)
    (cardCharged e (newSettleTag s.money) s) with ⟨_, he⟩ | ⟨n, _, he⟩ <;> rw [he]
  · exact hcharge
  · exact
      { hcharge with
        reply := fun _ hd => absurd hd (by simp [Pledge.released, hdue])
        queues := fun hr h => queuesHold_mapPort (hcharge.queues hr h) (portHolds_issue _)
        pending := fun hr hp h => by
          refine pendingFit_mapPort (fun q _ => hcharge.pending hr hp h q) ?_
          have hlen : s.money.settlements.length ≤ 4 := by rw [placesHeld_iff] at hp; omega
          rcases issue_cases ((cardCharged e (newSettleTag s.money) s).port n.port) n.port _ with
            ⟨_, hi⟩ | ⟨ha, _, _⟩ | ⟨_, hi⟩
          · rw [hi]; exact hcharge.pending hr hp h n.port
          · exact absurd ha typeSettle_ne_accept
          · rw [hi]
            exact portPending_settle rfl rfl (newSettleTag_free hlen)
              (fun x hx => List.mem_append_left _ hx) ⟨_, List.mem_append_right _ (List.mem_singleton_self _), rfl⟩
              (h n.port) }

/-- DEBIT for the entry that has left. -/
theorem debit_keeps {g : Pledge} (e : Entry) (s : State) (hg : g.settled) (hdue : g.replyDue = false) :
    Keeps (g.leaving e) s g (debit e s) := by
  unfold debit
  split
  · exact debitCash_keeps s hg ‹_›
  · exact debitCard_keeps s hg hdue ‹_›

end Sys2Proof.Machine
end

section
/-! PROOFS. What the supply arbiter, the vend controller and the fault list keep (chapters 3, 5 and 9), and what a
fault report leaves of a drive and of a defrost that are under way. -/

namespace Sys2Proof.Machine

/-- A drive goes on as it was: same record tag, same vend entries, and the vend claim granted or not as before. -/
structure SameDrive (s t : State) : Prop where
  record : t.drive.record.map (·.tag) = s.drive.record.map (·.tag) := by rfl
  queue : t.vend.queue = s.vend.queue := by rfl
  claim : t.supply.vend.state = .granted ↔ s.supply.vend.state = .granted := by exact Iff.rfl

/-! ## Claims -/

theorem Claim.fits_iff {c : Claim} {p : Supply} :
    c.fits p = true ↔ c.state = .waiting ∧ c.cost ≤ freePoints p := by simp [Claim.fits]

theorem points_of_not_granted {c : Claim} (h : c.state ≠ .granted) : c.points = 0 := if_neg h

@[simp] theorem points_granted (c : Claim) : c.granted.points = c.cost := rfl

@[simp] theorem points_resetClaim : Reset.claim.points = 0 := rfl

@[simp] theorem points_placed (n : Nat) : (Claim.placed n).points = 0 := rfl

theorem DriveNeedsGrant.congr {s t : State} (h : DriveNeedsGrant s) (k : SameDrive s t) : DriveNeedsGrant t := by
  obtain ⟨hsome, hnone, hhead⟩ := h
  obtain ⟨hrecord, hqueue, hclaim⟩ := k
  refine ⟨fun r hr => ?_, fun hr => ?_, by rwa [hqueue]⟩
  · rw [hr] at hrecord
    obtain ⟨r', hr', ht⟩ := Option.map_eq_some_iff.mp hrecord.symm
    obtain ⟨hg, e, es, hq, hd, htag⟩ := hsome r' hr'
    exact ⟨hclaim.mpr hg, e, es, by rw [hqueue, hq], hd, by rw [htag, ht]⟩
  · rw [hr, Option.map_none] at hrecord
    have hr' := Option.map_eq_none_iff.mp hrecord.symm
    exact ⟨fun hg => (hnone hr').1 (hclaim.mp hg), by rw [hqueue]; exact (hnone hr').2⟩

/-- A change of the claims and of the loads they stand for. -/
theorem mapPower_keeps (g : Pledge) {s : State} {p : Supply → Supply} {c : Cooling → Cooling}
    (hbudget : pointsGranted s.supply ≤ s.supply.budget → pointsGranted (p s.supply) ≤ (p s.supply).budget)
    (hvend : (p s.supply).vend.state = .granted ↔ s.supply.vend.state = .granted)
    (hloads : LoadsApart s → LoadsApart ((s.mapSupply p).mapCooling c))
    (hzones : (c s.cooling).zones = s.cooling.zones) :
    Keeps g s g ((s.mapSupply p).mapCooling c) where
  budget := hbudget
  drive h := h.congr { claim := hvend }
  loads := hloads
  setpoints h z hz := by
    have := h z hz
    simp only [State.mapCooling_cooling, State.mapSupply_cooling, hzones]
    exact this

theorem tryCompressor_keeps (g : Pledge) (s : State) : Keeps g s g (tryCompressor s) := by
  unfold tryCompressor
  split
  · rename_i hfits
    rw [Claim.fits_iff] at hfits
    obtain ⟨hwait, hcost⟩ := hfits
    refine mapPower_keeps g (fun h => ?_) Iff.rfl (fun h => ?_) rfl
    · have : s.supply.compressor.points = 0 := points_of_not_granted (by rw [hwait]; decide)
      simp only [pointsGranted, freePoints, points_granted] at h hcost ⊢
      omega
    · obtain ⟨h1, h2, h3, h4, h5, h6⟩ := h
      have hstate := h3.mp hwait
      refine ⟨by simp, by simp [Claim.granted], by simp [Claim.granted], h4, h5, fun hd => ?_⟩
      have := h6 hd
      simp [hstate] at this
  · exact .refl g s

theorem tryHeater_keeps (g : Pledge) (s : State) : Keeps g s g (tryHeater s) := by
  unfold tryHeater
  split
  · rename_i hfits
    rw [Claim.fits_iff] at hfits
    obtain ⟨hwait, hcost⟩ := hfits
    refine mapPower_keeps g (fun h => ?_) Iff.rfl (fun h => ?_) rfl
    · have : s.supply.heater.points = 0 := points_of_not_granted (by rw [hwait]; decide)
      simp only [pointsGranted, freePoints, points_granted] at h hcost ⊢
      omega
    · obtain ⟨h1, h2, h3, h4, h5, h6⟩ := h
      exact ⟨h1, h2, h3, by simp [Claim.granted], fun _ => h5 (by rw [hwait]; decide), h6⟩
  · exact .refl g s

/-! ## The vend grant -/

theorem takeTrace_keeps (g : Pledge) (tag : Byte) (m : Motor) (s : State) : Keeps g s g (takeTrace tag m s) := by
  unfold takeTrace
  split
  · exact { drive := fun h => h.congr {} }
  · exact raise_keeps g _ _ _ s
  · exact raise_keeps g _ _ _ s

@[simp] theorem Drive.switchOn_tag (r : Drive) : r.switchOn.tag = r.tag := by
  unfold Drive.switchOn; split <;> rfl

theorem vendReady_iff (e : Entry) (s : State) :
    vendReady e s = true ↔ e.driving = false ∧ e.tag = s.supply.vendTag ∧ s.drive.record = none ∧
      heldBlocks s.vend.selections[e.selection] s = false ∧
      faultBlocks s.vend.selections[e.selection] s = false := by
  simp [vendReady, and_assoc]

theorem tryVend_of_not_fits {s : State} (h : ¬ s.supply.vend.state = .waiting) : tryVend s = s := by
  unfold tryVend
  split
  · rfl
  · rw [if_neg]
    rintro ⟨hfits, _⟩
    exact h (Claim.fits_iff.mp hfits).1

/-- With no vend claim waiting a consideration looks at the other two claims. -/
theorem consider_of_no_vend {s : State} (h : ¬ s.supply.vend.state = .waiting) :
    consider s = tryHeater (tryCompressor s) := by
  have hvend : (tryCompressor s).supply.vend = s.supply.vend := by
    unfold tryCompressor
    split <;> rfl
  have hbehind : tryVendBehind (tryCompressor s) = tryCompressor s := by
    unfold tryVendBehind
    split
    · rfl
    · exact tryVend_of_not_fits (by rwa [hvend])
  unfold consider
  split
  · rw [hbehind]
  · rw [tryVend_of_not_fits h]

theorem committedIn_driving (f : Funds) (e : Entry) (b : Bool) (es : List Entry) :
    committedIn f ({ e with driving := b } :: es) = committedIn f (e :: es) := by
  rw [committedIn_cons, committedIn_cons]

theorem cardIn_driving (e : Entry) (b : Bool) (es : List Entry) :
    cardIn ({ e with driving := b } :: es) = cardIn (e :: es) := by
  unfold cardIn
  by_cases h : e.funds = .card <;> simp [h]

/-- The vend grant: one state for the claim, the head entry and the drive record (R69, R75). -/
def vendGranted (e : Entry) (es : List Entry) (s : State) : State :=
  (((s.mapSupply fun p => { p with vend := p.vend.granted }).mapVend fun v =>
      { v with queue := { e with driving := true } :: es }).mapDrive fun d =>
    { d.energise (newDrive e.tag s.vend.selections[e.selection] d.monitor) with
      lastTag := e.tag, lastDrive := markMotors e.tag s.vend.selections[e.selection] d.lastDrive })

theorem vendGranted_keeps {g : Pledge} {s : State} {e : Entry} {es : List Entry} (hg : g.left = none)
    (hq : s.vend.queue = e :: es) (hfits : s.supply.vend.fits s.supply = true) :
    Keeps g s g (vendGranted e es s) where
  budget h := by
    rw [Claim.fits_iff] at hfits
    have : s.supply.vend.points = 0 := points_of_not_granted (by rw [hfits.1]; decide)
    have hcost := hfits.2
    simp only [WithinBudget, pointsGranted, freePoints] at h hcost
    show s.supply.vend.cost + s.supply.compressor.points + s.supply.heater.points ≤ s.supply.budget
    omega
  queue h := by
    have h : s.vend.queue.length ≤ 4 := h
    show (_ :: es).length ≤ 4
    rw [hq] at h; exact h
  places h := by
    rw [placesHeld_iff, hq] at h
    rw [placesHeld_iff]
    show cardIn ({ e with driving := true } :: es) + _ + _ ≤ 4
    rw [cardIn_driving]; exact h
  cash h := by
    refine ⟨h.ceiling, h.sum.trans ?_, h.covered, h.run⟩
    show _ = committedIn .cash ({ e with driving := true } :: es) + _
    rw [committedIn_driving, hq]
  card h := by
    refine ⟨h.sum.trans ?_, h.covered, fun hs x hx => ?_, fun hs x hx hf => ?_, fun x xs hx => ?_, by simp [hg]⟩
    · show _ = committedIn .card ({ e with driving := true } :: es) + _
      rw [committedIn_driving, hq]
    · rcases List.mem_cons.mp hx with rfl | hx
      · exact h.none_cash hs e (by simp [hq])
      · exact h.none_cash hs x (by simp [hq, hx])
    · rcases List.mem_cons.mp hx with rfl | hx
      · rfl
      · exact h.ending_driving hs x (by simp [hq, hx]) hf
    · obtain ⟨_, rfl⟩ := List.cons.inj hx
      exact h.head_only e es hq
  drive h := by
    refine ⟨fun r hr => ⟨rfl, _, es, rfl, rfl, ?_⟩, fun hr => by simp [vendGranted, Driver.energise] at hr, ?_⟩
    · simp only [vendGranted, State.mapDrive_drive, Driver.energise, Option.some.injEq] at hr
      rw [← hr]
      simp [newDrive]
    · intro x xs hx
      obtain ⟨_, rfl⟩ := List.cons.inj hx
      exact h.2.2 e es hq

theorem tryVend_keeps {g : Pledge} (s : State) (hg : g.left = none) : Keeps g s g (tryVend s) := by
  unfold tryVend
  split
  · exact .refl g s
  · rename_i e es hq
    split
    · rename_i h
      have hgrant := vendGranted_keeps hg hq h.1
      unfold firstEnergise
      simp only []
      split
      · exact hgrant.trans (takeTrace_keeps g _ _ _)
      · exact hgrant
    · exact .refl g s

theorem consider_keeps {g : Pledge} (s : State) (hg : g.left = none) : Keeps g s g (consider s) := by
  unfold consider
  split
  · refine ((tryCompressor_keeps g s).trans ?_).trans (tryHeater_keeps g _)
    unfold tryVendBehind
    split
    · exact .refl g _
    · exact tryVend_keeps _ hg
  · exact ((tryVend_keeps s hg).trans (tryCompressor_keeps g _)).trans (tryHeater_keeps g _)

/-! ## Placing, withdrawing and releasing -/

/-- A change of the vend claim that is not granted. -/
theorem mapVendClaim_keeps (g : Pledge) {s : State} {c : Claim} {n : Byte} (hs : s.supply.vend.state ≠ .granted)
    (hc : c.state ≠ .granted) : Keeps g s g (s.mapSupply fun p => { p with vend := c, vendTag := n }) where
  budget h := by
    have h1 := points_of_not_granted hs
    have h2 := points_of_not_granted hc
    simp only [WithinBudget, pointsGranted, State.mapSupply_supply] at h ⊢
    omega
  drive h := h.congr { claim := ⟨fun k => absurd k hc, fun k => absurd k hs⟩ }

theorem placeVend_keeps {g : Pledge} (n : Nat) (t : Byte) (s : State) (hg : g.left = none) :
    Keeps g s g (placeVend n t s) := by
  unfold placeVend
  split
  · rename_i h
    exact (mapVendClaim_keeps g (by rw [h]; decide) (by simp [Claim.placed] : (Claim.placed n).state ≠ .granted)).trans
      (consider_keeps _ hg)
  · exact .refl g s

theorem resetVendClaim_keeps (g : Pledge) {s : State} (h : s.supply.vend.state = .waiting) :
    Keeps g s g (s.mapSupply fun p => { p with vend := Reset.claim }) :=
  (@mapVendClaim_keeps g _ _ s.supply.vendTag) (by rw [h]; decide) (by decide : Reset.claim.state ≠ .granted)

/-- A waiting vend claim is withdrawn; no vend can be granted in the consideration that follows. -/
theorem withdrawVend_keeps (g : Pledge) (s : State) : Keeps g s g (withdrawVend s) := by
  unfold withdrawVend
  split
  · rename_i h
    rw [consider_of_no_vend (by simp [Reset.claim])]
    exact ((resetVendClaim_keeps g h).trans (tryCompressor_keeps g _)).trans (tryHeater_keeps g _)
  · exact .refl g s

/-! ## The vend controller -/

theorem startHead_keeps {g : Pledge} (s : State) (hg : g.left = none) : Keeps g s g (startHead s) := by
  unfold startHead
  split
  · exact .refl g s
  · split
    · exact placeVend_keeps _ _ s hg
    · exact .refl g s

/-- A change of what the vend controller owns that leaves its queue. -/
theorem mapVend_keeps (g : Pledge) {s : State} {f : Vend → Vend} (h : (f s.vend).queue = s.vend.queue) :
    Keeps g s g (s.mapVend f) where
  queue k := by simpa only [QueueFits, State.mapVend_vend, h] using k
  places k := by
    rw [placesHeld_iff] at k ⊢
    simpa only [State.mapVend_vend, State.mapVend_money, h] using k
  cash k := by simpa only [State.mapVend_vend, State.mapVend_money, State.mapVend_coins, h] using k
  card k := by simpa only [State.mapVend_vend, State.mapVend_money, h] using k
  drive k := k.congr { queue := h }

theorem finishEntry_keeps (g : Pledge) (e : Entry) (o : VendOutcome) (c : Option CancelCause) (s : State) :
    Keeps g s g (finishEntry e o c s) :=
  ((@mapVend_keeps g _ (fun v => { v with lastOutcome := some (LastOutcome.mk e.tag e.selection e.funds o c) }))
    rfl).trans (raise_keeps g _ _ _ _)

theorem tryCompressor_queue (s : State) : (tryCompressor s).vend = s.vend := by
  unfold tryCompressor; split <;> rfl

theorem withdrawVend_vend (s : State) : (withdrawVend s).vend = s.vend := by
  unfold withdrawVend
  split
  · rw [consider_of_no_vend (by simp [Reset.claim])]
    simp
  · rfl

/-- What one cancellation takes out of the queue. -/
theorem cancelOne_queue (c : CancelCause) (s : State) (e : Entry) :
    (cancelOne c s e).vend.queue = s.vend.queue.erase e := by
  unfold cancelOne
  simp only []
  split <;> simp [finishEntry, withdrawVend_vend]

theorem cancelOne_keeps {g : Pledge} (c : CancelCause) (s : State) (e : Entry) (hg : g.settled)
    (he : e ∈ s.vend.queue) (hd : e.driving = false) : Keeps g s g (cancelOne c s e) := by
  unfold cancelOne
  simp only []
  refine ((@Keeps.trans _ (g.leaving e)) ?_ (releaseFunds_keeps e _ hg)).trans (finishEntry_keeps g _ _ _ _)
  have herase := eraseEntry_keeps hg he hd
  split
  · exact herase.trans (withdrawVend_keeps _ _)
  · exact herase

/-- Entries that stand in the queue are cancelled one after the other. -/
theorem cancelAll_keeps {g : Pledge} (c : CancelCause) (hg : g.settled) {l : List Entry} {s : State}
    (hl : l.Subperm s.vend.queue) (hd : ∀ e ∈ l, e.driving = false) : Keeps g s g (l.foldl (cancelOne c) s) := by
  induction l generalizing s with
  | nil => exact .refl g s
  | cons e l ih =>
    have he : e ∈ s.vend.queue := hl.subset List.mem_cons_self
    have hrest : l.Subperm (cancelOne c s e).vend.queue := by
      rw [cancelOne_queue]
      simpa using hl.erase e
    exact (cancelOne_keeps c s e hg he (hd e List.mem_cons_self)).trans
      (ih hrest fun x hx => hd x (List.mem_cons_of_mem _ hx))

theorem mem_victims {p : Entry → Bool} {s : State} {e : Entry} :
    e ∈ victims p s ↔ e ∈ s.vend.queue ∧ e.driving = false ∧ p e = true := by
  simp [victims]

theorem cancelWhere_keeps {g : Pledge} (p : Entry → Bool) (c : CancelCause) (s : State) (hg : g.settled) :
    Keeps g s g (cancelWhere p c s) := by
  unfold cancelWhere
  split
  · exact .refl g s
  · refine (cancelAll_keeps c hg ?_ fun e he => (mem_victims.mp he).2.1).trans (startHead_keeps _ hg.1)
    exact (List.filter_sublist).subperm

theorem enterSales_keeps {g : Pledge} (n : SalesState) (s : State) (hg : g.left = none) :
    Keeps g s g (enterSales n s) := by
  have hraise := ((@mapVend_keeps g s (fun v => { v with sales := n })) rfl).trans
    (raise_keeps g .salesState n.code (amount (causeCode (s.mapVend fun v => { v with sales := n }))) _)
  unfold enterSales
  simp only []
  split
  · exact (hraise.trans (withdrawVend_keeps g _)).trans (recomputeAccept_keeps g _)
  · exact (hraise.trans (recomputeAccept_keeps g _)).trans (startHead_keeps _ hg)
  · exact hraise.trans (recomputeAccept_keeps g _)
  · exact hraise.trans (recomputeAccept_keeps g _)

theorem suspendCheck_keeps {g : Pledge} (s : State) (hg : g.left = none) : Keeps g s g (suspendCheck s) := by
  unfold suspendCheck
  split
  · split
    · exact .refl g s
    · exact enterSales_keeps _ s hg
  · split
    · exact enterSales_keeps _ s hg
    · exact .refl g s
  · exact .refl g s
  · exact .refl g s

/-! ## The fault list -/

theorem mapFaults_keeps (g : Pledge) (s : State) (f : FaultList → FaultList) : Keeps g s g (s.mapFaults f) := {}

theorem isolationBegins_keeps {g : Pledge} (i : Item) (s : State) (hg : g.settled) :
    Keeps g s g (isolationBegins i s) := by
  unfold isolationBegins
  split
  · exact tubeChanged_keeps g _ s
  all_goals exact cancelWhere_keeps _ _ s hg

theorem isolationEnds_keeps (g : Pledge) (i : Item) (s : State) : Keeps g s g (isolationEnds i s) := by
  unfold isolationEnds
  split
  · exact tubeChanged_keeps g _ s
  all_goals exact .refl g s

theorem report_keeps {g : Pledge} (k : FaultKind) (n : Nat) (s : State) (hg : g.settled) :
    Keeps g s g (report k n s) := by
  unfold report
  split
  · split
    · exact (mapFaults_keeps g s _).trans (raise_keeps g _ _ _ _)
    · exact .refl g s
  · split
    · unfold storeFault
      simp only []
      refine Keeps.trans ?_ (suspendCheck_keeps _ hg.1)
      have hput (p : Fin 24) (q : FaultRecord) := (mapFaults_keeps g s fun f => f.put p q).trans
        (raise_keeps g .faultNew (byteOf p) (faultValue q) _)
      split
      · exact hput _ _
      · split
        · exact (hput _ _).trans (isolationBegins_keeps _ _ hg)
        · exact hput _ _
    · exact ((mapFaults_keeps g s _).trans (raise_keeps g _ _ _ _)).trans (suspendCheck_keeps _ hg.1)

theorem conditionEnded_keeps (g : Pledge) (k : FaultKind) (n : Nat) (s : State) :
    Keeps g s g (conditionEnded k n s) := by
  unfold conditionEnded
  split
  · exact .refl g s
  · split
    · exact .refl g s
    · exact (mapFaults_keeps g s _).trans (raise_keeps g _ _ _ _)

theorem rejudge_keeps {g : Pledge} (b : FaultList) (s : State) (i : Item) (hg : g.settled) :
    Keeps g s g (rejudge b s i) := by
  unfold rejudge
  split
  · exact isolationBegins_keeps i s hg
  · exact isolationEnds_keeps g i s
  · exact .refl g s

theorem writeClass_keeps {g : Pledge} (k : Fin 12) (c : FaultClass) (s : State) (hg : g.settled) :
    Keeps g s g (writeClass k c s) := by
  unfold writeClass
  simp only []
  exact ((mapFaults_keeps g s _).trans (.foldl (fun t i => rejudge_keeps _ t i hg) _ _)).trans
    (suspendCheck_keeps _ hg.1)

theorem reportAgain_keeps {g : Pledge} (k : FaultKind) (n : Nat) (b : Bool) (s : State) (hg : g.settled) :
    Keeps g s g (reportAgain k n b s) := by
  unfold reportAgain
  split
  · exact report_keeps k n s hg
  · exact .refl g s

theorem probeAgain_keeps {g : Pledge} (s : State) (i : Fin 3) (hg : g.settled) : Keeps g s g (probeAgain s i) := by
  unfold probeAgain
  split
  · exact reportAgain_keeps _ _ _ s hg
  · exact reportAgain_keeps _ _ _ s hg
  · exact .refl g s
  · exact .refl g s

theorem endOverflow_keeps {g : Pledge} (s : State) (hg : g.settled) : Keeps g s g (endOverflow s) := by
  unfold endOverflow
  simp only []
  refine Keeps.trans ?_ (.foldl (fun t p => reportAgain_keeps _ _ _ t hg) _ _)
  refine Keeps.trans ?_ (reportAgain_keeps _ _ _ _ hg)
  refine Keeps.trans ?_ (.foldl (fun t i => probeAgain_keeps t i hg) _ _)
  exact (mapFaults_keeps g s _).trans (suspendCheck_keeps _ hg.1)

theorem removeFault_keeps {g : Pledge} (p : Fin 24) (r : FaultRecord) (s : State) (hg : g.settled) :
    Keeps g s g (removeFault p r s) := by
  have hmap := mapFaults_keeps g s fun f => { f with places := f.places.set p none }
  have hjudged : Keeps g s g (match itemOf r.kind r.subject with
      | none => s.mapFaults fun f => { f with places := f.places.set p none }
      | some i => rejudge s.faults (s.mapFaults fun f => { f with places := f.places.set p none }) i) := by
    split
    · exact hmap
    · exact hmap.trans (rejudge_keeps _ _ _ hg)
  unfold removeFault
  simp only []
  split
  · exact (hjudged.trans (suspendCheck_keeps _ hg.1)).trans (endOverflow_keeps _ hg)
  · exact hjudged.trans (suspendCheck_keeps _ hg.1)

end Sys2Proof.Machine
end

section
/-! PROOFS. What a fault report leaves as it is, and what the refrigeration controller and the sale hold and economy
unit keep (chapters 6 and 7). -/

namespace Sys2Proof.Machine

/-! ## What a fault report leaves -/

/-- The defrost state stays, and a drive that is under way goes on as it was. -/
structure Undisturbed (s t : State) : Prop where
  defrost : t.cooling.defrost.state = s.cooling.defrost.state
  drive : s.drive.record.isSome = true → t.drive = s.drive

theorem Undisturbed.refl (s : State) : Undisturbed s s := ⟨rfl, fun _ => rfl⟩

theorem Undisturbed.trans {s t u : State} (h : Undisturbed s t) (k : Undisturbed t u) : Undisturbed s u :=
  ⟨k.1.trans h.1, fun hs => (k.2 (by rwa [h.2 hs])).trans (h.2 hs)⟩

theorem Undisturbed.of_eq {s t : State} (hc : t.cooling = s.cooling) (hd : t.drive = s.drive) : Undisturbed s t :=
  ⟨by rw [hc], fun _ => hd⟩

theorem Undisturbed.mapSupply (s : State) (f : Supply → Supply) : Undisturbed s (s.mapSupply f) := ⟨rfl, fun _ => rfl⟩

theorem Undisturbed.mapVend (s : State) (f : Vend → Vend) : Undisturbed s (s.mapVend f) := ⟨rfl, fun _ => rfl⟩

theorem Undisturbed.foldl {α : Type} {f : State → α → State} (h : ∀ s a, Undisturbed s (f s a)) (l : List α)
    (s : State) : Undisturbed s (l.foldl f s) := by
  induction l generalizing s with
  | nil => exact .refl s
  | cons a l ih => exact (h s a).trans (ih (f s a))

theorem tryCompressor_undisturbed (s : State) : Undisturbed s (tryCompressor s) := by
  unfold tryCompressor
  split
  · exact ⟨rfl, fun _ => rfl⟩
  · exact .refl s

theorem tryHeater_undisturbed (s : State) : Undisturbed s (tryHeater s) := by
  unfold tryHeater
  split
  · exact ⟨rfl, fun _ => rfl⟩
  · exact .refl s

/-- A vend is granted only while no drive is under way. -/
theorem tryVend_undisturbed (s : State) : Undisturbed s (tryVend s) := by
  refine ⟨by simp, fun h => ?_⟩
  unfold tryVend
  split
  · rfl
  · rw [if_neg]
    rintro ⟨_, hready⟩
    rw [((vendReady_iff _ s).mp hready).2.2.1] at h
    cases h

theorem consider_undisturbed (s : State) : Undisturbed s (consider s) := by
  unfold consider
  split
  · refine ((tryCompressor_undisturbed s).trans ?_).trans (tryHeater_undisturbed _)
    unfold tryVendBehind
    split
    · exact .refl _
    · exact tryVend_undisturbed _
  · exact ((tryVend_undisturbed s).trans (tryCompressor_undisturbed _)).trans (tryHeater_undisturbed _)

/-- A change of the claims and the consideration that follows it. -/
theorem consider_mapSupply_undisturbed (s : State) (f : Supply → Supply) :
    Undisturbed s (consider (s.mapSupply f)) :=
  (Undisturbed.mapSupply s f).trans (consider_undisturbed _)

theorem withdrawVend_undisturbed (s : State) : Undisturbed s (withdrawVend s) := by
  unfold withdrawVend
  split
  · exact consider_mapSupply_undisturbed s _
  · exact .refl s

theorem startHead_undisturbed (s : State) : Undisturbed s (startHead s) := by
  unfold startHead
  split
  · exact .refl s
  · unfold placeVend
    split
    · split
      · exact consider_mapSupply_undisturbed s _
      · exact .refl s
    · exact .refl s

theorem cancelOne_undisturbed (c : CancelCause) (s : State) (e : Entry) : Undisturbed s (cancelOne c s e) := by
  unfold cancelOne
  simp only []
  have hend (t : State) : Undisturbed t (finishEntry e .cancelled (some c) (releaseFunds e t)) :=
    .of_eq (by simp) (by simp)
  split
  · refine Undisturbed.trans ?_ (hend _)
    exact (Undisturbed.mapVend s _).trans
      (withdrawVend_undisturbed _)
  · exact (Undisturbed.mapVend s _).trans (hend _)

theorem cancelWhere_undisturbed (p : Entry → Bool) (c : CancelCause) (s : State) :
    Undisturbed s (cancelWhere p c s) := by
  unfold cancelWhere
  split
  · exact .refl s
  · exact (Undisturbed.foldl (cancelOne_undisturbed c) _ s).trans (startHead_undisturbed _)

theorem enterSales_undisturbed (n : SalesState) (s : State) : Undisturbed s (enterSales n s) := by
  have hraise (a : Byte) (v : Word) : Undisturbed s (raise .salesState a v (s.mapVend fun v => { v with sales := n })) :=
    .of_eq rfl rfl
  have haccept (t : State) : Undisturbed t (recomputeAccept t) := .of_eq (by simp) (by simp)
  unfold enterSales
  simp only []
  split
  · exact ((hraise _ _).trans (withdrawVend_undisturbed _)).trans (haccept _)
  · exact ((hraise _ _).trans (haccept _)).trans (startHead_undisturbed _)
  · exact (hraise _ _).trans (haccept _)
  · exact (hraise _ _).trans (haccept _)

theorem suspendCheck_undisturbed (s : State) : Undisturbed s (suspendCheck s) := by
  unfold suspendCheck
  split
  · split
    · exact .refl s
    · exact enterSales_undisturbed _ s
  · split
    · exact enterSales_undisturbed _ s
    · exact .refl s
  · exact .refl s
  · exact .refl s

theorem isolationBegins_undisturbed (i : Item) (s : State) : Undisturbed s (isolationBegins i s) := by
  unfold isolationBegins
  split
  · exact .of_eq (by simp) (by simp)
  all_goals exact cancelWhere_undisturbed _ _ s

theorem report_undisturbed (k : FaultKind) (n : Nat) (s : State) : Undisturbed s (report k n s) := by
  have hput (f : FaultList → FaultList) (c : EventCode) (a : Byte) (v : Word) :
      Undisturbed s (raise c a v (s.mapFaults f)) := ⟨rfl, fun _ => rfl⟩
  unfold report
  split
  · split
    · exact hput _ _ _ _
    · exact .refl s
  · split
    · unfold storeFault
      simp only []
      refine Undisturbed.trans ?_ (suspendCheck_undisturbed _)
      split
      · exact hput _ _ _ _
      · split
        · exact (hput _ _ _ _).trans (isolationBegins_undisturbed _ _)
        · exact hput _ _ _ _
    · exact (hput _ _ _ _).trans (suspendCheck_undisturbed _)

/-! ## Compressor and defrost -/

/-- A change of what the refrigeration controller owns that leaves both loads and the zones' setpoints. -/
theorem mapCooling_keeps (g : Pledge) {s : State} {f : Cooling → Cooling} (hl : LoadsApart s → LoadsApart (s.mapCooling f))
    (hz : (f s.cooling).zones = s.cooling.zones) : Keeps g s g (s.mapCooling f) where
  loads := hl
  setpoints h z hzn := by
    have := h z hzn
    simp only [State.mapCooling_cooling, hz]
    exact this

theorem raiseDefrost_keeps (g : Pledge) (v : Nat) (s : State) : Keeps g s g (raiseDefrost v s) := raise_keeps g _ _ _ s

/-- The heater claim is placed in HEATING. -/
theorem Keeps.placeHeater {g : Pledge} {s t : State} (hk : Keeps g s g t) (hg : g.left = none)
    (hd : LoadsApart s → t.cooling.defrost.state = .heating) : Keeps g s g (placeHeater t) := by
  unfold Machine.placeHeater
  split
  · rename_i habs
    refine Keeps.trans ?_ (consider_keeps _ hg)
    exact
      { hk with
        budget := fun h => by
          have := (@points_of_not_granted t.supply.heater) (by rw [habs]; decide)
          have := hk.budget h
          simp only [WithinBudget, pointsGranted, State.mapSupply_supply, points_placed] at this ⊢
          omega
        drive := fun h => (hk.drive h).congr {}
        loads := fun h => by
          obtain ⟨h1, h2, h3, h4, h5, h6⟩ := hk.loads h
          refine ⟨h1, h2, h3, ?_, fun _ => hd h, h6⟩
          rw [habs] at h4
          simpa [Claim.placed] using h4 }
  · exact hk

/-- HEATING is entered with the compressor off. -/
theorem enterHeating_keeps {g : Pledge} (s : State) (hg : g.left = none)
    (hc : s.cooling.compressor.state = .locked ∨ s.cooling.compressor.state = .ready) :
    Keeps g s g (enterHeating s) := by
  unfold enterHeating
  refine Keeps.placeHeater (Keeps.trans ?_ (raiseDefrost_keeps g 0 _)) hg fun _ => rfl
  refine mapCooling_keeps g (fun ⟨h1, h2, h3, h4, h5, h6⟩ => ?_) rfl
  exact ⟨h1, h2, h3, h4, fun _ => rfl, fun _ => hc⟩

theorem tryVend_mapCooling (s : State) (f : Cooling → Cooling) : tryVend (s.mapCooling f) = (tryVend s).mapCooling f := by
  unfold tryVend
  simp only [State.mapCooling_vend, State.mapCooling_supply]
  split
  · rfl
  · rename_i e es hq
    change (if s.supply.vend.fits s.supply = true ∧ vendReady e s = true then _ else _) = _
    split
    · unfold firstEnergise
      simp only []
      split
      · unfold takeTrace
        split <;> rename_i htr
        · have htr' : s.drive.trace.state = .free := htr
          simp only [State.mapDrive_drive, State.mapVend_drive, State.mapSupply_drive, Driver.energise, htr']
          rfl
        · have htr' : s.drive.trace.state = .filling := htr
          simp only [State.mapDrive_drive, State.mapVend_drive, State.mapSupply_drive, Driver.energise, htr']
          rfl
        · have htr' : s.drive.trace.state = .full := htr
          simp only [State.mapDrive_drive, State.mapVend_drive, State.mapSupply_drive, Driver.energise, htr']
          rfl
      · rfl
    · rfl

theorem tryHeater_mapCompressor (s : State) (f : Compressor → Compressor) :
    tryHeater (s.mapCompressor f) = (tryHeater s).mapCompressor f := by
  unfold tryHeater
  by_cases h : s.supply.heater.fits s.supply = true
  · rw [if_pos h, if_pos (show (s.mapCompressor f).supply.heater.fits (s.mapCompressor f).supply = true from h)]
    rfl
  · rw [if_neg h, if_neg (show ¬ (s.mapCompressor f).supply.heater.fits (s.mapCompressor f).supply = true from h)]

/-- What looking at the vend claim leaves of the other two. -/
theorem tryVend_claims (s : State) :
    (tryVend s).supply.compressor = s.supply.compressor ∧ (tryVend s).supply.heater = s.supply.heater ∧
    (tryVend s).supply.deferring = s.supply.deferring ∧ (tryVend s).supply.vendTag = s.supply.vendTag := by
  unfold tryVend
  split
  · exact ⟨rfl, rfl, rfl, rfl⟩
  · split
    · exact ⟨by simp, by simp, by simp, by simp⟩
    · exact ⟨rfl, rfl, rfl, rfl⟩

/-- What looking at the compressor claim leaves of the other two. -/
theorem tryCompressor_claims (s : State) :
    (tryCompressor s).supply.vend = s.supply.vend ∧ (tryCompressor s).supply.heater = s.supply.heater := by
  unfold tryCompressor
  split <;> exact ⟨rfl, rfl⟩

/-- What looking at the heater claim leaves of the other two. -/
theorem tryHeater_claims (s : State) :
    (tryHeater s).supply.vend = s.supply.vend ∧ (tryHeater s).supply.compressor = s.supply.compressor := by
  unfold tryHeater
  split <;> exact ⟨rfl, rfl⟩

theorem tryVendBehind_cases (s : State) : tryVendBehind s = s ∨ tryVendBehind s = tryVend s := by
  unfold tryVendBehind
  split
  · exact .inl rfl
  · exact .inr rfl

theorem tryCompressor_of_not_waiting {s : State} (h : ¬ s.supply.compressor.state = .waiting) : tryCompressor s = s :=
  if_neg fun hf => h (Claim.fits_iff.mp hf).1

theorem tryHeater_of_not_waiting {s : State} (h : ¬ s.supply.heater.state = .waiting) : tryHeater s = s :=
  if_neg fun hf => h (Claim.fits_iff.mp hf).1

/-- While the heater claim does not wait, a consideration leaves it. -/
theorem consider_heater_of_not_waiting {s : State} (h : ¬ s.supply.heater.state = .waiting) :
    (consider s).supply.heater = s.supply.heater := by
  unfold consider
  split
  · have hsame : (tryVendBehind (tryCompressor s)).supply.heater = s.supply.heater := by
      rcases tryVendBehind_cases (tryCompressor s) with hb | hb <;> rw [hb]
      · exact (tryCompressor_claims s).2
      · rw [(tryVend_claims _).2.1, (tryCompressor_claims s).2]
    rw [tryHeater_of_not_waiting (by rwa [hsame]), hsame]
  · have hsame : (tryCompressor (tryVend s)).supply.heater = s.supply.heater := by
      rw [(tryCompressor_claims _).2, (tryVend_claims s).2.1]
    rw [tryHeater_of_not_waiting (by rwa [hsame]), hsame]

/-- While the compressor claim does not wait, a consideration does not look at the compressor record. -/
theorem consider_mapCompressor {s : State} (h : ¬ s.supply.compressor.state = .waiting) (f : Compressor → Compressor) :
    consider (s.mapCompressor f) = (consider s).mapCompressor f := by
  have hvend (t : State) : tryVend (t.mapCompressor f) = (tryVend t).mapCompressor f := tryVend_mapCooling t _
  have hsupply : ¬ (tryVend s).supply.compressor.state = .waiting := by rwa [(tryVend_claims s).1]
  have hdefer : (s.mapCompressor f).supply.deferring = s.supply.deferring := rfl
  unfold consider
  rw [hdefer]
  split
  · have hb : tryVendBehind s = tryVend s := if_neg h
    have hb' : tryVendBehind (s.mapCompressor f) = tryVend (s.mapCompressor f) := if_neg h
    rw [(@tryCompressor_of_not_waiting (s.mapCompressor f)) h, tryCompressor_of_not_waiting h, hb', hb, hvend,
      tryHeater_mapCompressor]
  · rw [hvend, (@tryCompressor_of_not_waiting ((tryVend s).mapCompressor f)) hsupply,
      tryCompressor_of_not_waiting hsupply, tryHeater_mapCompressor]

/-- The stop of the compressor but for what follows it: relay off, grant released, LOCKED with its run-on (R120). -/
def compressorStopped (s : State) : State :=
  (s.mapSupply fun p => { p with compressor := if p.compressor.state = .granted then Reset.claim else p.compressor }).mapCompressor
    fun c => { c with relay := false, state := .locked, offMs := offTimerMs, onMs := 0, runningMs := 0, runOn := some runOnMs }

theorem pointsGranted_compressor_le {p : Supply} {c : Claim} (h : c.points ≤ p.compressor.points) :
    pointsGranted { p with compressor := c } ≤ pointsGranted p := by
  simp only [pointsGranted]; omega

theorem compressorStopped_keeps (g : Pledge) {s : State} (h : s.cooling.compressor.state = .running) :
    Keeps g s g (compressorStopped s) := by
  refine @mapPower_keeps g s
    (fun p => { p with compressor := if p.compressor.state = .granted then Reset.claim else p.compressor })
    (fun k => { k with compressor := { k.compressor with
      relay := false, state := .locked, offMs := offTimerMs, onMs := 0, runningMs := 0, runOn := some runOnMs } })
    (fun hb => ?_) Iff.rfl (fun ⟨h1, h2, h3, h4, h5, h6⟩ => ?_) rfl
  · refine le_trans (pointsGranted_compressor_le ?_) hb
    split
    · simp
    · exact le_rfl
  · have hgr := h2.mpr (h1.mpr (.inr h))
    refine ⟨by simp, ?_, ?_, h4, h5, fun _ => .inl rfl⟩
    · simp [hgr, Reset.claim]
    · simp [hgr, Reset.claim]

/-- The stop of the compressor: the change of its record and its claim, a consideration if its grant was released, and
HEATING when a defrost was PENDING. -/
theorem stopCompressor_eq (s : State) :
    stopCompressor s =
      let u := if s.supply.compressor.state = .granted then consider (compressorStopped s) else compressorStopped s
      if u.cooling.defrost.state = .pending then enterHeating u else u := by
  have hrelease : (releaseCompressor (s.mapCompressor fun c => { c with relay := false })).mapCompressor
      (fun c => { c with state := .locked, offMs := offTimerMs, onMs := 0, runningMs := 0, runOn := some runOnMs }) =
      if s.supply.compressor.state = .granted then consider (compressorStopped s) else compressorStopped s := by
    unfold releaseCompressor
    by_cases hgr : s.supply.compressor.state = .granted
    · rw [if_pos hgr, if_pos (show (s.mapCompressor _).supply.compressor.state = .granted from hgr),
        ← consider_mapCompressor (by simp [Reset.claim])]
      simp [compressorStopped, hgr, State.mapCompressor, State.mapCooling, State.mapSupply]
    · rw [if_neg hgr, if_neg (show ¬ (s.mapCompressor _).supply.compressor.state = .granted from hgr)]
      simp [compressorStopped, hgr, State.mapCompressor, State.mapCooling, State.mapSupply]
  unfold stopCompressor
  simp only [hrelease]

theorem compressorStopped_locked (s : State) : (compressorStopped s).cooling.compressor.state = .locked := rfl

theorem consider_locked {s : State} (h : s.cooling.compressor.state = .locked) (hs : ¬ s.supply.compressor.state = .waiting) :
    (consider s).cooling.compressor.state = .locked := by
  have h1 : (s.mapCompressor fun c => { c with state := .locked }) = s := by
    have : ({ s.cooling.compressor with state := CompressorState.locked } : Compressor) = s.cooling.compressor := by
      rw [← h]
    simp only [State.mapCompressor, State.mapCooling, this]
  have h2 := consider_mapCompressor hs fun c => { c with state := .locked }
  rw [h1] at h2
  rw [h2]
  rfl

/-- A PENDING defrost passes to HEATING when the compressor has stopped. -/
theorem heatIfPending_keeps {g : Pledge} (s : State) (hg : g.left = none) (h : s.cooling.compressor.state = .locked) :
    Keeps g s g (if s.cooling.defrost.state = .pending then enterHeating s else s) := by
  split
  · exact enterHeating_keeps _ hg (.inl h)
  · exact .refl g s

theorem stopCompressor_keeps {g : Pledge} {s : State} (hg : g.left = none) (h : s.cooling.compressor.state = .running) :
    Keeps g s g (stopCompressor s) := by
  rw [stopCompressor_eq]
  have hstop := compressorStopped_keeps g h
  by_cases hgr : s.supply.compressor.state = .granted
  · simp only [if_pos hgr]
    refine (hstop.trans (consider_keeps _ hg)).trans (heatIfPending_keeps _ hg (consider_locked rfl ?_))
    simp [compressorStopped, hgr, Reset.claim, State.mapCompressor]
  · simp only [if_neg hgr]
    exact hstop.trans (heatIfPending_keeps _ hg rfl)

theorem reactCompressor_keeps {g : Pledge} (s : State) (hg : g.left = none) : Keeps g s g (reactCompressor s) := by
  unfold reactCompressor
  simp only []
  split
  · rename_i hready hdemand
    have hnone : s.cooling.defrost.state = .none := by
      simp only [compressorDemand, Bool.and_eq_true, decide_eq_true_eq] at hdemand
      exact hdemand.1
    unfold placeCompressor
    by_cases habs : s.supply.compressor.state = .absent
    · rw [if_pos (show (s.mapCompressor _).supply.compressor.state = .absent from habs)]
      refine Keeps.trans ?_ (consider_keeps _ hg)
      refine @mapPower_keeps g s (fun p => { p with compressor := .placed p.startCost, waitMs := 0, deferring := false })
        (fun k => { k with compressor := { k.compressor with state := .waitingPower } })
        (fun hb => le_trans (pointsGranted_compressor_le (Nat.zero_le _)) hb) Iff.rfl
        (fun ⟨h1, h2, h3, h4, h5, h6⟩ => ?_) rfl
      have hrelay : s.cooling.compressor.relay = false := by
        by_contra hr
        have := h1.mp (by simpa using hr)
        simp [hready] at this
      refine ⟨by simp [hrelay], by simp [Claim.placed, hrelay], by simp [Claim.placed], h4, h5, fun hd => ?_⟩
      simp [hnone] at hd
    · rw [if_neg (show ¬ (s.mapCompressor _).supply.compressor.state = .absent from habs)]
      refine mapCooling_keeps g (fun ⟨h1, h2, h3, _⟩ => ?_) rfl
      cases hs : s.supply.compressor.state with
      | absent => exact absurd hs habs
      | waiting => simp [hready] at h3; exact absurd hs h3
      | granted =>
        have := h1.mp (h2.mp hs)
        simp [hready] at this
  · rename_i hwaiting hdemand
    unfold withdrawCompressor
    by_cases hw : s.supply.compressor.state = .waiting
    · rw [if_pos (show (s.mapCompressor _).supply.compressor.state = .waiting from hw)]
      refine Keeps.trans ?_ (consider_keeps _ hg)
      refine @mapPower_keeps g s (fun p => { p with compressor := Reset.claim, deferring := false })
        (fun k => { k with compressor := { k.compressor with state := .ready } })
        (fun hb => le_trans (pointsGranted_compressor_le (Nat.zero_le _)) hb) Iff.rfl
        (fun ⟨h1, h2, h3, h4, h5, h6⟩ => ?_) rfl
      have hrelay : s.cooling.compressor.relay = false := by
        by_contra hr
        have := h1.mp (by simpa using hr)
        simp [hwaiting] at this
      exact ⟨by simp [hrelay], by simp [Reset.claim, hrelay], by simp [Reset.claim], h4, h5, fun _ => .inr rfl⟩
    · rw [if_neg (show ¬ (s.mapCompressor _).supply.compressor.state = .waiting from hw)]
      exact mapCooling_keeps g (fun h => absurd (h.2.2.1.mpr hwaiting) hw) rfl
  · split
    · exact stopCompressor_keeps hg ‹_›
    · exact .refl g s
  · exact .refl g s

theorem enterPending_keeps {g : Pledge} (n : Nat) (s : State) (hg : g.left = none)
    (hd : s.cooling.defrost.state = .none) : Keeps g s g (enterPending n s) := by
  have hreact : Keeps g s g (reactCompressor (raiseDefrost n (s.mapDefrost fun d => { d with state := .pending }))) := by
    refine (Keeps.trans ?_ (raiseDefrost_keeps g n _)).trans (reactCompressor_keeps _ hg)
    refine mapCooling_keeps g (fun ⟨h1, h2, h3, h4, h5, h6⟩ => ?_) rfl
    exact ⟨h1, h2, h3, h4, fun h => absurd (hd.symm.trans (h5 h)) (by decide), by simp⟩
  unfold enterPending
  simp only []
  split
  · exact hreact.trans (enterHeating_keeps _ hg (.inl ‹_›))
  · exact hreact.trans (enterHeating_keeps _ hg (.inr ‹_›))
  · exact hreact

theorem resetHeater_keeps (g : Pledge) (s : State) :
    Keeps g s g ((s.mapSupply fun p => { p with heater := Reset.claim }).mapDefrost fun d => { d with heater := false }) := by
  refine @mapPower_keeps g s (fun p => { p with heater := Reset.claim }) _ (fun hb => ?_) Iff.rfl
    (fun ⟨h1, h2, h3, h4, h5, h6⟩ => ?_) rfl
  · simp only [pointsGranted, points_resetClaim] at hb ⊢
    omega
  · exact ⟨h1, h2, h3, by simp [Reset.claim], by simp [Reset.claim], h6⟩

/-- Heater off, with a consideration when its claim has left. -/
theorem heaterOff_eq (s : State) :
    heaterOff s = if s.supply.heater.state = .absent then s.mapDefrost fun d => { d with heater := false }
      else consider ((s.mapSupply fun p => { p with heater := Reset.claim }).mapDefrost fun d =>
        { d with heater := false }) := by
  unfold heaterOff releaseHeater withdrawHeater
  cases h : s.supply.heater.state with
  | absent => simp [h]
  | waiting => simp [h]; rfl
  | granted =>
    have hgone := (@consider_heater_of_not_waiting ((s.mapDefrost fun d => { d with heater := false }).mapSupply
      fun p => { p with heater := Reset.claim })) (by simp [Reset.claim])
    simp only [State.mapDefrost_supply, h, if_true]
    rw [if_neg (by rw [hgone]; simp [Reset.claim]), if_neg (by simp)]
    rfl

theorem heaterOff_heater (s : State) : (heaterOff s).supply.heater.state = .absent := by
  rw [heaterOff_eq]
  split
  · assumption
  · rw [consider_heater_of_not_waiting (by simp [Reset.claim])]
    rfl

theorem heaterOff_keeps {g : Pledge} (s : State) (hg : g.left = none) : Keeps g s g (heaterOff s) := by
  rw [heaterOff_eq]
  split
  · rename_i h
    refine mapCooling_keeps g (fun ⟨h1, h2, h3, h4, h5, h6⟩ => ⟨h1, h2, h3, ?_, h5, h6⟩) rfl
    simp [h]
  · exact (resetHeater_keeps g s).trans (consider_keeps _ hg)

theorem heaterOff_defrost (s : State) : (heaterOff s).cooling.defrost.state = s.cooling.defrost.state := by
  rw [heaterOff_eq]
  split
  · rfl
  · exact (consider_undisturbed _).1

/-- HEATING ends with the compressor off. -/
theorem endHeating_keeps {g : Pledge} (s : State) (hg : g.left = none) (hd : s.cooling.defrost.state = .heating) :
    Keeps g s g (endHeating s) := by
  unfold endHeating
  refine ((heaterOff_keeps s hg).trans ?_).trans (raiseDefrost_keeps g _ _)
  refine mapCooling_keeps g (fun ⟨h1, h2, h3, h4, h5, h6⟩ => ?_) rfl
  have hc := h6 (.inl (by rw [heaterOff_defrost, hd]))
  exact ⟨h1, h2, h3, h4, fun h => absurd (heaterOff_heater s) h, fun _ => hc⟩

theorem endDripping_keeps {g : Pledge} (s : State) (hg : g.left = none) (hd : s.cooling.defrost.state = .dripping) :
    Keeps g s g (endDripping s) := by
  unfold endDripping
  refine (Keeps.trans ?_ (raiseDefrost_keeps g _ _)).trans (reactCompressor_keeps _ hg)
  refine mapCooling_keeps g (fun ⟨h1, h2, h3, h4, h5, h6⟩ => ?_) rfl
  exact ⟨h1, h2, h3, h4, fun h => absurd (hd.symm.trans (h5 h)) (by decide), by simp⟩

theorem shrink_keeps {g : Pledge} (s : State) (hg : g.left = none) : Keeps g s g (shrink s) := by
  unfold shrink
  split
  · rename_i h
    refine Keeps.trans ?_ (consider_keeps _ hg)
    refine @mapPower_keeps g s
      (fun p => { p with compressor := { p.compressor with held := min p.compressor.held p.runCost } }) id
      (fun hb => le_trans (pointsGranted_compressor_le ?_) hb) Iff.rfl (fun h => h) rfl
    simp only [Claim.points, h, if_true]
    exact min_le_left _ _
  · exact .refl g s

/-! ## Zones -/

/-- A change of a zone that keeps its setpoint and its effective setpoint. -/
theorem mapZone_keeps (g : Pledge) {s : State} {z : ZoneId} {f : Zone → Zone}
    (he : (f s.cooling.zones[z]).effective = s.cooling.zones[z].effective)
    (hp : (f s.cooling.zones[z]).setpoint = s.cooling.zones[z].setpoint) : Keeps g s g (s.mapZone z f) where
  setpoints h y hy := by
    have hy := h y hy
    simp only [State.mapZone, State.mapCooling_cooling, State.mapCooling_cabinet, Fin.getElem_fin,
      Vector.getElem_set] at hy ⊢
    split
    · rename_i hzy
      obtain rfl : z = y := Fin.ext hzy
      simp only [Fin.getElem_fin] at he hp
      rw [he, hp]
      exact hy
    · exact hy

theorem setDemand_keeps {g : Pledge} (z : ZoneId) (b : Bool) (s : State) (hg : g.left = none) :
    Keeps g s g (setDemand z b s) := by
  unfold setDemand
  split
  · exact .refl g s
  · exact (mapZone_keeps g rfl rfl).trans (reactCompressor_keeps _ hg)

theorem evalDemand_keeps {g : Pledge} (z : ZoneId) (s : State) (hg : g.left = none) :
    Keeps g s g (evalDemand z s) := by
  unfold evalDemand
  simp only []
  split
  · exact setDemand_keeps _ _ s hg
  · exact setDemand_keeps _ _ s hg
  · exact .refl g s
  · exact .refl g s

/-- The pledge of zones whose effective setpoint is still to be formed. -/
def Pledge.unforming (g : Pledge) (zs : List ZoneId) : Pledge := { g with unformed := zs ++ g.unformed }

theorem formSetpoint_keeps {g : Pledge} (z : ZoneId) (zs : List ZoneId) (s : State) (hg : g.left = none) :
    Keeps (g.unforming (z :: zs)) s (g.unforming zs) (formSetpoint z s) := by
  unfold formSetpoint
  refine Keeps.trans ?_ (evalDemand_keeps z _ hg)
  exact
    { cash := fun h => ⟨h.ceiling, h.sum, h.covered, h.run⟩
      card := fun h => ⟨h.sum, h.covered, h.none_cash, h.ending_driving, h.head_only, h.left_only⟩
      setpoints := fun h y hy => by
        simp only [State.mapZone, State.mapCooling_cooling, State.mapCooling_cabinet, Fin.getElem_fin,
          Vector.getElem_set]
        by_cases hzy : z = y
        · subst hzy; simp
        · have hne : z.val ≠ y.val := fun h => hzy (Fin.ext h)
          rw [if_neg hne]
          refine h y ?_
          simp only [Pledge.unforming, List.cons_append, List.mem_cons, not_or]
          exact ⟨Ne.symm hzy, hy⟩ }

theorem enterLimp_keeps {g : Pledge} (z : ZoneId) (s : State) (hg : g.left = none) : Keeps g s g (enterLimp z s) :=
  (mapZone_keeps g rfl rfl).trans (setDemand_keeps z true _ hg)

/-! ## Probe samples -/

theorem reportPassage_keeps {g : Pledge} (i : Fin 3) (a b : ChannelState) (s : State) (hg : g.settled) :
    Keeps g s g (reportPassage i a b s) := by
  have hended : Keeps g s g (match a.condition with
      | none => s
      | some k => conditionEnded k i s) := by
    split
    · exact .refl g s
    · exact conditionEnded_keeps g _ _ s
  unfold reportPassage
  simp only []
  split
  · exact .refl g s
  · split
    · exact hended
    · exact hended.trans (report_keeps _ _ _ hg)

theorem sampleProbe_keeps {g : Pledge} (i : Fin 3) (r : Int) (s : State) (hg : g.settled) :
    Keeps g s g (sampleProbe i r s) := by
  unfold sampleProbe
  exact (mapCooling_keeps g (fun h => h) rfl).trans (reportPassage_keeps _ _ _ _ hg)

theorem airTaken_keeps {g : Pledge} (z : ZoneId) (a : ChannelState) (s : State) (hg : g.left = none) :
    Keeps g s g (airTaken z a s) := by
  unfold airTaken
  simp only []
  split
  · exact enterLimp_keeps z s hg
  · exact (mapZone_keeps g rfl rfl).trans (evalDemand_keeps z _ hg)
  · exact evalDemand_keeps z s hg
  · exact .refl g s

theorem sampleAir_keeps {g : Pledge} (z : ZoneId) (r : Int) (s : State) (hg : g.settled) :
    Keeps g s g (sampleAir z r s) :=
  (sampleProbe_keeps _ r s hg).trans (airTaken_keeps z _ _ hg.1)

theorem checkNoCool_keeps {g : Pledge} (s : State) (hg : g.settled) : Keeps g s g (checkNoCool s) := by
  unfold checkNoCool
  simp only []
  split
  · exact (report_keeps _ _ s hg).trans (mapCooling_keeps g (fun h => h) rfl)
  · exact .refl g s

theorem sampleCoil_keeps {g : Pledge} (r : Int) (s : State) (hg : g.settled) : Keeps g s g (sampleCoil r s) := by
  unfold sampleCoil
  simp only []
  split
  · refine ((sampleProbe_keeps 2 r s hg).trans (checkNoCool_keeps _ hg)).trans ?_
    unfold checkCoil
    split
    · rename_i h
      exact endHeating_keeps _ hg.1 h.1
    · exact .refl g _
  · exact sampleProbe_keeps 2 r s hg

/-! ## Hold records -/

theorem hold_mapHold (s : State) (z y : ZoneId) (f : Hold → Hold) :
    (s.mapHold z f).cabinet.holds[y] = if z = y then f s.cabinet.holds[y] else s.cabinet.holds[y] := by
  simp only [State.mapHold, State.mapCabinet_cabinet, Fin.getElem_fin, Vector.getElem_set]
  by_cases h : z = y
  · subst h; simp
  · simp [h, Fin.val_ne_of_ne h]

theorem holdsCount_mapHold {s : State} {z : ZoneId} {f : Hold → Hold} (h : HoldsCount s)
    (hf : s.cabinet.holds[z].accumulator ≤ s.cabinet.holds[z].delay →
      (f s.cabinet.holds[z]).accumulator ≤ (f s.cabinet.holds[z]).delay) : HoldsCount (s.mapHold z f) := by
  intro y
  rw [hold_mapHold]
  split
  · subst_vars; exact hf (h _)
  · exact h y

/-- A change of a hold record that keeps its limit. -/
theorem mapHold_keeps (g : Pledge) {s : State} {z : ZoneId} {f : Hold → Hold}
    (hf : s.cabinet.holds[z].accumulator ≤ s.cabinet.holds[z].delay →
      (f s.cabinet.holds[z]).accumulator ≤ (f s.cabinet.holds[z]).delay)
    (hl : (f s.cabinet.holds[z]).limit = s.cabinet.holds[z].limit) : Keeps g s g (s.mapHold z f) where
  holds h := holdsCount_mapHold h hf
  setpoints h y hy := by
    have hlim : (s.mapHold z f).cabinet.holds[y].limit = s.cabinet.holds[y].limit := by
      rw [hold_mapHold]
      split
      · subst_vars; exact hl
      · rfl
    rw [hlim]
    exact h y hy

theorem Hold.count_spec (h : Hold) (p : Probe) :
    (h.accumulator ≤ h.delay → (h.count p).accumulator ≤ (h.count p).delay) ∧ (h.count p).limit = h.limit := by
  unfold Hold.count
  split
  · exact ⟨fun _ => min_le_left _ _, rfl⟩
  · exact ⟨fun k => (Nat.sub_le _ _).trans k, rfl⟩

theorem enterHeld_keeps {g : Pledge} (z : ZoneId) (s : State) (hg : g.settled) : Keeps g s g (enterHeld z s) := by
  unfold enterHeld
  simp only []
  exact ((mapHold_keeps g (fun h => h) rfl).trans (raise_keeps g _ _ _ _)).trans (cancelWhere_keeps _ _ _ hg)

theorem accumulate_keeps {g : Pledge} (z : ZoneId) (s : State) (hg : g.settled) : Keeps g s g (accumulate z s) := by
  unfold accumulate
  simp only []
  split
  · exact .refl g s
  · have hcount : Keeps g s g (s.mapHold z fun h => h.count s.cooling.probes[airProbe z]) :=
      mapHold_keeps g (Hold.count_spec _ _).1 (Hold.count_spec _ _).2
    split
    · exact hcount.trans (enterHeld_keeps z _ hg)
    · exact hcount

/-! ## Economy -/

/-- A change of what the sale hold and economy unit owns that leaves holds, offset and state. -/
theorem mapCabinet_keeps (g : Pledge) {s : State} {f : Cabinet → Cabinet} (hh : (f s.cabinet).holds = s.cabinet.holds)
    (ho : (f s.cabinet).economy.offset = s.cabinet.economy.offset)
    (hs : (f s.cabinet).economy.state = s.cabinet.economy.state) : Keeps g s g (s.mapCabinet f) where
  holds h y := by
    have := h y
    simp only [State.mapCabinet_cabinet, hh]
    exact this
  setpoints h y hy := by
    have := h y hy
    simp only [State.mapCabinet_cabinet, State.mapCabinet_cooling, hh, ho, hs]
    exact this

theorem mapEconomy_keeps (g : Pledge) {s : State} {f : Economy → Economy}
    (ho : (f s.cabinet.economy).offset = s.cabinet.economy.offset)
    (hs : (f s.cabinet.economy).state = s.cabinet.economy.state) : Keeps g s g (s.mapEconomy f) :=
  mapCabinet_keeps g rfl ho hs

/-- A change of the economy record after which both effective setpoints are to be formed. -/
theorem mapEconomy_unforms (g : Pledge) (s : State) (f : Economy → Economy) :
    Keeps g s (g.unforming [0, 1]) (s.mapEconomy f) where
  cash h := ⟨h.ceiling, h.sum, h.covered, h.run⟩
  card h := ⟨h.sum, h.covered, h.none_cash, h.ending_driving, h.head_only, h.left_only⟩
  setpoints _ y hy := by
    refine absurd ?_ hy
    fin_cases y <;> simp [Pledge.unforming]

theorem formBoth_keeps {g : Pledge} (s : State) (f : Economy → Economy) (hg : g.left = none) :
    Keeps g s g (formSetpoint 1 (formSetpoint 0 (s.mapEconomy f))) :=
  ((mapEconomy_unforms g s f).trans (formSetpoint_keeps 0 [1] _ hg)).trans (formSetpoint_keeps 1 [] _ hg)

theorem changeEconomy_keeps {g : Pledge} (n : EconomyState) (v : Nat) (s : State) (hg : g.left = none) :
    Keeps g s g (changeEconomy n v s) :=
  (formBoth_keeps s _ hg).trans (raise_keeps g _ _ _ _)

/-- The passage from ACTIVE of R136. -/
def dimIfQuiet (s : State) : State :=
  if s.cabinet.economy.state = .active ∧ s.cabinet.economy.dimDelay * 1000 ≤ s.cabinet.economy.quietMs then
    changeEconomy .dim 0 s else s

/-- The passage from DIM of R136. -/
def economyIfQuiet (s : State) : State :=
  if s.cabinet.economy.state = .dim
      ∧ (s.cabinet.economy.dimDelay + s.cabinet.economy.economyDelay) * 1000 ≤ s.cabinet.economy.quietMs
      ∧ s.cabinet.clock.valid = true ∧ s.cabinet.economy.inWindow = true then
    changeEconomy .economy 0 s else s

theorem judgeEconomy_eq (s : State) : judgeEconomy s = economyIfQuiet (dimIfQuiet s) := rfl

theorem judgeEconomy_keeps {g : Pledge} (s : State) (hg : g.left = none) : Keeps g s g (judgeEconomy s) := by
  rw [judgeEconomy_eq]
  refine (@Keeps.trans _ g _ _ (dimIfQuiet s)) ?_ ?_
  · unfold dimIfQuiet
    split
    · exact changeEconomy_keeps _ _ s hg
    · exact .refl g s
  · unfold economyIfQuiet
    split
    · exact changeEconomy_keeps _ _ _ hg
    · exact .refl g _

theorem judgeWindow_keeps {g : Pledge} (s : State) (hg : g.left = none) : Keeps g s g (judgeWindow s) := by
  unfold judgeWindow
  simp only []
  split
  · exact .refl g s
  · refine Keeps.trans ?_ (judgeEconomy_keeps _ hg)
    have hset : Keeps g s g (s.mapEconomy fun e => { e with inWindow := inWindow s.cabinet }) := mapEconomy_keeps g rfl rfl
    split
    · exact hset.trans (changeEconomy_keeps _ _ _ hg)
    · exact hset

theorem activity_keeps {g : Pledge} (k : Activity) (s : State) (hg : g.left = none) : Keeps g s g (activity k s) := by
  unfold activity
  simp only []
  split
  · exact .refl g s
  · have hquiet : Keeps g s g (s.mapEconomy fun e => { e with quietMs := 0 }) := mapEconomy_keeps g rfl rfl
    split
    · exact hquiet
    · refine (hquiet.trans ?_).trans (changeEconomy_keeps _ _ _ hg)
      exact mapEconomy_keeps g rfl rfl

end Sys2Proof.Machine
end

section
/-! PROOFS. What the ends of a drive, the link ports, the warm restart and the frames of the payment peripherals keep
(chapters 1, 3, 4, 8 and 10). -/

namespace Sys2Proof.Machine

/-! ## The end of a drive -/

/-- A change of what the matrix driver owns that leaves the tag of its drive. -/
theorem mapDrive_keeps (g : Pledge) {s : State} {f : Driver → Driver}
    (h : (f s.drive).record.map (·.tag) = s.drive.record.map (·.tag)) : Keeps g s g (s.mapDrive f) where
  drive k := k.congr { record := h }

/-- The drive has ended and its head entry has left with its claim: steps 1 and 2 of R71 without the consideration. -/
def driveEnded (s : State) : State :=
  ((s.mapDrive Driver.idle).mapSupply fun p =>
    { p with vend := if p.vend.state = .granted then Reset.claim else p.vend }).mapVend fun v =>
    { v with queue := v.queue.tail }

theorem pointsGranted_vend_le {p : Supply} {c : Claim} (h : c.points ≤ p.vend.points) :
    pointsGranted { p with vend := c } ≤ pointsGranted p := by
  simp only [pointsGranted]; omega

theorem driveEnded_keeps {g : Pledge} {s : State} {r : Drive} {e : Entry} {es : List Entry} (hg : g.settled)
    (hr : s.drive.record = some r) (hq : s.vend.queue = e :: es) : Keeps g s (g.leaving e) (driveEnded s) := by
  have htail : (driveEnded s).vend.queue = es := by simp [driveEnded, hq]
  refine
    { budget := fun h => ?_, queue := fun h => ?_, places := fun h => ?_, cash := fun h => ?_, card := fun h => ?_
      drive := fun h => ?_ }
  · refine le_trans (pointsGranted_vend_le ?_) h
    split
    · exact Nat.zero_le _
    · exact le_rfl
  · have h : s.vend.queue.length ≤ 4 := h
    rw [QueueFits, htail]
    rw [hq, List.length_cons] at h
    omega
  · rw [placesHeld_iff, hq] at h
    rw [placesHeld_iff, htail]
    have : cardIn (e :: es) = cardIn [e] + cardIn es := by
      rw [← List.singleton_append, cardIn, List.filter_append, List.length_append]; rfl
    have hmoney : (driveEnded s).money = s.money := rfl
    simp only [Pledge.leaving, Option.toList_some, hmoney]
    omega
  · refine ⟨h.ceiling, h.sum.trans ?_, h.covered, h.run⟩
    rw [htail, hq, committedIn_cons, Pledge.owedIn, Pledge.owedIn, hg.2]
    simp only [Pledge.leaving, Option.toList_some, committedIn_singleton]
    simp [committedIn]; omega
  · rw [htail]
    rw [hq] at h
    refine ⟨h.sum.trans ?_, h.covered, fun hs x hx => h.none_cash hs x (List.mem_cons_of_mem _ hx),
      fun hs x hx => h.ending_driving hs x (List.mem_cons_of_mem _ hx),
      fun x xs hx y hy => h.head_only e es rfl y (by rw [hx]; exact List.mem_cons_of_mem _ hy),
      fun _ _ _ => h.head_only e es rfl⟩
    rw [committedIn_cons, Pledge.owedIn, Pledge.owedIn, hg.2]
    simp only [Pledge.leaving, Option.toList_some, committedIn_singleton]
    simp [committedIn]; omega
  · obtain ⟨hsome, _, hhead⟩ := h
    have hgr := (hsome r hr).1
    refine ⟨fun r hr => by simp [driveEnded, Driver.idle] at hr, fun _ => ⟨?_, ?_⟩, ?_⟩
    · simp [driveEnded, hgr, Reset.claim]
    · rw [htail]; exact hhead e es hq
    · rw [htail]
      exact fun x xs hx y hy => hhead e es hq y (by rw [hx]; exact List.mem_cons_of_mem _ hy)

theorem tryCompressor_mapVend (s : State) (f : Vend → Vend) :
    tryCompressor (s.mapVend f) = (tryCompressor s).mapVend f := by
  unfold tryCompressor
  by_cases h : s.supply.compressor.fits s.supply = true
  · rw [if_pos h, if_pos (show (s.mapVend f).supply.compressor.fits (s.mapVend f).supply = true from h)]
    rfl
  · rw [if_neg h, if_neg (show ¬ (s.mapVend f).supply.compressor.fits (s.mapVend f).supply = true from h)]

theorem tryHeater_mapVend (s : State) (f : Vend → Vend) : tryHeater (s.mapVend f) = (tryHeater s).mapVend f := by
  unfold tryHeater
  by_cases h : s.supply.heater.fits s.supply = true
  · rw [if_pos h, if_pos (show (s.mapVend f).supply.heater.fits (s.mapVend f).supply = true from h)]
    rfl
  · rw [if_neg h, if_neg (show ¬ (s.mapVend f).supply.heater.fits (s.mapVend f).supply = true from h)]

/-- Steps 1 and 2 of R71 after the driver's: a consideration follows when the claim was granted. -/
theorem releaseVend_tail (s : State) :
    (releaseVend (s.mapDrive Driver.idle)).mapVend (fun v => { v with queue := v.queue.tail }) =
      if s.supply.vend.state = .granted then tryHeater (tryCompressor (driveEnded s)) else driveEnded s := by
  unfold releaseVend
  by_cases h : s.supply.vend.state = .granted
  · rw [if_pos h, if_pos (show (s.mapDrive _).supply.vend.state = .granted from h),
      consider_of_no_vend (by simp [Reset.claim]), ← tryHeater_mapVend, ← tryCompressor_mapVend]
    simp [driveEnded, h, State.mapSupply, State.mapVend, State.mapDrive]
  · rw [if_neg h, if_neg (show ¬ (s.mapDrive _).supply.vend.state = .granted from h)]
    simp [driveEnded, h, State.mapSupply, State.mapVend, State.mapDrive]

/-- R71 after its steps 1 and 2. -/
def settleRest (e : Entry) (o : VendOutcome) (s2 : State) : State :=
  let s3 := if o.isDelivery then debit e s2 else releaseFunds e s2
  let s4 := s3.mapSelection e.selection fun x => x.after o
  let s5 := finishEntry e o none s4
  let s6 := if o = .notDelivered then
      cancelWhere (fun x => decide (x.selection = e.selection)) .empty s5 else s5
  startHead s6

theorem settleVend_eq (e : Entry) (o : VendOutcome) (s : State) :
    settleVend e o s =
      settleRest e o ((releaseVend s).mapVend fun v => { v with queue := v.queue.tail }) := rfl

theorem settleRest_keeps {g : Pledge} (e : Entry) (o : VendOutcome) (s : State) (hg : g.settled)
    (hdue : g.replyDue = false) : Keeps (g.leaving e) s g (settleRest e o s) := by
  have hpaid : Keeps (g.leaving e) s g (if o.isDelivery then debit e s else releaseFunds e s) := by
    split
    · exact debit_keeps e s hg hdue
    · exact releaseFunds_keeps e s hg
  have hfinish := (hpaid.trans ((@mapVend_keeps g _ (fun v =>
    { v with selections := v.selections.set e.selection (v.selections[e.selection].after o) })) rfl)).trans
    (finishEntry_keeps g e o none _)
  unfold settleRest
  simp only []
  refine (@Keeps.trans _ g) ?_ (startHead_keeps _ hg.1)
  split
  · exact hfinish.trans (cancelWhere_keeps _ _ _ hg)
  · exact hfinish

/-- A drive ends: its head entry leaves, or in a state that no run reaches there is none to leave. -/
theorem endDrive_keeps {g : Pledge} {r : Drive} (o : VendOutcome) {s : State} (hg : g.settled)
    (hdue : g.replyDue = false) (hr : s.drive.record.map (·.tag) = some r.tag) :
    Keeps g s g (endDrive r o s) := by
  obtain ⟨r', hr', ht⟩ := Option.map_eq_some_iff.mp hr
  have hlost (h : ∀ e es, s.vend.queue = e :: es → ¬ (e.driving = true ∧ e.tag = r.tag)) :
      Keeps g s g (s.mapDrive Driver.idle) :=
    { drive := fun k => by
        obtain ⟨_, e, es, hq, hd, htag⟩ := k.1 r' hr'
        exact absurd ⟨hd, htag.trans ht⟩ (h e es hq) }
  unfold endDrive vendOutcome
  split
  · rename_i hq
    exact hlost fun e es h => by rw [show s.vend.queue = [] from hq] at h; cases h
  · rename_i e es hq
    have hq : s.vend.queue = e :: es := hq
    split
    · rw [settleVend_eq, releaseVend_tail]
      refine Keeps.trans ?_ (settleRest_keeps e o _ hg hdue)
      have hend := driveEnded_keeps hg hr' hq
      split
      · exact (hend.trans (tryCompressor_keeps _ _)).trans (tryHeater_keeps _ _)
      · exact hend
    · rename_i h
      refine hlost fun e' es' hq' => ?_
      rw [hq] at hq'
      obtain ⟨rfl, _⟩ := List.cons.inj hq'
      exact h

theorem driveFault_keeps {g : Pledge} (k : FaultKind) (l : List Motor) {r : Drive} {s : State} (hg : g.settled)
    (hdue : g.replyDue = false) (hr : s.drive.record.map (·.tag) = some r.tag) :
    Keeps g s g (driveFault k l r s) := by
  unfold driveFault
  simp only []
  have hoff : Keeps g s g (s.mapDrive fun d =>
      { d with phase := .idle, record := some r.switchOff, stallRun := 0, openRun := 0, blankLeft := 0 }) :=
    mapDrive_keeps g (by rw [hr]; rfl)
  refine (hoff.trans (.foldl (fun t m => report_keeps k m.index t hg) l _)).trans (endDrive_keeps _ hg hdue ?_)
  have hsame := (Undisturbed.foldl (fun t (m : Motor) => report_undisturbed k m.index t) l (s.mapDrive fun d =>
      { d with phase := .idle, record := some r.switchOff, stallRun := 0, openRun := 0, blankLeft := 0 })).2 rfl
  rw [hsame]
  rfl

theorem endOfLastTurn_keeps {g : Pledge} {r : Drive} {s : State} (hg : g.settled)
    (hdue : g.replyDue = false) (hr : s.drive.record.map (·.tag) = some r.tag) :
    Keeps g s g (endOfLastTurn r s) := by
  unfold endOfLastTurn
  simp only []
  have htail : Keeps g s g (s.mapDrive fun d =>
      { d with phase := .tail, record := some { r.switchOff with phaseMs := tailMs }, stallRun := 0, openRun := 0,
               blankLeft := 0 }) := mapDrive_keeps g (by rw [hr]; rfl)
  split
  · exact htail.trans (endDrive_keeps _ hg hdue rfl)
  · exact htail

theorem turnEnded_keeps {g : Pledge} {r : Drive} {s : State} (hg : g.settled)
    (hdue : g.replyDue = false) (hr : s.drive.record.map (·.tag) = some r.tag) :
    Keeps g s g (turnEnded r s) := by
  unfold turnEnded
  simp only []
  split
  · split
    · refine mapDrive_keeps g ?_
      rw [hr]
      simp
    · exact mapDrive_keeps g (by rw [hr]; rfl)
  · exact endOfLastTurn_keeps hg hdue hr

/-- Whether closing home switches end the turn of motor A. -/
def Drive.endsA (r : Drive) (m : TurnEnd) : Bool := decide (m ≠ .b) && r.a.ends

/-- Whether closing home switches end the turn of motor B. -/
def Drive.endsB (r : Drive) (m : TurnEnd) : Bool := decide (m ≠ .a) && r.b.ends

/-- The drive with the turns ended that the closing home switches end. -/
def Drive.closed (r : Drive) (m : TurnEnd) : Drive :=
  { r with a := if r.endsA m then r.a.ended else r.a, b := if r.endsB m then r.b.ended else r.b }

/-- One motor's turn has ended and the other's goes on: its column is switched off, and both runs start again. -/
def Driver.oneEnded (d : Driver) (m : TurnEnd) (r : Drive) : Driver :=
  { d with
    record := some { r.closed m with a := { (r.closed m).a with on := (r.closed m).a.on && !r.endsA m },
                                     b := { (r.closed m).b with on := (r.closed m).b.on && !r.endsB m } }
    stallRun := 0
    openRun := 0 }

theorem switchesClose_eq (m : TurnEnd) (r : Drive) (s : State) :
    switchesClose m r s =
      if r.endsA m = false ∧ r.endsB m = false then s
      else if (r.closed m).a.turn = .ended ∧ (r.closed m).b.turn = .ended then turnEnded (r.closed m) s
      else s.mapDrive fun d => d.oneEnded m r := rfl

theorem switchesClose_keeps {g : Pledge} (m : TurnEnd) {r : Drive} {s : State} (hg : g.settled)
    (hdue : g.replyDue = false) (hr : s.drive.record.map (·.tag) = some r.tag) :
    Keeps g s g (switchesClose m r s) := by
  rw [switchesClose_eq]
  split
  · exact .refl g s
  · split
    · exact turnEnded_keeps hg hdue hr
    · exact mapDrive_keeps g (by rw [hr]; rfl)

theorem tailEnds_keeps {g : Pledge} {r : Drive} {s : State} (hg : g.settled)
    (hdue : g.replyDue = false) (hr : s.drive.record.map (·.tag) = some r.tag) :
    Keeps g s g (tailEnds r s) := by
  unfold tailEnds
  split
  · exact endDrive_keeps _ hg hdue hr
  · split
    · exact endDrive_keeps _ hg hdue hr
    · split
      · exact endDrive_keeps _ hg hdue hr
      · refine mapDrive_keeps g ?_
        rw [hr]
        simp [Driver.energise]

theorem sampleCurrent_keeps {g : Pledge} (c : Byte) {r : Drive} {s : State} (hg : g.settled)
    (hdue : g.replyDue = false) (hr : s.drive.record.map (·.tag) = some r.tag) :
    Keeps g s g (sampleCurrent c r s) := by
  have hruns (n m : Nat) : Keeps g s g (s.mapDrive fun d => { d with stallRun := n, openRun := m }) :=
    mapDrive_keeps g rfl
  unfold sampleCurrent
  simp only []
  split
  · exact mapDrive_keeps g rfl
  · split
    · exact (hruns _ _).trans (driveFault_keeps _ _ hg hdue hr)
    · split
      · exact (hruns _ _).trans (driveFault_keeps _ _ hg hdue hr)
      · exact hruns _ _

theorem countDrop_keeps {g : Pledge} (s : State) (hg : g.settled) (hdue : g.replyDue = false) :
    Keeps g s g (countDrop s) := by
  unfold countDrop
  split
  · exact raise_keeps g _ _ _ s
  · rename_i r hr
    have hcount : Keeps g s g (s.mapDrive fun d => { d with record := some { r with drops := saturate 255 r.drops } }) :=
      mapDrive_keeps g (by rw [hr]; rfl)
    simp only []
    split
    · split
      · exact hcount.trans (endDrive_keeps _ hg hdue rfl)
      · exact hcount
    · exact hcount.trans (raise_keeps g _ _ _ _)

/-! ## Link ports -/

theorem quieten_keeps (g : Pledge) (p : PortId) (s : State) : Keeps g s g (s.mapPort p Port.quieten) :=
  mapPort_keeps (fun _ _ _ => .inl (by simp [Port.quieten])) (fun _ => ⟨by simp [Port.quieten], by
    simp [Port.quieten, generalTaken]⟩) (fun _ h => h)

/-- Steps 1 to 3 of R148, with the request hold of port U. -/
def quieted (p : PortId) (s : State) : State :=
  if p = 0 then (s.mapPort p Port.quieten).mapLink fun l => { l with hold := none } else s.mapPort p Port.quieten

theorem enterQuiet_eq (p : PortId) (s : State) :
    enterQuiet p s =
      if carriesValidator p (report .portQuiet p (quieted p s)).link then issueAccept (report .portQuiet p (quieted p s))
      else report .portQuiet p (quieted p s) := rfl

theorem quieted_keeps (g : Pledge) (p : PortId) (s : State) : Keeps g s g (quieted p s) := by
  unfold quieted
  split
  · exact (quieten_keeps g p s).trans (mapLink_keeps g _ rfl)
  · exact quieten_keeps g p s

theorem enterQuiet_keeps {g : Pledge} (p : PortId) (s : State) (hg : g.settled) : Keeps g s g (enterQuiet p s) := by
  have hreport := (quieted_keeps g p s).trans (report_keeps .portQuiet p _ hg)
  rw [enterQuiet_eq]
  split
  · exact hreport.trans (issueAccept_keeps g _)
  · exact hreport

theorem scoreBad_keeps {g : Pledge} (p : PortId) (s : State) (hg : g.settled) : Keeps g s g (scoreBad p s) := by
  have hscore (n : Nat) : Keeps g s g (s.mapPort p fun q => { q with score := n }) := mapPort_keeps_of_same rfl rfl
  unfold scoreBad
  simp only []
  split
  · exact mapPort_keeps_of_same rfl rfl
  · split
    · exact ((hscore _).trans (mapPort_keeps_of_same rfl rfl)).trans (raise_keeps g _ _ _ _)
    · exact hscore _
  · split
    · exact (hscore _).trans (enterQuiet_keeps p _ hg)
    · exact hscore _

theorem scoreGood_keeps (g : Pledge) (p : PortId) (s : State) : Keeps g s g (scoreGood p s) :=
  mapPort_keeps_of_same rfl rfl

theorem recover_keeps {g : Pledge} (p : PortId) (s : State) (hdue : p = 0 → g.replyDue = false) :
    Keeps g s g (recover p s) := by
  have hrevive : Keeps g s g (s.mapPort p Port.revive) := mapPort_keeps_of_same rfl rfl
  have hended := hrevive.trans (conditionEnded_keeps g .portQuiet p _)
  unfold recover
  simp only []
  refine (@Keeps.trans _ g) ?_ (fillPending_keeps _ p hdue)
  split
  · exact hended.trans (recomputeAccept_keeps g _)
  · exact hended

theorem overflowDrop_keeps (g : Pledge) (p : PortId) (s : State) : Keeps g s g (overflowDrop p s) := by
  have hcount : Keeps g s g (s.mapPort p fun q => { q with overflow := saturate 255 q.overflow, runOpen := true }) :=
    mapPort_keeps_of_same rfl rfl
  unfold overflowDrop
  simp only []
  split
  · exact hcount
  · exact hcount.trans (raise_keeps g _ _ _ _)

theorem forward_keeps {g : Pledge} (p : PortId) (f : Frame) (s : State) (hdue : g.replyDue = false) :
    Keeps g s g (forward p f s) := by
  unfold forward
  simp only []
  split
  · rename_i h
    exact mapPort_keeps (by simp [hdue]) (fun k => portHolds_enqueue f .forwarded h.2.2 k) (fun _ k => k)
  · exact overflowDrop_keeps g p s

/-! ## Warm restart -/

/-- The blocks after a warm restart, with the compressor claim placed again where it waited (R106). -/
def restartPlaced (s : State) : State :=
  (restartBlocks s).mapSupply fun p =>
    if s.supply.compressor.state = .waiting then
      { p with compressor := .placed p.startCost, waitMs := 0, deferring := false }
    else p

theorem points_restarted (c : Claim) : c.restarted.points = c.points := by
  unfold Claim.restarted
  split
  · rename_i h
    rw [(@points_of_not_granted c) (by rw [h]; decide)]; rfl
  · rfl

theorem restartPlaced_budget {s : State} (h : WithinBudget s) : WithinBudget (restartPlaced s) := by
  have hblocks : pointsGranted (restartBlocks s).supply ≤ (restartBlocks s).supply.budget := by
    refine le_trans ?_ h
    simp only [restartBlocks, Supply.restarted, pointsGranted, points_restarted, points_resetClaim]
    omega
  simp only [WithinBudget, restartPlaced, State.mapSupply_supply]
  split
  · exact le_trans (pointsGranted_compressor_le (Nat.zero_le _)) hblocks
  · exact hblocks

theorem restartPlaced_tubes {s : State} (h : TubesHold s) : TubesHold (restartPlaced s) := by
  intro t
  have := h t
  simpa [restartPlaced, restartBlocks, coinsRestarted] using this

theorem restartPlaced_port (s : State) (p : PortId) : (restartPlaced s).port p = (s.port p).restarted := by
  simp [restartPlaced, restartBlocks, Link.restarted, State.port]

theorem restartPlaced_queues (s : State) : QueuesHold (restartPlaced s) := by
  rw [queuesHold_iff]
  intro p
  rw [restartPlaced_port]
  exact ⟨by simp [Port.restarted], by simp [Port.restarted, generalTaken]⟩

theorem restartPlaced_pending (s : State) : PendingFit (restartPlaced s) := by
  rw [pendingFit_iff]
  intro p
  rw [restartPlaced_port]
  exact ⟨by simp [Port.restarted], by simp [Port.restarted], by simp [Port.restarted], by simp [Port.restarted]⟩

/-- What the warm restart makes of the credit record (R25). -/
theorem creditRestarted_spec (b : Bool) (c : Credit) :
    (c.restarted b).cash = c.cash ∧ (c.restarted b).payout = c.payout ∧ (c.restarted b).committed = 0 ∧
    (c.restarted b).cardCommitted = 0 ∧ (c.restarted b).session ≠ .ending := by
  unfold Credit.restarted
  simp only []
  split
  · rename_i h
    exact ⟨rfl, rfl, rfl, rfl, by simp [h.2]⟩
  · exact ⟨rfl, rfl, rfl, rfl, by simp⟩

theorem restartPlaced_loads {s : State} (h : LoadsApart s) : LoadsApart (restartPlaced s) := by
  obtain ⟨h1, h2, h3, h4, h5, h6⟩ := h
  have hgranted : s.supply.heater.restarted.state = .granted ↔ s.supply.heater.state = .granted := by
    unfold Claim.restarted
    split
    · rename_i hw; simp [Reset.claim, hw]
    · rfl
  have habsent : s.supply.heater.restarted.state ≠ .absent → s.supply.heater.state ≠ .absent := by
    unfold Claim.restarted
    split
    · simp [Reset.claim]
    · exact id
  have hheater : (restartPlaced s).supply.heater = s.supply.heater.restarted := by
    simp only [restartPlaced, State.mapSupply_supply]
    split <;> rfl
  have hcomp : ((restartPlaced s).supply.compressor.state = .granted ↔ s.supply.compressor.state = .granted) ∧
      ((restartPlaced s).supply.compressor.state = .waiting ↔ s.supply.compressor.state = .waiting) := by
    simp only [restartPlaced, State.mapSupply_supply]
    split
    · rename_i hw; simp [Claim.placed, hw]
    · rename_i hw; simp [restartBlocks, Supply.restarted, Claim.restarted, hw]
  refine ⟨h1, hcomp.1.trans h2, hcomp.2.trans h3, ?_, ?_, h6⟩
  · rw [hheater]; exact hgranted.trans h4
  · rw [hheater]; exact fun h => h5 (habsent h)

theorem restartPlaced_drive (s : State) : DriveNeedsGrant (restartPlaced s) := by
  have hvend : (restartPlaced s).supply.vend = Reset.claim := by
    simp only [restartPlaced, State.mapSupply_supply]
    split <;> rfl
  refine ⟨fun r hr => by simp [restartPlaced, restartBlocks, Driver.idle] at hr, fun _ => ⟨?_, ?_⟩, ?_⟩
  · rw [hvend]; decide
  · simp [restartPlaced, restartBlocks, Vend.restarted]
  · simp [restartPlaced, restartBlocks, Vend.restarted]

/-- The pledge of an operation that owes nothing. -/
abbrev Pledge.nothing : Pledge := {}

theorem restartPlaced_keeps (s : State) : Keeps .nothing s .nothing (restartPlaced s) where
  balanced h := by
    obtain ⟨hcash, hpay, _⟩ := creditRestarted_spec (cardDriving s.vend) s.money.credit
    show s.money.totals.deposited = (s.money.credit.restarted _).cash + (s.money.credit.restarted _).payout
      + s.money.totals.sales + s.money.totals.paid + s.money.totals.written
    rw [hcash, hpay]
    exact h
  budget := restartPlaced_budget
  tubes := restartPlaced_tubes
  flights _ := by simp [FlightsFit, restartPlaced, restartBlocks, coinsRestarted]
  queue _ := by simp [QueueFits, restartPlaced, restartBlocks, Vend.restarted]
  events _ := by simp [EventsFit, restartPlaced, restartBlocks]
  places h := by
    rw [placesHeld_iff] at h ⊢
    refine le_trans ?_ h
    show cardIn [] + s.money.settlements.length + _ ≤ _
    simp [cardIn]
  reply _ h := by simp at h
  queues _ _ := restartPlaced_queues s
  pending _ _ _ := restartPlaced_pending s
  cash h := by
    obtain ⟨hcash, hpay, hcom, _⟩ := creditRestarted_spec (cardDriving s.vend) s.money.credit
    refine ⟨?_, ?_, ?_, fun _ => ⟨by simp [restartPlaced, restartBlocks, coinsRestarted, Reset.engine],
      by simp [restartPlaced, restartBlocks, coinsRestarted, Reset.engine],
      by simp [restartPlaced, restartBlocks, coinsRestarted, Reset.engine]⟩⟩
    · show (s.money.credit.restarted _).cash.toNat + (s.money.credit.restarted _).payout.toNat < _
      rw [hcash, hpay]; exact h.ceiling
    · show (s.money.credit.restarted _).committed.toNat = _
      rw [hcom]; rfl
    · show (s.money.credit.restarted _).committed.toNat ≤ _
      rw [hcom]; exact Nat.zero_le _
  card h := by
    obtain ⟨_, _, _, hkc, hend⟩ := creditRestarted_spec (cardDriving s.vend) s.money.credit
    refine ⟨?_, fun _ => ?_, fun _ x hx => ?_, fun hs => absurd hs hend, fun x xs hx => ?_, by simp⟩
    · show (s.money.credit.restarted _).cardCommitted.toNat = _
      rw [hkc]; rfl
    · show (s.money.credit.restarted _).cardCommitted.toNat ≤ _
      rw [hkc]; exact Nat.zero_le _
    · simp [restartPlaced, restartBlocks, Vend.restarted] at hx
    · simp [restartPlaced, restartBlocks, Vend.restarted] at hx
  drive _ := restartPlaced_drive s
  loads := restartPlaced_loads

/-- The claims of the refrigeration controller after a warm restart (R106). -/
theorem placeAgain_restartBlocks (s : State) :
    placeAgain s (restartBlocks s) =
      let t := if s.supply.compressor.state = .waiting then consider (restartPlaced s) else restartPlaced s
      if s.supply.heater.state = .waiting then placeHeater t else consider t := by
  unfold placeAgain
  by_cases h : s.supply.compressor.state = .waiting
  · have habs : (restartBlocks s).supply.compressor.state = .absent := by
      simp [restartBlocks, Supply.restarted, Claim.restarted, h, Reset.claim]
    simp only [h, if_true, placeCompressor, habs, restartPlaced]
  · simp only [h, if_false, restartPlaced]
    rfl

theorem restartPlaced_defrost (s : State) : (restartPlaced s).cooling.defrost = s.cooling.defrost := rfl

theorem warmRestart_keeps (s : State) : Keeps .nothing s .nothing (warmRestart s) := by
  have hplaced : Keeps .nothing s .nothing
      (if s.supply.compressor.state = .waiting then consider (restartPlaced s) else restartPlaced s) ∧
      (if s.supply.compressor.state = .waiting then consider (restartPlaced s)
        else restartPlaced s).cooling.defrost.state = s.cooling.defrost.state := by
    split
    · exact ⟨(restartPlaced_keeps s).trans (consider_keeps _ rfl), (consider_undisturbed _).1⟩
    · exact ⟨restartPlaced_keeps s, rfl⟩
  have hagain : Keeps .nothing s .nothing (placeAgain s (restartBlocks s)) := by
    rw [placeAgain_restartBlocks]
    by_cases hw : s.supply.heater.state = .waiting
    · simp only [if_pos hw]
      exact hplaced.1.placeHeater rfl fun h => hplaced.2.trans (h.2.2.2.2.1 (by rw [hw]; decide))
    · simp only [if_neg hw]
      exact hplaced.1.trans (consider_keeps _ rfl)
  unfold warmRestart
  exact ((hagain.trans (evaluateAssurance_keeps _ _)).trans (recomputeAccept_keeps _ _)).trans (start_keeps _ _)

/-! ## Frames of the payment peripherals -/

theorem coinIn_keeps {g : Pledge} (c : Byte) (s : State) (hg : g.left = none) : Keeps g s g (coinIn c s) := by
  unfold coinIn
  refine (@Keeps.trans _ g) ?_ (activity_keeps _ _ hg)
  split
  · exact raise_keeps g _ _ _ s
  · split
    · exact raise_keeps g _ _ _ s
    · exact creditOr_keeps _ _ s fun t => route_keeps g _ _ t

/-- A note decision is sent where fewer than four wait at the note reader's port. -/
theorem sendDecision_keeps {g : Pledge} (ty n : Byte) (s : State) (hdue : g.replyDue = false)
    (hty : ty = 0x68 ∨ ty = 0x69)
    (hroom : ∀ m, roleEntry .noteReader s.link = some m → ((s.port m.port).waiting.filter isDecision).length < 4) :
    Keeps g s g (sendOwn .noteReader ty [n] s) := by
  rcases sendOwn_cases .noteReader ty [n] s with ⟨_, he⟩ | ⟨m, hm, he⟩ <;> rw [he]
  · exact .refl g s
  · have hdec : isDecision { dest := m.node, src := s.link.ownNode, type := ty, payload := [n] } = true := by
      rcases hty with rfl | rfl <;> rfl
    have hna : ty ≠ typeAcceptSet := by rcases hty with rfl | rfl <;> decide
    have hns : ty ≠ typeSettle := by rcases hty with rfl | rfl <;> decide
    exact issueAt_keeps hdue hna fun _ h =>
      portPending_concat (fun _ => hroom m hm) (fun h => absurd h hna) (fun h => absurd h hns) (.inl hdec) h

theorem decideNote_keeps (g : Pledge) (st : EscrowState) (n : Byte) (s : State) :
    Keeps g s g (decideNote st n s) := {}

theorem noteHeld_keeps {g : Pledge} (n : Byte) (s : State) (hg : g.left = none) (hdue : g.replyDue = false)
    (hroom : ∀ m, roleEntry .noteReader s.link = some m → ((s.port m.port).waiting.filter isDecision).length < 4) :
    Keeps g s g (noteHeld n s) := by
  unfold noteHeld
  refine (@Keeps.trans _ g) ?_ (activity_keeps _ _ hg)
  split
  · split
    · exact (decideNote_keeps g _ n s).trans (sendDecision_keeps _ _ _ hdue (.inl rfl) hroom)
    · exact (decideNote_keeps g _ n s).trans (sendDecision_keeps _ _ _ hdue (.inr rfl) hroom)
  · exact sendDecision_keeps _ _ s hdue (.inr rfl) hroom

theorem takeNoteHeld_keeps {g : Pledge} (n : Byte) (s : State) (hg : g.left = none) (hdue : g.replyDue = false) :
    Keeps g s g (takeNoteHeld n s) := by
  unfold takeNoteHeld
  split
  · rename_i hnone
    exact noteHeld_keeps n s hg hdue (by simp [hnone])
  · rename_i m hm
    split
    · exact overflowDrop_keeps g _ s
    · refine noteHeld_keeps n s hg hdue fun m' hm' => ?_
      obtain rfl : m = m' := Option.some.inj (hm.symm.trans hm')
      omega

theorem noteStacked_keeps (g : Pledge) (n : Byte) (s : State) : Keeps g s g (noteStacked n s) := by
  have hcredit (t : State) : Keeps g t g (creditStacked t) :=
    (clearEscrow_keeps g t).trans (creditOr_keeps _ _ _ fun u => .refl g u)
  unfold noteStacked
  split
  · exact hcredit s
  · exact (raise_keeps g _ _ _ s).trans (hcredit _)
  · exact (clearEscrow_keeps g s).trans (raise_keeps g _ _ _ _)
  · exact raise_keeps g _ _ _ s

theorem escrowExpires_keeps (g : Pledge) (s : State) : Keeps g s g (escrowExpires s) := by
  unfold escrowExpires
  split
  · refine (@Keeps.trans _ g) ?_ (raise_keeps g _ _ _ _)
    exact {}
  · exact clearEscrow_keeps g s
  · exact .refl g s
  · exact .refl g s

theorem committedIn_card_of_cash {q : List Entry} (h : ∀ e ∈ q, e.funds = .cash) : committedIn .card q = 0 := by
  have : q.filter (fun x => decide (x.funds = .card)) = [] := by
    simp only [List.filter_eq_nil_iff, decide_eq_true_eq]
    intro e he
    rw [h e he]; decide
  simp [committedIn, this]

theorem fundsReported_keeps {g : Pledge} (a : Half) (s : State) (hg : g.settled) :
    Keeps g s g (fundsReported a s) := by
  have howed : g.owedIn .card = 0 := by rw [Pledge.owedIn, hg.2]; rfl
  unfold fundsReported
  simp only []
  refine (@Keeps.trans _ g) ?_ (activity_keeps _ _ hg.1)
  split
  · rename_i hs
    refine (@Keeps.trans _ g) ?_ (raise_keeps g _ _ _ _)
    refine { cash := fun h => ⟨h.ceiling, h.sum, h.covered, h.run⟩, card := fun h => ?_ }
    have hcash := h.none_cash hs
    refine ⟨?_, fun _ => Nat.zero_le _, fun hn => ?_, fun he => ?_, h.head_only, h.left_only⟩
    · have := committedIn_card_of_cash hcash
      simp [State.mapCredit, this, howed]
    · simp [State.mapCredit] at hn
    · simp [State.mapCredit] at he
  · rename_i hs
    split
    · rename_i hk
      refine (@Keeps.trans _ g) ?_ (raise_keeps g _ _ _ _)
      refine { cash := fun h => ⟨h.ceiling, h.sum, h.covered, h.run⟩, card := fun h => ?_ }
      refine ⟨h.sum, fun _ => ?_, h.none_cash, h.ending_driving, h.head_only, h.left_only⟩
      simp [State.mapCredit, hk]
    · exact raise_keeps g _ _ _ s
  · exact raise_keeps g _ _ _ s

/-! ## The end of a session -/

/-- What the cancellation of entries leaves of the queue. -/
theorem cancelAll_queue (c : CancelCause) (l : List Entry) (s : State) :
    (l.foldl (cancelOne c) s).vend.queue = s.vend.queue.diff l := by
  induction l generalizing s with
  | nil => simp
  | cons e l ih => rw [List.foldl_cons, ih, cancelOne_queue, List.diff_cons]

theorem mem_diff_filter {α : Type} [DecidableEq α] {p : α → Bool} {q : List α} {x : α} (h : x ∈ q.diff (q.filter p)) :
    x ∈ q ∧ p x = false := by
  refine ⟨List.diff_subset _ _ h, ?_⟩
  by_contra hp
  have hp : p x = true := by simpa using hp
  have hcount := List.count_pos_iff.mpr h
  rw [List.count_diff, List.count_filter hp] at hcount
  omega

theorem takeTrace_vend (t : Byte) (m : Motor) (s : State) : (takeTrace t m s).vend = s.vend := by simp

/-- All that the start of a head does to the queue: nothing, or its head becomes DRIVING. -/
theorem tryVend_queue (s : State) :
    (tryVend s).vend.queue = s.vend.queue ∨
    ∃ e es, s.vend.queue = e :: es ∧ (tryVend s).vend.queue = { e with driving := true } :: es := by
  unfold tryVend
  split
  · exact .inl rfl
  · rename_i e es hq
    split
    · exact .inr ⟨e, es, hq, by simp⟩
    · exact .inl rfl

theorem consider_queue (s : State) :
    (consider s).vend.queue = s.vend.queue ∨
    ∃ e es, s.vend.queue = e :: es ∧ (consider s).vend.queue = { e with driving := true } :: es := by
  have hc (t : State) : (tryCompressor t).vend = t.vend := by simp
  have hh (t : State) : (tryHeater t).vend = t.vend := by simp
  unfold consider
  split
  · rw [hh]
    rcases tryVendBehind_cases (tryCompressor s) with hb | hb <;> rw [hb]
    · exact .inl (by rw [hc])
    · have := tryVend_queue (tryCompressor s)
      rwa [hc] at this
  · rw [hh, hc]
    exact tryVend_queue s

theorem startHead_queue (s : State) :
    (startHead s).vend.queue = s.vend.queue ∨
    ∃ e es, s.vend.queue = e :: es ∧ (startHead s).vend.queue = { e with driving := true } :: es := by
  unfold startHead
  split
  · exact .inl rfl
  · split
    · unfold placeVend
      split
      · exact consider_queue (s.mapSupply _)
      · exact .inl rfl
    · exact .inl rfl

/-- After a cancellation by funds the entries with these funds that are left are DRIVING. -/
theorem cancelWhere_funds (f : Funds) (c : CancelCause) (s : State) :
    ∀ e ∈ (cancelWhere (fun e => decide (e.funds = f)) c s).vend.queue, e.funds = f → e.driving = true := by
  have hbefore : ∀ e ∈ ((victims (fun e => decide (e.funds = f)) s).foldl (cancelOne c) s).vend.queue,
      e.funds = f → e.driving = true := by
    intro e he hf
    rw [cancelAll_queue] at he
    have := (mem_diff_filter he).2
    simpa [hf] using this
  unfold cancelWhere
  split
  · rename_i hnil
    rw [hnil] at hbefore
    exact hbefore
  · intro e he hf
    rcases startHead_queue ((victims (fun e => decide (e.funds = f)) s).foldl (cancelOne c) s) with hq | ⟨x, xs, hq, hq'⟩
    · rw [hq] at he
      exact hbefore e he hf
    · rw [hq'] at he
      rcases List.mem_cons.mp he with rfl | he
      · rfl
      · exact hbefore e (by rw [hq]; exact List.mem_cons_of_mem _ he) hf

theorem sessionEnds_keeps {g : Pledge} (s : State) (hg : g.settled) : Keeps g s g (sessionEnds s) := by
  unfold sessionEnds
  simp only []
  refine (@Keeps.trans _ g) ?_ (activity_keeps _ _ hg.1)
  split
  · have hcancel := cancelWhere_keeps (fun e => decide (e.funds = .card)) .cardEnd s hg
    have hleft := cancelWhere_funds .card .cardEnd s
    split
    · refine hcancel.trans ?_
      refine { cash := fun h => ⟨h.ceiling, h.sum, h.covered, h.run⟩, card := fun h => ?_ }
      refine ⟨h.sum, fun _ => ?_, fun hn => by simp [State.mapCredit] at hn, fun _ => hleft, h.head_only, h.left_only⟩
      by_cases hs : (cancelWhere (fun e => decide (e.funds = .card)) .cardEnd s).money.credit.session = .none
      · have hsum := h.sum
        rw [committedIn_card_of_cash (h.none_cash hs), Pledge.owedIn, hg.2] at hsum
        exact le_trans (le_of_eq hsum) (Nat.zero_le _)
      · exact h.covered hs
    · rename_i hdriving
      refine hcancel.trans (closeSession_keeps fun _ e he => ?_)
      cases hf : e.funds
      · rfl
      · refine absurd (List.any_eq_true.mpr ⟨e, he, ?_⟩) hdriving
        simp [hf, hleft e he hf]
  · exact .refl g s

/-! ## Settlement records -/

/-- What waits without the SETTLE of a tag belongs to the other records. -/
theorem portPending_withoutSettle {rs : List Settlement} {r : Settlement} {q : Port} (h : PortPending rs q.waiting) :
    PortPending (rs.erase r) (q.withoutSettle r.tag).waiting := by
  obtain ⟨h1, h2, h3, h4⟩ := (@portPending_of_sublist _ _ ((q.withoutSettle r.tag).waiting)) List.filter_sublist h
  refine ⟨h1, h2, h3, fun f hf => ?_⟩
  rcases h4 f hf with hd | ha | ⟨hs, x, hx, ht⟩
  · exact .inl hd
  · exact .inr (.inl ha)
  · refine .inr (.inr ⟨hs, x, (List.mem_erase_of_ne ?_).mpr hx, ht⟩)
    rintro rfl
    have := (Port.mem_withoutSettle_waiting.mp hf).2
    simp [isSettleOf, hs, ht] at this

theorem dropSettlement_keeps (g : Pledge) (r : Settlement) (s : State) : Keeps g s g (dropSettlement r s) where
  places h := by
    rw [placesHeld_iff] at h ⊢
    refine le_trans ?_ h
    have := (@List.length_erase_le _ _ r s.money.settlements)
    simp only [dropSettlement_money, dropSettlement_frame]
    omega
  reply h hd := by
    have := h hd
    rw [dropSettlement_port]
    exact this
  queues _ h := by
    rw [queuesHold_iff] at h ⊢
    intro p
    rw [dropSettlement_port]
    exact h p
  pending _ _ h := by
    rw [pendingFit_iff] at h ⊢
    intro p
    rw [dropSettlement_port]
    exact portPending_withoutSettle (h p)

theorem settleAcked_keeps (g : Pledge) (t : Byte) (s : State) : Keeps g s g (settleAcked t s) := by
  unfold settleAcked
  split
  · exact raise_keeps g _ _ _ s
  · split
    · exact dropSettlement_keeps g _ s
    · exact (dropSettlement_keeps g _ s).trans (raise_keeps g _ _ _ _)

/-- A change of the settlement records that keeps their tags. -/
theorem mapSettlements_keeps (g : Pledge) (s : State) {f : Settlement → Settlement} (h : ∀ r, (f r).tag = r.tag) :
    Keeps g s g (s.mapMoney fun m => { m with settlements := m.settlements.map f }) where
  places k := by
    rw [placesHeld_iff] at k ⊢
    simpa using k
  pending _ _ k p := by
    obtain ⟨h1, h2, h3, h4⟩ := k p
    refine ⟨h1, h2, h3, fun x hx => ?_⟩
    rcases h4 x hx with hd | ha | ⟨hs, r, hr, ht⟩
    · exact .inl hd
    · exact .inr (.inl ha)
    · exact .inr (.inr ⟨hs, f r, List.mem_map_of_mem hr, by rw [h]; exact ht⟩)

theorem unconfirm_keeps (g : Pledge) (r : Settlement) (s : State) : Keeps g s g (unconfirm r s) := by
  unfold unconfirm
  refine (@Keeps.trans _ g) (mapSettlements_keeps g s fun x => ?_) (raise_keeps g _ _ _ _)
  split <;> rfl

theorem doorTaken_keeps {g : Pledge} (b : Bool) (s : State) (hg : g.left = none) : Keeps g s g (doorTaken b s) :=
  ((((@mapVend_keeps g _ (fun v => { v with doorOpen := b })) rfl).trans (suspendCheck_keeps _ hg)).trans
    (recomputeAccept_keeps g _)).trans (activity_keeps _ _ hg)

end Sys2Proof.Machine
end

section
/-! PROOFS. What the requests keep: the REPLY and its place, the writes of the tables, and the other service
requests. -/

namespace Sys2Proof.Machine

/-! ## The REPLY -/

/-- A request has been taken and its REPLY is still to come. -/
abbrev Pledge.replying : Pledge := { replyDue := true }

/-- A request is taken with a place for its REPLY free. -/
theorem replying_keeps {s : State} (h : replyPlace s = true) : Keeps .nothing s .replying s where
  cash h := ⟨h.ceiling, h.sum, h.covered, h.run⟩
  card h := ⟨h.sum, h.covered, h.none_cash, h.ending_driving, h.head_only, h.left_only⟩
  reply _ _ := .inl (by simpa using (Bool.and_eq_true_iff.mp h).2)

/-- A REPLY that is no longer due. -/
theorem replied_keeps (s : State) : Keeps .replying s .nothing s where
  cash h := ⟨h.ceiling, h.sum, h.covered, h.run⟩
  card h := ⟨h.sum, h.covered, h.none_cash, h.ending_driving, h.head_only, h.left_only⟩
  reply _ h := by simp at h

theorem portHolds_reply {q : Port} (f : Frame) {k : TxKind} (hk : k.isReply = true) (hr : PortReply q)
    (h : PortHolds 0 q) : PortHolds 0 (q.yieldPlace.enqueue f k) := by
  obtain ⟨hlen, hgen⟩ := h
  have hgen := hgen rfl
  have hroom : q.yieldPlace.tx.length < 6 := by
    refine Port.yieldPlace_room hlen fun h6 => ?_
    rcases hr with hr | ⟨x, hx, hown, _⟩
    · omega
    · exact ⟨x, hx, hown⟩
  have hyield : generalTaken q.yieldPlace ≤ generalTaken q := by
    rcases q.yieldPlace_cases with ⟨he, _⟩ | ⟨before, f, hq, _, _, he⟩ <;> rw [he]
    simp only [generalTaken, hq, List.filter_append, List.length_append]
    omega
  refine ⟨?_, fun _ => ?_⟩
  · simpa [Port.enqueue] using hroom
  · rw [generalTaken_enqueue, hk]
    simp only [if_true]
    omega

theorem portPending_yield {rs : List Settlement} {q : Port} (hr : PortReply q) (h : PortPending rs q.waiting) :
    PortPending rs q.yieldPlace.waiting := by
  rcases q.yieldPlace_cases with ⟨he, _⟩ | ⟨before, f, hq, _, hfull, he⟩ <;> rw [he]
  · exact h
  · refine portPending_putBack ?_ h
    rcases hr with hr | ⟨x, hx, _, hx'⟩
    · omega
    · rw [hq, List.getLast?_concat, Option.some.injEq] at hx
      rw [hx]; exact hx'

theorem reply_keeps (dest type : Byte) (st : Status) (data : List Byte) {k : TxKind} (s : State)
    (hk : k.isReply = true) : Keeps .replying s .nothing (reply dest type st data k s) := by
  unfold reply
  split
  · exact replied_keeps s
  · exact
      { cash := fun h => ⟨h.ceiling, h.sum, h.covered, h.run⟩
        card := fun h => ⟨h.sum, h.covered, h.none_cash, h.ending_driving, h.head_only, h.left_only⟩
        reply := fun _ h => by simp at h
        queues := fun hr h => queuesHold_mapPort h (portHolds_reply _ hk (hr rfl))
        pending := fun hr _ h => pendingFit_mapPort (fun q _ => h q) (portPending_yield (hr rfl) (h 0)) }

/-! ## Answers -/

/-- An answer whose state keeps everything while its REPLY is due, and whose REPLY is one. -/
structure Answer.Keeps (s : State) (a : Answer) : Prop where
  state : Machine.Keeps .replying s .replying a.state := by exact Machine.Keeps.refl .replying _
  kind : a.kind.isReply = true := by rfl

theorem sendAnswer_keeps {s : State} {a : Answer} (src type : Byte) (h : a.Keeps s) :
    Keeps .replying s .nothing (sendAnswer src type a) :=
  h.state.trans (reply_keeps _ _ _ _ _ h.kind)

theorem refused_keeps (st : Status) (s : State) : (refused st s).Keeps s where

theorem done_keeps {s t : State} (data : List Byte) (h : Keeps .replying s .replying t) : (done data t).Keeps s where
  state := h

theorem written_keeps {table index : Byte} {new : Option State} {s : State}
    (h : ∀ t, new = some t → Keeps .replying s .replying t) : (written table index new s).Keeps s := by
  unfold written
  split
  · exact refused_keeps _ s
  · exact done_keeps _ (h _ rfl)

/-! ## Writes of the sales tables -/

theorem writeSelection_keeps (i : Byte) (e : SelectionEntry) (s : State) : (writeSelection i e s).Keeps s := by
  unfold writeSelection
  split
  · exact refused_keeps _ s
  split
  · exact refused_keeps _ s
  split
  · exact refused_keeps _ s
  split
  · exact refused_keeps _ s
  · exact done_keeps _ {}

theorem mapTable_keeps (g : Pledge) {s : State} {f : Coins → Coins} (hidle : s.coins.engine.phase = .idle)
    (he : (f s.coins).engine = s.coins.engine) (ht : (f s.coins).tubes = s.coins.tubes)
    (hl : (f s.coins).inflight = s.coins.inflight) : Keeps g s g (s.mapCoins f) where
  tubes h := by simpa only [TubesHold, State.mapCoins_coins, ht] using h
  flights h := by simpa only [FlightsFit, State.mapCoins_coins, hl] using h
  cash h := ⟨h.ceiling, h.sum, h.covered, fun r => (h.run r).of_idle he hidle⟩

theorem writeCoin_keeps (i : Byte) (v : Half) (p t : Byte) (s : State) : (writeCoin i v p t s).Keeps s := by
  unfold writeCoin
  split
  · exact refused_keeps _ s
  split
  · split
    · exact refused_keeps _ s
    · exact done_keeps _ (((mapTable_keeps _ (of_not_not ‹_›) rfl rfl rfl).trans
        (evaluateAssurance_keeps _ _)).trans (recomputeAccept_keeps _ _))
  · exact refused_keeps _ s

theorem writeNote_keeps (i : Byte) (v : Half) (e c : Byte) (s : State) : (writeNote i v e c s).Keeps s := by
  unfold writeNote
  split
  · exact refused_keeps _ s
  · refine written_keeps fun t ht => ?_
    simp only [Option.bind_eq_bind, Option.bind_eq_some_iff, Option.pure_def, Option.some.injEq] at ht
    obtain ⟨_, _, _, _, _, _, _, _, rfl⟩ := ht
    exact {}

theorem writeTube_keeps (i k c f : Byte) (s : State) : (writeTube i k c f s).Keeps s := by
  unfold writeTube
  split
  · exact refused_keeps _ s
  split
  · split
    · exact refused_keeps _ s
    split
    · exact refused_keeps _ s
    · rename_i t _ cap _ _ _ _ _ hidle hcap
      exact done_keeps _ ((mapTube_keeps_of_idle _ (of_not_not hidle) (Nat.le_of_not_lt hcap)).trans
        (tubeChanged_keeps _ _ _))
  · exact refused_keeps _ s

/-! ## Writes of the link tables -/

theorem discardAccept_keeps (g : Pledge) (s : State) (p : PortId) : Keeps g s g (s.mapPort p Port.discardAccept) :=
  mapPort_keeps (fun _ _ h => h) id fun _ h => portPending_of_sublist List.filter_sublist h

theorem validatorChanged_keeps (g : Pledge) (a b : Option (Byte × PortId)) (s : State) :
    Keeps g s g (validatorChanged a b s) := by
  have hforget (t : State) : Keeps g t g (t.mapCoins fun c => { c with lastAccept := none }) :=
    { cash := fun h => ⟨h.ceiling, h.sum, h.covered, h.run⟩ }
  unfold validatorChanged
  split
  · exact .refl g s
  · refine (@Keeps.trans _ g) ?_ (recomputeAccept_keeps g _)
    cases a with
    | none =>
      split
      · exact hforget s
      · exact .refl g s
    | some a =>
      split
      · exact (discardAccept_keeps g s a.2).trans (hforget _)
      · exact discardAccept_keeps g s a.2

theorem writeNode_keeps (i v n p r : Byte) (s : State) : (writeNode i v n p r s).Keeps s := by
  unfold writeNode
  split
  · exact refused_keeps _ s
  · refine written_keeps fun t ht => ?_
    simp only [Option.bind_eq_bind, Option.bind_eq_some_iff, Option.pure_def, Option.some.injEq] at ht
    obtain ⟨_, _, _, _, _, _, _, _, _, _, rfl⟩ := ht
    exact (mapLink_keeps _ s (by rfl)).trans (validatorChanged_keeps _ _ _ _)

theorem writeDisposition_keeps (i e t p d a : Byte) (s : State) : (writeDisposition i e t p d a s).Keeps s := by
  refine written_keeps fun t ht => ?_
  simp only [Option.bind_eq_bind, Option.bind_eq_some_iff, Option.pure_def, Option.some.injEq] at ht
  obtain ⟨_, _, _, _, _, _, _, _, _, _, rfl⟩ := ht
  exact mapLink_keeps _ s (by rfl)

theorem replying_settled : Pledge.replying.settled := ⟨rfl, rfl⟩

theorem writeFaultClass_keeps (i c : Byte) (s : State) : (writeFaultClass i c s).Keeps s := by
  refine written_keeps fun t ht => ?_
  simp only [Option.bind_eq_bind, Option.bind_eq_some_iff, Option.pure_def, Option.some.injEq] at ht
  obtain ⟨_, _, _, _, rfl⟩ := ht
  exact writeClass_keeps _ _ s replying_settled

/-! ## Writes of the settings -/

theorem writeCreditSettings_keeps (i : Byte) (l : Half) (m : Byte) (s : State) :
    (writeCreditSettings i l m s).Keeps s := by
  refine written_keeps fun t ht => ?_
  simp only [Option.bind_eq_bind, Option.bind_eq_some_iff, Option.pure_def, Option.some.injEq] at ht
  obtain ⟨_, _, _, _, _, _, rfl⟩ := ht
  have hset (l m) : Keeps .replying s .replying (s.mapCredit fun c => { c with limit := l, vendMode := m }) :=
    { cash := fun h => ⟨h.ceiling, h.sum, h.covered, h.run⟩
      card := fun h => ⟨h.sum, h.covered, h.none_cash, h.ending_driving, h.head_only, h.left_only⟩ }
  exact (hset _ _).trans (recomputeAccept_keeps _ _)

theorem writeChangeSettings_keeps (i a : Byte) (c : Half) (s : State) : (writeChangeSettings i a c s).Keeps s := by
  refine written_keeps fun t ht => ?_
  simp only [Option.bind_eq_bind, Option.bind_eq_some_iff, Option.pure_def, Option.some.injEq] at ht
  obtain ⟨_, _, _, _, _, _, rfl⟩ := ht
  have hset (a c) : Keeps .replying s .replying (s.mapCoins fun k => { k with allowance := a, ceiling := c }) :=
    { cash := fun h => ⟨h.ceiling, h.sum, h.covered, h.run⟩ }
  exact (hset _ _).trans (evaluateAssurance_keeps _ _)

theorem repriced_state (c : Claim) (n : Nat) : (c.repriced n).state = c.state := by
  unfold Claim.repriced; split <;> rfl

/-- A granted claim keeps its points at a new cost. -/
theorem points_repriced (c : Claim) (n : Nat) : (c.repriced n).points = c.points := by
  unfold Claim.repriced
  split
  · simp [Claim.points]
  · rfl

theorem repriceSupply_keeps {g : Pledge} {b m st r h : Nat} {s : State} (hg : g.left = none)
    (hb : pointsGranted s.supply ≤ b) : Keeps g s g (repriceSupply b m st r h s) := by
  unfold repriceSupply
  refine (@Keeps.trans _ g) ?_ (consider_keeps _ hg)
  exact
    { budget := fun _ => by simpa only [WithinBudget, State.mapSupply_supply, pointsGranted, points_repriced] using hb
      drive := fun hd => hd.congr { claim := by simp only [State.mapSupply_supply, repriced_state] }
      loads := fun hl => by
        simpa only [LoadsApart, State.mapSupply_supply, State.mapSupply_cooling, repriced_state] using hl }

theorem writeSupply_keeps (i b m st r h : Byte) (s : State) : (writeSupply i b m st r h s).Keeps s := by
  unfold writeSupply
  split
  · exact refused_keeps _ s
  split
  · split
    · exact refused_keeps _ s
    split
    · exact refused_keeps _ s
    · exact done_keeps _ (repriceSupply_keeps rfl (Nat.le_of_not_lt ‹_›))
  · exact refused_keeps _ s

theorem writeDrive_keeps (i : Byte) (t m : Half) (f n : Byte) (s : State) : (writeDrive i t m f n s).Keeps s := by
  unfold writeDrive
  split
  · exact refused_keeps _ s
  split
  · split
    · exact refused_keeps _ s
    · exact done_keeps _ (mapDrive_keeps _ rfl)
  · exact refused_keeps _ s

/-- A change of a zone's settings, its effective setpoint to be formed again. -/
theorem mapZone_unforms (g : Pledge) (s : State) (z : ZoneId) (f : Zone → Zone) :
    Keeps g s (g.unforming [z]) (s.mapZone z f) where
  cash h := ⟨h.ceiling, h.sum, h.covered, h.run⟩
  card h := ⟨h.sum, h.covered, h.none_cash, h.ending_driving, h.head_only, h.left_only⟩
  setpoints h y hy := by
    simp only [Pledge.unforming, List.cons_append, List.nil_append, List.mem_cons, not_or] at hy
    have hne : z.val ≠ y.val := fun h => hy.1 (Fin.ext h.symm)
    simp only [State.mapZone, State.mapCooling_cooling, State.mapCooling_cabinet, Fin.getElem_fin,
      Vector.getElem_set_ne _ _ hne]
    exact h y hy.2

theorem writeZone_keeps (i : Byte) (p : Half) (d : Byte) (s : State) : (writeZone i p d s).Keeps s := by
  refine written_keeps fun t ht => ?_
  simp only [Option.bind_eq_bind, Option.bind_eq_some_iff, Option.pure_def, Option.some.injEq] at ht
  obtain ⟨_, _, _, _, _, _, rfl⟩ := ht
  exact (mapZone_unforms _ s _ _).trans ((@formSetpoint_keeps .replying) _ [] _ rfl)

theorem setRefrigeration_keeps {g : Pledge} (a b i : Nat) (t : Int) (s : State) (hg : g.left = none) :
    Keeps g s g (setRefrigeration a b i t s) := by
  have hset : Keeps g s g (s.mapCooling fun c =>
      { c with limpOnMin := a, limpOffMin := b, intervalH := i, terminate := t }) := mapCooling_keeps g id rfl
  unfold setRefrigeration
  simp only []
  split
  · rename_i h
    exact hset.trans (enterPending_keeps 0 _ hg h.1)
  · exact hset

theorem writeRefrigeration_keeps (i a b h : Byte) (t : Half) (s : State) :
    (writeRefrigeration i a b h t s).Keeps s := by
  refine written_keeps fun t ht => ?_
  simp only [Option.bind_eq_bind, Option.bind_eq_some_iff, Option.pure_def, Option.some.injEq] at ht
  obtain ⟨_, _, _, _, _, _, _, _, _, _, rfl⟩ := ht
  exact setRefrigeration_keeps _ _ _ _ s rfl

/-- A change of a zone's hold record, its effective setpoint to be formed again. -/
theorem mapHold_unforms (g : Pledge) {s : State} {z : ZoneId} {f : Hold → Hold}
    (hf : s.cabinet.holds[z].accumulator ≤ s.cabinet.holds[z].delay →
      (f s.cabinet.holds[z]).accumulator ≤ (f s.cabinet.holds[z]).delay) :
    Keeps g s (g.unforming [z]) (s.mapHold z f) where
  cash h := ⟨h.ceiling, h.sum, h.covered, h.run⟩
  card h := ⟨h.sum, h.covered, h.none_cash, h.ending_driving, h.head_only, h.left_only⟩
  holds h := holdsCount_mapHold h hf
  setpoints h y hy := by
    simp only [Pledge.unforming, List.cons_append, List.nil_append, List.mem_cons, not_or] at hy
    rw [hold_mapHold, if_neg (Ne.symm hy.1)]
    exact h y hy.2

theorem Hold.rewritten_counts (h : Hold) (e : Bool) (l : Int) (d : Nat) :
    (h.rewritten e l d).accumulator ≤ (h.rewritten e l d).delay := by
  unfold Hold.rewritten
  split
  · exact min_le_right _ _
  · exact Nat.zero_le _

theorem setHold_keeps {g : Pledge} (z : ZoneId) (e : Bool) (l : Int) (d : Nat) (s : State) (hg : g.left = none) :
    Keeps g s g (setHold z e l d s) := by
  unfold setHold
  simp only []
  refine Keeps.trans ?_ ((@formSetpoint_keeps g) z [] _ hg)
  have hset := (@mapHold_unforms g s z (fun h => h.rewritten e l d))
    fun _ => Hold.rewritten_counts _ e l d
  split
  · exact hset.trans (raise_keeps _ _ _ _ _)
  · exact hset

theorem writeHold_keeps (i e : Byte) (l d : Half) (s : State) : (writeHold i e l d s).Keeps s := by
  refine written_keeps fun t ht => ?_
  simp only [Option.bind_eq_bind, Option.bind_eq_some_iff, Option.pure_def, Option.some.injEq] at ht
  obtain ⟨_, _, _, _, _, _, _, _, rfl⟩ := ht
  exact setHold_keeps _ _ _ _ s rfl

theorem writeEconomy_keeps (i m : Byte) (d e : Half) (l o : Byte) (s : State) :
    (writeEconomy i m d e l o s).Keeps s := by
  refine written_keeps fun t ht => ?_
  simp only [Option.bind_eq_bind, Option.bind_eq_some_iff, Option.pure_def, Option.some.injEq] at ht
  obtain ⟨_, _, _, _, _, _, _, _, _, _, _, _, rfl⟩ := ht
  exact (formBoth_keeps s _ rfl).trans (judgeEconomy_keeps _ rfl)

theorem writeSchedule_keeps (i e d : Byte) (a b : Half) (s : State) : (writeSchedule i e d a b s).Keeps s := by
  refine written_keeps fun t ht => ?_
  simp only [Option.bind_eq_bind, Option.bind_eq_some_iff, Option.pure_def, Option.some.injEq] at ht
  obtain ⟨_, _, _, _, _, _, _, _, _, _, rfl⟩ := ht
  exact (mapCabinet_keeps _ (by rfl) (by rfl) (by rfl)).trans (judgeWindow_keeps _ rfl)

theorem tableWrite_keeps (table : Byte) (rest : List Byte) (s : State) : (tableWrite table rest s).Keeps s := by
  unfold tableWrite
  split
  · exact writeSelection_keeps _ _ s
  · exact writeCoin_keeps _ _ _ _ s
  · exact writeNote_keeps _ _ _ _ s
  · exact writeTube_keeps _ _ _ _ s
  · exact writeNode_keeps _ _ _ _ _ s
  · exact writeDisposition_keeps _ _ _ _ _ _ s
  · exact writeFaultClass_keeps _ _ s
  · exact writeCreditSettings_keeps _ _ _ s
  · exact writeChangeSettings_keeps _ _ _ s
  · exact writeSupply_keeps _ _ _ _ _ _ s
  · exact writeDrive_keeps _ _ _ _ _ s
  · exact writeZone_keeps _ _ _ s
  · exact writeRefrigeration_keeps _ _ _ _ _ s
  · exact writeHold_keeps _ _ _ _ s
  · exact writeEconomy_keeps _ _ _ _ _ _ s
  · exact writeSchedule_keeps _ _ _ _ _ s
  · exact refused_keeps _ s

/-! ## The other service requests -/

theorem tableRead_keeps (t i : Byte) (s : State) : (tableRead t i s).Keeps s := by
  unfold tableRead
  split
  · exact refused_keeps _ s
  · exact done_keeps _ (.refl _ s)

theorem recordRead_keeps (r b : Byte) (s : State) : (recordRead r b s).Keeps s := by
  unfold recordRead
  split
  · exact refused_keeps _ s
  · exact done_keeps _ (.refl _ s)

theorem leaveIdleState_keeps {g : Pledge} (n : SalesState) (s : State) (hg : g.left = none) :
    Keeps g s g (leaveIdleState n s) :=
  (mapVend_keeps g (by rfl)).trans (enterSales_keeps n _ hg)

theorem modeDone_keeps {s t : State} (h : Keeps .replying s .replying t) : (modeDone t).Keeps s where
  state := h

theorem modeChecked_keeps (n : SalesState) (s : State) : (modeChecked n s).Keeps s := by
  unfold modeChecked
  split
  · exact {}
  · exact modeDone_keeps (leaveIdleState_keeps n s rfl)

theorem modeSet_keeps (t : Byte) (s : State) : (modeSet t s).Keeps s := by
  unfold modeSet
  split
  · unfold modeService
    split
    · exact modeChecked_keeps _ s
    · exact modeDone_keeps (.refl _ s)
    all_goals exact modeDone_keeps ((enterSales_keeps _ s rfl).trans (cancelWhere_keeps _ _ _ replying_settled))
  · unfold modeSelling
    split
    any_goals exact modeChecked_keeps _ s
    all_goals exact modeDone_keeps (.refl _ s)
  · exact refused_keeps _ s

theorem setTube_keeps (t n : Byte) (s : State) : (setTube t n s).Keeps s := by
  unfold setTube
  split
  · exact refused_keeps _ s
  split
  · exact refused_keeps _ s
  split
  · exact refused_keeps _ s
  split
  · exact refused_keeps _ s
  · exact done_keeps _ ((mapTube_keeps_of_idle _ (of_not_not ‹_›) (Nat.le_of_not_lt ‹_›)).trans
      (tubeChanged_keeps _ _ _))

theorem readRange_bounds {lo hi n m : Nat} (h : readRange lo hi n = some m) : m = n ∧ lo ≤ m ∧ m ≤ hi := by
  unfold readRange at h
  split at h
  · cases h; exact ⟨rfl, ‹_›⟩
  · cases h

theorem dispense_keeps (t n : Byte) (s : State) : (dispense t n s).Keeps s := by
  unfold dispense
  split
  · exact refused_keeps _ s
  split
  · rename_i hn
    split
    · exact refused_keeps _ s
    split
    · exact refused_keeps _ s
    split
    · exact refused_keeps _ s
    split
    · exact refused_keeps _ s
    · refine done_keeps _ (mapEngine_keeps _ fun _ => ⟨?_, ?_, ?_⟩)
      · simp
      · simpa using (readRange_bounds hn).2.1
      · simp
  · exact refused_keeps _ s

theorem clearCredit_keeps (s : State) : (clearCredit s).Keeps s := by
  unfold clearCredit
  split
  · exact refused_keeps _ s
  split
  · exact refused_keeps _ s
  · exact done_keeps _ (writeOff_keeps _ s)

theorem releaseSale_keeps (z : Byte) (s : State) : (releaseSale z s).Keeps s := by
  unfold releaseSale
  split
  · exact refused_keeps _ s
  · simp only []
    split
    · exact refused_keeps _ s
    split
    · exact {}
    · exact done_keeps _ ((mapHold_keeps _ (fun _ => Nat.zero_le _) rfl).trans (raise_keeps _ _ _ _ _))

theorem clearFault_keeps (i : Byte) (s : State) : (clearFault i s).Keeps s := by
  unfold clearFault
  split
  · exact refused_keeps _ s
  split
  · exact refused_keeps _ s
  split
  · exact {}
  · exact done_keeps _ (removeFault_keeps _ _ s replying_settled)

theorem clearSettle_keeps (t : Byte) (s : State) : (clearSettle t s).Keeps s := by
  unfold clearSettle
  split
  · exact refused_keeps _ s
  split
  · exact refused_keeps _ s
  · exact done_keeps _ (dropSettlement_keeps _ _ s)

theorem setTime_keeps (n : Word) (s : State) : (setTime n s).Keeps s := by
  unfold setTime
  split
  · exact refused_keeps _ s
  · exact done_keeps _ (((mapCabinet_keeps _ (by rfl) (by rfl) (by rfl)).trans (judgeWindow_keeps _ rfl)).trans
      (judgeEconomy_keeps _ rfl))

theorem releaseTrace_keeps (s : State) : (releaseTrace s).Keeps s := done_keeps _ (mapDrive_keeps _ rfl)

theorem restartPort_keeps {g : Pledge} {p : PortId} (s : State) (hp : p ≠ 0) : Keeps g s g (restartPort p s) := by
  unfold restartPort
  split
  · exact recover_keeps p s fun h => absurd h hp
  all_goals exact mapPort_keeps_of_same (by rfl) (by rfl)

theorem portRestart_keeps (p : Byte) (s : State) : (portRestart p s).Keeps s := by
  unfold portRestart
  split
  · exact refused_keeps _ s
  split
  · exact refused_keeps _ s
  · exact done_keeps _ (restartPort_keeps s ‹_›)

theorem defrostNow_keeps (s : State) : (defrostNow s).Keeps s := by
  unfold defrostNow
  split
  · exact done_keeps _ (enterPending_keeps 1 s rfl ‹_›)
  · exact refused_keeps _ s

theorem restartAsked_keeps (s : State) : (restartAsked s).Keeps s := by
  unfold restartAsked
  split
  · exact done_keeps _ (.refl _ s)
  · exact { state := (@mapLink_keeps _ s (fun l => { l with restartPending := true })) rfl }

theorem cancelTag_keeps (t : Byte) (s : State) : (cancelTag t s).Keeps s := by
  have hcancel (n : Byte) (p : Entry → Bool) : (done [n] (cancelWhere p .request s)).Keeps s :=
    done_keeps _ (cancelWhere_keeps p _ s replying_settled)
  unfold cancelTag
  split
  · exact hcancel _ _
  split
  · exact refused_keeps _ s
  split
  · exact refused_keeps _ s
  · exact hcancel 1 _

/-- The types that are service requests. -/
theorem isService_iff (t : Byte) : isService t = true ↔
    t ∈ ([0x40, 0x41, 0x42, 0x43, 0x44, 0x45, 0x46, 0x47, 0x48, 0x49, 0x4A, 0x4B, 0x4C, 0x4D, 0x4E] : List Byte) := by
  revert t; decide

/-- What the answer to a service request can be: that of its own checks, or RANGE for a wrong length. -/
theorem serve_cases {P : Answer → Prop} {type : Byte} {payload : List Byte} {s : State} (h : isService type = true)
    (hwrite : ∀ table rest, P (tableWrite table rest s)) (hread : ∀ table index, P (tableRead table index s))
    (hmode : ∀ target, P (modeSet target s)) (hrecord : ∀ record block, P (recordRead record block s))
    (htube : ∀ tube count, P (setTube tube count s)) (hdispense : ∀ tube coins, P (dispense tube coins s))
    (hcredit : P (clearCredit s)) (hsale : ∀ zone, P (releaseSale zone s)) (hfault : ∀ index, P (clearFault index s))
    (hsettle : ∀ tag, P (clearSettle tag s)) (htime : ∀ second, P (setTime second s)) (htrace : P (releaseTrace s))
    (hport : ∀ port, P (portRestart port s)) (hdefrost : P (defrostNow s)) (hrestart : P (restartAsked s))
    (hlength : P (refused .range s)) : P (serve type payload s) := by
  rw [isService_iff] at h
  simp only [List.mem_cons, List.not_mem_nil, or_false] at h
  rcases h with rfl | rfl | rfl | rfl | rfl | rfl | rfl | rfl | rfl | rfl | rfl | rfl | rfl | rfl | rfl
  · match payload with
    | table :: rest => exact hwrite table rest
    | [] => exact hlength
  · match payload with
    | [x, y] => exact hread x y
    | [] | [_] | _ :: _ :: _ :: _ => exact hlength
  · match payload with
    | [x] => exact hmode x
    | [] | _ :: _ :: _ => exact hlength
  · match payload with
    | [x, y] => exact hrecord x y
    | [] | [_] | _ :: _ :: _ :: _ => exact hlength
  · match payload with
    | [x, y] => exact htube x y
    | [] | [_] | _ :: _ :: _ :: _ => exact hlength
  · match payload with
    | [x, y] => exact hdispense x y
    | [] | [_] | _ :: _ :: _ :: _ => exact hlength
  · match payload with
    | [] => exact hcredit
    | _ :: _ => exact hlength
  · match payload with
    | [x] => exact hsale x
    | [] | _ :: _ :: _ => exact hlength
  · match payload with
    | [x] => exact hfault x
    | [] | _ :: _ :: _ => exact hlength
  · match payload with
    | [x] => exact hsettle x
    | [] | _ :: _ :: _ => exact hlength
  · match payload with
    | [a, b, c, d] => exact htime (word a b c d)
    | [] | [_] | [_, _] | [_, _, _] | _ :: _ :: _ :: _ :: _ :: _ => exact hlength
  · match payload with
    | [] => exact htrace
    | _ :: _ => exact hlength
  · match payload with
    | [x] => exact hport x
    | [] | _ :: _ :: _ => exact hlength
  · match payload with
    | [] => exact hdefrost
    | _ :: _ => exact hlength
  · match payload with
    | [] => exact hrestart
    | _ :: _ => exact hlength

theorem serve_keeps {type : Byte} (payload : List Byte) (s : State) (h : isService type = true) :
    (serve type payload s).Keeps s :=
  (@serve_cases (·.Keeps s)) h (tableWrite_keeps · · s) (tableRead_keeps · · s) (modeSet_keeps · s)
    (recordRead_keeps · · s) (setTube_keeps · · s) (dispense_keeps · · s) (clearCredit_keeps s) (releaseSale_keeps · s)
    (clearFault_keeps · s) (clearSettle_keeps · s) (setTime_keeps · s) (releaseTrace_keeps s) (portRestart_keeps · s)
    (defrostNow_keeps s) (restartAsked_keeps s) (refused_keeps _ s)

/-! ## Taking a request -/

theorem takeRequest_keeps {s : State} (f : Frame) (h : replyPlace s = true) :
    Keeps .nothing s .nothing (takeRequest f s) := by
  refine (replying_keeps h).trans ?_
  unfold takeRequest
  split
  · exact (sendAnswer_keeps _ _ (serve_keeps _ s ‹_›)).trans (activity_keeps _ _ rfl)
  split
  · exact sendAnswer_keeps _ _ (cancelTag_keeps _ s)
  · exact sendAnswer_keeps _ _ (refused_keeps _ s)

theorem request_keeps (p : PortId) (f : Frame) (s : State) : Keeps .nothing s .nothing (request p f s) := by
  unfold request
  split
  · exact takeRequest_keeps f ‹_›
  split
  · exact mapLink_keeps _ s (by rfl)
  · exact raise_keeps _ _ _ _ s

theorem fromController_keeps (src type : Byte) (payload : List Byte) (s : State) :
    Keeps .nothing s .nothing (fromController src type payload s) := by
  unfold fromController
  split
  · exact .refl _ s
  · exact request_keeps 0 _ s

end Sys2Proof.Machine
end

section
/-! PROOFS. What the frame switch, the passing of time and a reset keep, and with that every command of the table. -/

namespace Sys2Proof.Machine

/-! ## SELECT -/

/-- The funds that an answer of the credit unit commits. -/
def CommitAnswer.funds : CommitAnswer → Option Funds
  | .cash => some .cash
  | .card => some .card
  | .credit | .settleFull => none

/-- What the credit unit has made sure of when it commits funds (R17). -/
def fundsCover (f : Funds) (price : Nat) (s : State) : Prop :=
  match f with
  | .cash => price = 0 ∨ s.money.credit.committed.toNat + price ≤ s.money.credit.cash.toNat
  | .card => s.money.credit.session = .opened ∧
      s.money.credit.cardCommitted.toNat + price ≤ (s.money.credit.funds.getD 0).toNat ∧ cardCount s < 4

theorem fundsCover_of_answer {p : Preference} {price : Nat} {s : State} {f : Funds}
    (h : (commitAnswer p price s).funds = some f) : fundsCover f price s := by
  unfold commitAnswer at h
  simp only [] at h
  split at h
  · cases h; exact .inl ‹_›
  split at h
  · rename_i hcash
    cases h; exact .inr hcash.2
  split at h
  · rename_i hcard
    split at h
    · cases h
    · cases h
      exact ⟨hcard.2.1, hcard.2.2, by omega⟩
  · cases h

/-- The part of `accept` before the new head starts: the commitment and the new entry. -/
def appended (e : Entry) (s : State) : State :=
  (commitFunds e.funds e.price s).mapVend fun v => { v with queue := v.queue ++ [e], nextTag := e.tag + 1 }

theorem add_amount_toNat {w : Word} {n : Nat} (h : w.toNat + n < 2 ^ 32) : (w + amount n).toNat = w.toNat + n := by
  rw [BitVec.toNat_add, amount_toNat (by omega), Nat.mod_eq_of_lt h]

theorem appended_cash {g : Pledge} {e : Entry} {s : State} (hc : fundsCover e.funds e.price s)
    (h : CashHeld g s.money.credit s.vend.queue s.coins) :
    CashHeld g (appended e s).money.credit (appended e s).vend.queue (appended e s).coins := by
  obtain ⟨h1, h2, h3, h4⟩ := h
  have hq : committedIn .cash (appended e s).vend.queue =
      committedIn .cash s.vend.queue + committedIn .cash [e] := committedIn_append _ _ _
  rw [committedIn_singleton] at hq
  cases hf : e.funds with
  | card =>
    have hcredit : (appended e s).money.credit =
        { s.money.credit with cardCommitted := s.money.credit.cardCommitted + amount e.price } := by
      simp [appended, commitFunds, hf, State.mapCredit]
    rw [hcredit]
    exact ⟨h1, by rw [hq, hf]; simpa using h2, h3, h4⟩
  | cash =>
    have hcredit : (appended e s).money.credit =
        { s.money.credit with committed := s.money.credit.committed + amount e.price } := by
      simp [appended, commitFunds, hf, State.mapCredit]
    rw [hf] at hc
    have hle : s.money.credit.committed.toNat + e.price ≤ s.money.credit.cash.toNat := by
      rcases hc with h0 | hle
      · rw [h0]; exact h3
      · exact hle
    have hsum := (@add_amount_toNat s.money.credit.committed e.price) (by omega)
    rw [hcredit]
    refine ⟨h1, ?_, ?_, h4⟩
    · rw [hq, hf]
      show (s.money.credit.committed + amount e.price).toNat = _
      rw [hsum, h2]
      simp only [if_true]
      omega
    · show (s.money.credit.committed + amount e.price).toNat ≤ _
      rw [hsum]; exact hle

theorem appended_card {g : Pledge} {e : Entry} {s : State} (hg : g.left = none) (hd : e.driving = false)
    (hc : fundsCover e.funds e.price s) (h : CardHeld g s.money.credit s.vend.queue) :
    CardHeld g (appended e s).money.credit (appended e s).vend.queue := by
  obtain ⟨h1, h2, h3, h4, h5, _⟩ := h
  have hqueue : (appended e s).vend.queue = s.vend.queue ++ [e] := rfl
  have hq : committedIn .card (s.vend.queue ++ [e]) =
      committedIn .card s.vend.queue + committedIn .card [e] := committedIn_append _ _ _
  rw [committedIn_singleton] at hq
  have hhead : ∀ x xs, s.vend.queue ++ [e] = x :: xs → ∀ y ∈ xs, y.driving = false := by
    intro x xs hx y hy
    cases hs : s.vend.queue with
    | nil => rw [hs] at hx; cases hx; cases hy
    | cons z zs =>
      rw [hs] at hx
      obtain ⟨-, rfl⟩ := List.cons.inj hx
      rcases List.mem_append.mp hy with hy | hy
      · exact h5 z zs hs y hy
      · rw [List.mem_singleton.mp hy]; exact hd
  rw [hqueue]
  cases hf : e.funds with
  | cash =>
    have hcredit : (appended e s).money.credit =
        { s.money.credit with committed := s.money.credit.committed + amount e.price } := by
      simp [appended, commitFunds, hf, State.mapCredit]
    rw [hcredit]
    refine ⟨by rw [hq, hf]; simpa using h1, h2, fun hs x hx => ?_, fun hs x hx hx' => ?_, hhead, by simp [hg]⟩
    · rcases List.mem_append.mp hx with hx | hx
      · exact h3 hs x hx
      · rw [List.mem_singleton.mp hx]; exact hf
    · rcases List.mem_append.mp hx with hx | hx
      · exact h4 hs x hx hx'
      · rw [List.mem_singleton.mp hx, hf] at hx'; cases hx'
  | card =>
    have hcredit : (appended e s).money.credit =
        { s.money.credit with cardCommitted := s.money.credit.cardCommitted + amount e.price } := by
      simp [appended, commitFunds, hf, State.mapCredit]
    rw [hf] at hc
    obtain ⟨hopen, hle, _⟩ := hc
    have hlt := (s.money.credit.funds.getD 0).isLt
    have hsum := (@add_amount_toNat s.money.credit.cardCommitted e.price) (by omega)
    rw [hcredit]
    refine ⟨?_, fun _ => ?_, fun hs => ?_, fun hs => ?_, hhead, by simp [hg]⟩
    · rw [hq, hf]
      show (s.money.credit.cardCommitted + amount e.price).toNat = _
      rw [hsum, h1]
      simp only [if_true]
      omega
    · show (s.money.credit.cardCommitted + amount e.price).toNat ≤ _
      rw [hsum]; exact hle
    · exact absurd (hs.symm.trans hopen) (by decide)
    · exact absurd (hs.symm.trans hopen) (by decide)

theorem appended_drive {e : Entry} {s : State} (hd : e.driving = false) (h : DriveNeedsGrant s) :
    DriveNeedsGrant (appended e s) := by
  obtain ⟨h1, h2, h3⟩ := h
  have hqueue : (appended e s).vend.queue = s.vend.queue ++ [e] := rfl
  refine ⟨fun r hr => ?_, fun hr => ?_, fun x xs hx y hy => ?_⟩
  · obtain ⟨hgrant, x, xs, hq, hx⟩ := h1 r hr
    exact ⟨hgrant, x, xs ++ [e], by rw [hqueue, hq]; rfl, hx⟩
  · obtain ⟨hgrant, hall⟩ := h2 hr
    refine ⟨hgrant, fun x hx => ?_⟩
    rw [hqueue] at hx
    rcases List.mem_append.mp hx with hx | hx
    · exact hall x hx
    · rw [List.mem_singleton.mp hx]; exact hd
  · rw [hqueue] at hx
    cases hs : s.vend.queue with
    | nil => rw [hs] at hx; cases hx; cases hy
    | cons z zs =>
      rw [hs] at hx
      obtain ⟨-, rfl⟩ := List.cons.inj hx
      rcases List.mem_append.mp hy with hy | hy
      · exact h3 z zs hs y hy
      · rw [List.mem_singleton.mp hy]; exact hd

theorem appended_places {g : Pledge} {e : Entry} {s : State} (hg : g.owed = none)
    (hc : fundsCover e.funds e.price s) (h : PlacesHeld g s) : PlacesHeld g (appended e s) := by
  rw [placesHeld_iff] at h ⊢
  have hset : (appended e s).money.settlements = s.money.settlements := rfl
  have hqueue : cardIn (appended e s).vend.queue = cardIn s.vend.queue + cardIn [e] := by
    show cardIn (s.vend.queue ++ [e]) = _
    simp [cardIn, List.filter_append]
  rw [hset, hqueue]
  simp only [hg, Option.toList_none] at h ⊢
  cases hf : e.funds with
  | cash => simpa [cardIn, hf] using h
  | card =>
    rw [hf] at hc
    have : cardIn s.vend.queue + s.money.settlements.length < 4 := hc.2.2
    simp [cardIn, hf] at this ⊢
    omega

theorem appended_keeps {g : Pledge} {e : Entry} {s : State} (hg : g.settled) (hd : e.driving = false)
    (hroom : s.vend.queue.length < 4) (hc : fundsCover e.funds e.price s) : Keeps g s g (appended e s) where
  balanced h := by
    cases hf : e.funds <;> simpa [MoneyBalanced, appended, commitFunds, hf, State.mapCredit] using h
  queue _ := by
    show (s.vend.queue ++ [e]).length ≤ 4
    simp; omega
  places := appended_places hg.2 hc
  cash := appended_cash hc
  card := appended_card hg.1 hd hc
  drive := appended_drive hd

theorem accept_eq (i : Fin 96) (f : Funds) (s : State) :
    accept i f s =
      let tag := freeTag (fun t => t == 0xFF || s.vend.queue.any fun e => e.tag == t) 5 s.vend.nextTag
      startHead (raise .vendAccepted tag (amount i) (appended
        { tag := tag, selection := i, price := s.vend.selections[i].price, funds := f, driving := false } s)) := rfl

theorem accept_keeps {g : Pledge} {i : Fin 96} {f : Funds} {s : State} (hg : g.settled)
    (hroom : s.vend.queue.length < 4) (hc : fundsCover f s.vend.selections[i].price s) :
    Keeps g s g (accept i f s) := by
  rw [accept_eq]
  exact ((appended_keeps hg rfl hroom hc).trans (raise_keeps _ _ _ _ _)).trans (startHead_keeps _ hg.1)

/-- A SELECT that passes checks 1 to 6 finds a place in the vend queue. -/
theorem room_of_no_refusal {sel p : Byte} {s : State} (h : refusal sel p s = none) : s.vend.queue.length < 4 := by
  unfold refusal at h
  split at h
  · cases h
  split at h
  · simp only [] at h
    split at h
    · cases h
    split at h
    · cases h
    split at h
    · cases h
    split at h
    · cases h
    split at h
    · cases h
    · omega
  · cases h

theorem selectVend_keeps {g : Pledge} (sel p : Byte) (s : State) (hg : g.settled) :
    Keeps g s g (selectVend sel p s) := by
  unfold selectVend
  simp only []
  split
  · exact raise_keeps g _ _ _ s
  · have hroom := room_of_no_refusal ‹_›
    split
    · split
      all_goals rename_i hanswer
      · exact accept_keeps hg hroom (fundsCover_of_answer (by rw [hanswer]; rfl))
      · exact accept_keeps hg hroom (fundsCover_of_answer (by rw [hanswer]; rfl))
      · exact raise_keeps g _ _ _ s
      · exact raise_keeps g _ _ _ s
    · exact raise_keeps g _ _ _ s

theorem takeSelect_keeps {g : Pledge} (sel p : Byte) (s : State) (hg : g.settled) :
    Keeps g s g (takeSelect sel p s) :=
  (selectVend_keeps sel p s hg).trans (activity_keeps _ _ hg.1)

/-! ## The frame switch -/

theorem nothing_settled : Pledge.nothing.settled := ⟨rfl, rfl⟩

/-- A frame of another type than those of `deliver`'s own rows is a request: `deliver` is evaluated for each byte. -/
theorem deliver_of_other {p : PortId} {dest src type : Byte} {payload : List Byte} {s : State}
    (h : type ∉ ([0x20, 0x22, 0x50, 0x60, 0x61, 0x62, 0x70, 0x71, 0x72] : List Byte)) :
    deliver p { dest := dest, src := src, type := type, payload := payload } s =
      request p { dest := dest, src := src, type := type, payload := payload } s := by
  revert h
  obtain ⟨⟨n, hn⟩⟩ := type
  interval_cases n <;> first | (intro; rfl) | (intro h; exact absurd (by simp) h)

/-- What the delivery of a consumed frame can be: that of its type's row, or a request. -/
theorem deliver_cases {P : State → Prop} {p : PortId} {f : Frame} {s : State}
    (hselect : ∀ sel pref, P (takeSelect sel pref s)) (hreturn : P (coinReturn 0 s)) (hcoin : ∀ c, P (coinIn c s))
    (hheld : ∀ n, P (takeNoteHeld n s)) (hstacked : ∀ n, P (noteStacked n s)) (hreturned : P (clearEscrow s))
    (hfunds : ∀ a b, P (fundsReported (half a b) s)) (hend : P (sessionEnds s)) (hack : ∀ tag, P (settleAcked tag s))
    (hrequest : P (request p f s)) : P (deliver p f s) := by
  obtain ⟨dest, src, type, payload⟩ := f
  by_cases h : type ∈ ([0x20, 0x22, 0x50, 0x60, 0x61, 0x62, 0x70, 0x71, 0x72] : List Byte)
  · simp only [List.mem_cons, List.not_mem_nil, or_false] at h
    rcases h with rfl | rfl | rfl | rfl | rfl | rfl | rfl | rfl | rfl
    · match payload with
      | [sel, pref] => exact hselect sel pref
      | [] | [_] | _ :: _ :: _ :: _ => exact hrequest
    · match payload with
      | [] => exact hreturn
      | _ :: _ => exact hrequest
    · match payload with
      | [c] => exact hcoin c
      | [] | _ :: _ :: _ => exact hrequest
    · match payload with
      | [n] => exact hheld n
      | [] | _ :: _ :: _ => exact hrequest
    · match payload with
      | [n] => exact hstacked n
      | [] | _ :: _ :: _ => exact hrequest
    · match payload with
      | [_] => exact hreturned
      | [] | _ :: _ :: _ => exact hrequest
    · match payload with
      | [a, b] => exact hfunds a b
      | [] | [_] | _ :: _ :: _ :: _ => exact hrequest
    · match payload with
      | [] => exact hend
      | _ :: _ => exact hrequest
    · match payload with
      | [tag] => exact hack tag
      | [] | _ :: _ :: _ => exact hrequest
  · rw [deliver_of_other h]; exact hrequest

theorem deliver_keeps (p : PortId) (f : Frame) (s : State) : Keeps .nothing s .nothing (deliver p f s) :=
  (@deliver_cases (fun t => Keeps .nothing s .nothing t)) (takeSelect_keeps · · s nothing_settled)
    (coinReturn_keeps _ _ s) (coinIn_keeps · s rfl) (takeNoteHeld_keeps · s rfl rfl) (noteStacked_keeps _ · s) (clearEscrow_keeps _ s)
    (fun _ _ => fundsReported_keeps _ s nothing_settled) (sessionEnds_keeps s nothing_settled) (settleAcked_keeps _ · s)
    (request_keeps p f s)

theorem handleByType_keeps (p : PortId) (f : Frame) (s : State) : Keeps .nothing s .nothing (handleByType p f s) := by
  unfold handleByType
  split
  · split
    · exact request_keeps p f s
    · exact raise_keeps _ _ _ _ s
  · split
    · exact deliver_keeps p f s
    · exact raise_keeps _ _ _ _ s

theorem broadcast_keeps (p : PortId) (f : Frame) (s : State) : Keeps .nothing s .nothing (broadcast p f s) :=
  Keeps.foldl (fun t q => forward_keeps q f t rfl) _ s

theorem handle_keeps (p : PortId) (f : Frame) (s : State) : Keeps .nothing s .nothing (handle p f s) := by
  unfold handle
  split
  · exact handleByType_keeps p f s
  split
  · simp only []
    split
    · exact (broadcast_keeps p f s).trans (handleByType_keeps p f _)
    · exact broadcast_keeps p f s
  split
  · exact mapPort_keeps_of_same (by rfl) (by rfl)
  · split
    · exact .refl _ s
    · exact forward_keeps _ f s rfl

theorem switchFrame_keeps (p : PortId) (f : Frame) (s : State) : Keeps .nothing s .nothing (switchFrame p f s) := by
  unfold switchFrame
  split
  · exact handle_keeps p f s
  · split
    · exact handle_keeps p f s
    · exact (handle_keeps p f s).trans (forward_keeps _ _ _ rfl)
  · exact handleByType_keeps p f s
  · exact .refl _ s

theorem takeHeld_keeps (s : State) : Keeps .nothing s .nothing (takeHeld s) := by
  unfold takeHeld
  split
  · exact .refl _ s
  split
  · exact (mapLink_keeps _ s (by rfl)).trans (handleByType_keeps _ _ _)
  · exact .refl _ s

theorem recoveryFrame_keeps (p : PortId) (s : State) : Keeps .nothing s .nothing (recoveryFrame p s) := by
  unfold recoveryFrame
  have hrecover := (@recover_keeps .nothing) p s fun _ => rfl
  split
  · split
    · exact hrecover.trans (takeHeld_keeps _)
    · exact hrecover
  · exact mapPort_keeps_of_same (by rfl) (by rfl)

theorem setAssembly_keeps (g : Pledge) (p : PortId) (a : Assembly) (s : State) : Keeps g s g (setAssembly p a s) :=
  mapPort_keeps_of_same (by rfl) (by rfl)

theorem goodFrame_keeps (p : PortId) (f : Frame) (s : State) : Keeps .nothing s .nothing (goodFrame p f s) := by
  unfold goodFrame
  simp only []
  split
  · exact (setAssembly_keeps _ p _ s).trans (recoveryFrame_keeps p _)
  · exact ((setAssembly_keeps _ p _ s).trans (scoreGood_keeps _ p _)).trans (switchFrame_keeps p f _)

theorem badFrame_keeps (p : PortId) (a : Assembly) (s : State) : Keeps .nothing s .nothing (badFrame p a s) := by
  have hscore := (setAssembly_keeps .nothing p a s).trans (scoreBad_keeps p _ nothing_settled)
  unfold badFrame
  simp only []
  split
  · exact hscore.trans (warmRestart_keeps _)
  · exact hscore.trans (pump_keeps _ _)

/-- The oldest frame leaves a queue. -/
theorem popFrame_keeps {s : State} {p : PortId} {x : TxFrame} {rest : List TxFrame} (h : (s.port p).tx = x :: rest) :
    Keeps .nothing s .nothing (s.mapPort p fun q => { q with tx := rest }) := by
  refine mapPort_keeps (fun _ hdue => by simp at hdue) (fun ⟨hlen, hgen⟩ => ⟨?_, fun hp => ?_⟩) fun _ k => k
  · rw [h, List.length_cons] at hlen
    show rest.length ≤ 6
    omega
  · refine le_trans ?_ (hgen hp)
    rw [generalTaken, generalTaken, h]
    exact ((List.sublist_cons_self x rest).filter _).length_le

theorem frameSent_keeps (p : PortId) (s : State) : Keeps .nothing s .nothing (frameSent p s) := by
  unfold frameSent
  split
  · exact pump_keeps _ s
  · rename_i x rest htx
    simp only []
    split
    · exact (popFrame_keeps htx).trans (warmRestart_keeps _)
    · have hfill := (popFrame_keeps htx).trans (fillPending_keeps _ p fun _ => rfl)
      split
      · exact (hfill.trans (takeHeld_keeps _)).trans (pump_keeps _ _)
      · exact hfill.trans (pump_keeps _ _)

/-! ## The passing of one millisecond -/

theorem MotorTurn.tick_on (m : MotorTurn) : m.tick.on = m.on := by
  unfold MotorTurn.tick; split <;> rfl

theorem Supply.tick_claims (p : Supply) : p.tick.budget = p.budget ∧ p.tick.vend = p.vend ∧
    p.tick.compressor = p.compressor ∧ p.tick.heater = p.heater := by
  unfold Supply.tick; split <;> exact ⟨rfl, rfl, rfl, rfl⟩

theorem Supply.tick_granted (p : Supply) : pointsGranted p.tick = pointsGranted p := by
  obtain ⟨_, hv, hc, hh⟩ := p.tick_claims
  simp [pointsGranted, hv, hc, hh]

theorem Settlement.tick_tag (l : List Settlement) :
    (l.map fun r : Settlement => match r.state with
      | .sent => { r with timerMs := r.timerMs - 1 }
      | .unconfirmed => r).map (·.tag) = l.map (·.tag) := by
  rw [List.map_map]
  refine List.map_congr_left fun r _ => ?_
  simp only [Function.comp]
  split <;> rfl

/-- The settlement records of the part are known by the same tags. -/
theorem portPending_of_tags {rs rs' : List Settlement} {l : List Frame} (h : rs'.map (·.tag) = rs.map (·.tag))
    (k : PortPending rs l) : PortPending rs' l := by
  obtain ⟨h1, h2, h3, h4⟩ := k
  refine ⟨h1, h2, h3, fun f hf => ?_⟩
  rcases h4 f hf with hd | ha | ⟨ht, r, hr, hp⟩
  · exact .inl hd
  · exact .inr (.inl ha)
  · have hmem : r.tag ∈ rs'.map (·.tag) := h ▸ List.mem_map_of_mem hr
    obtain ⟨r', hr', htag⟩ := List.mem_map.mp hmem
    exact .inr (.inr ⟨ht, r', hr', hp.trans (by rw [htag])⟩)

/-- One millisecond more, before the condition of R153 is judged. -/
def ticked (s : State) : State :=
  { s with
    money := s.money.tick, coins := s.coins.tick, drive := s.drive.tick, supply := s.supply.tick,
    cooling := s.cooling.tick, cabinet := s.cabinet.tick }

theorem tick_eq (s : State) : tick s = if s.resetLow then s else pump (ticked s) := rfl

theorem ticked_loads {s : State} (h : LoadsApart s) : LoadsApart (ticked s) := by
  obtain ⟨_, _, hc, hh⟩ := s.supply.tick_claims
  have hs : (ticked s).supply.compressor = s.supply.compressor ∧ (ticked s).supply.heater = s.supply.heater := ⟨hc, hh⟩
  rw [LoadsApart, hs.1, hs.2]
  exact h

theorem ticked_keeps (g : Pledge) (s : State) : Keeps g s g (ticked s) where
  budget h := by
    show pointsGranted s.supply.tick ≤ s.supply.tick.budget
    rw [Supply.tick_granted, s.supply.tick_claims.1]
    exact h
  flights h := by
    show (s.coins.inflight.map _).length ≤ 4
    rw [List.length_map]; exact h
  places h := by
    have hlen : (ticked s).money.settlements.length = s.money.settlements.length := List.length_map _
    rw [placesHeld_iff] at h ⊢
    rw [hlen]; exact h
  pending _ _ h p := portPending_of_tags (Settlement.tick_tag _) (h p)
  cash h := ⟨h.ceiling, h.sum, h.covered, h.run⟩
  drive h := h.congr
    { record := by
        show (s.drive.record.map Drive.tick).map (·.tag) = s.drive.record.map (·.tag)
        rw [Option.map_map]; rfl
      claim := by
        show s.supply.tick.vend.state = .granted ↔ _
        rw [s.supply.tick_claims.2.1] }
  loads := ticked_loads
  setpoints h z hz := by
    have hzone : (ticked s).cooling.zones[z] = s.cooling.zones[z].tick := by
      simp [ticked, Cooling.tick]
    rw [hzone]
    exact h z hz

theorem tick_keeps (g : Pledge) (s : State) : Keeps g s g (tick s) := by
  rw [tick_eq]
  split
  · exact .refl g s
  · exact (ticked_keeps g s).trans (pump_keeps g _)

end Sys2Proof.Machine
end

section
/-! PROOFS. Every command of the table keeps the promises of Safety.lean, and the seven statements about every step. -/

namespace Sys2Proof.Machine

/-! ## Cold reset -/

theorem cold_effective (z : ZoneId) (straps : BitVec 2) (cause : ResetCause) :
    (State.cold straps cause).cooling.zones[z].effective =
      effectiveOf (State.cold straps cause).cooling.zones[z].setpoint (State.cold straps cause).cabinet.holds[z].limit
        (State.cold straps cause).cabinet.economy.offset (State.cold straps cause).cabinet.economy.state := by
  fin_cases z <;> rfl

theorem cold_port (straps : BitVec 2) (cause : ResetCause) (p : PortId) :
    ((State.cold straps cause).port p).tx = [] ∧ ((State.cold straps cause).port p).waiting = [] := by
  fin_cases p <;> exact ⟨rfl, rfl⟩

theorem cold_tube (straps : BitVec 2) (cause : ResetCause) (t : TubeId) :
    (State.cold straps cause).coins.tubes[t].count = 0 := by
  fin_cases t <;> rfl

theorem cold_hold (straps : BitVec 2) (cause : ResetCause) (z : ZoneId) :
    (State.cold straps cause).cabinet.holds[z].accumulator = 0 := by
  fin_cases z <;> rfl

/-- Every promise of Safety.lean at once. -/
structure Sound (s : State) : Prop where
  balanced : MoneyBalanced s
  cash : CashSound s
  budget : WithinBudget s
  tubes : TubesHold s
  flights : FlightsFit s
  events : EventsFit s
  queue : QueueFits s
  places : CardPlacesFit s
  card : CardSound s
  queues : QueuesHold s
  drive : DriveNeedsGrant s
  loads : LoadsApart s
  holds : HoldsCount s
  setpoints : SetpointsClamped s
  pending : PendingFit s

/-- A sound state may follow any state with the same commands waiting. -/
theorem Keeps.of_sound {s t : State} (h : Sound t) (hp : t.pending = s.pending) : Keeps .nothing s .nothing t where
  balanced _ := h.balanced
  budget _ := h.budget
  tubes _ := h.tubes
  flights _ := h.flights
  queue _ := h.queue
  events _ := h.events
  places _ := h.places
  reply _ h := by simp at h
  queues _ _ := h.queues
  pending _ _ _ := h.pending
  cash _ := ⟨h.cash.1, h.cash.2.1, h.cash.2.2.1, fun _ => h.cash.2.2.2⟩
  card _ := ⟨h.card.1, h.card.2.1, h.card.2.2.1, h.card.2.2.2.1, h.card.2.2.2.2, by simp⟩
  drive _ := h.drive
  loads _ := h.loads
  holds _ := h.holds
  setpoints _ z _ := h.setpoints z
  waits := hp

/-- After cold reset every promise holds. -/
theorem cold_sound (straps : BitVec 2) (cause : ResetCause) : Sound (State.cold straps cause) where
  balanced := rfl
  cash := ⟨show (0 : Word).toNat + (0 : Word).toNat < 2 ^ 32 by decide, rfl, Nat.le_refl _, fun h => absurd rfl h,
    by simp [State.cold, Reset.coins, Reset.engine],
    by simp [State.cold, Reset.coins, Reset.engine]⟩
  budget := Nat.zero_le _
  tubes t := (cold_tube straps cause t).trans_le (Nat.zero_le _)
  flights := Nat.zero_le _
  events := ⟨show 1 ≤ 16 by decide, Nat.zero_le _⟩
  queue := Nat.zero_le _
  places := Nat.zero_le _
  card := ⟨rfl, fun h => absurd rfl h, fun _ e h => absurd h (by simp [State.cold, Reset.vend]),
    fun _ e h => absurd h (by simp [State.cold, Reset.vend]), fun e es h => absurd h (by simp [State.cold, Reset.vend])⟩
  queues := (queuesHold_iff _).mpr fun p => by
    simp [PortHolds, generalTaken, (cold_port straps cause p).1]
  drive := ⟨fun r h => absurd h (by simp [State.cold, Reset.drive]),
    fun _ => ⟨by simp [State.cold, Reset.supply, Reset.claim], fun e h => absurd h (by simp [State.cold, Reset.vend])⟩,
    fun e es h => absurd h (by simp [State.cold, Reset.vend])⟩
  loads := by simp [LoadsApart, State.cold, Reset.cooling, Reset.supply, Reset.claim]
  holds z := (cold_hold straps cause z).trans_le (Nat.zero_le _)
  setpoints z := cold_effective z straps cause
  pending p := by simp [(cold_port straps cause p).2]

/-- No promise reads the commands that wait or the number of the next free value. -/
theorem Sound.withPending {s : State} (h : Sound s) (l : List Instr) (n : Nat) :
    Sound { s with pending := l, fresh := n } :=
  ⟨h.balanced, h.cash, h.budget, h.tubes, h.flights, h.events, h.queue, h.places, h.card, h.queues, h.drive, h.loads,
    h.holds, h.setpoints, h.pending⟩

theorem cold_keeps (straps : BitVec 2) (cause : ResetCause) (s : State) :
    Keeps .nothing s .nothing { State.cold straps cause with pending := s.pending, fresh := s.fresh } :=
  .of_sound ((cold_sound straps cause).withPending _ _) rfl

theorem execColdReset_keeps {straps : BitVec 2} {edge : ResetEdge} {s t : State}
    (h : execColdReset straps edge s = .next t) : Keeps .nothing s .nothing t := by
  cases edge with
  | goesLow =>
    cases h
    exact {}
  | returns cause =>
    cases h
    exact cold_keeps straps cause s

/-! ## The commands of the table -/

theorem act_keeps {g : Pledge} {s t u : State} (h : act s u = .next t) (k : Keeps g s g u) : Keeps g s g t := by
  rcases act_next h with ⟨_, rfl⟩ | ⟨_, rfl⟩
  · exact .refl g _
  · exact k

/-- A meaning that ends with the condition of R153 judged. -/
theorem act_pump_keeps {g : Pledge} {s t u : State} (h : act s (pump u) = .next t) (k : Keeps g s g u) :
    Keeps g s g t :=
  act_keeps h (k.trans (pump_keeps g u))

/-- A meaning that is the request of a row. -/
theorem act_request_keeps {src type : Byte} {payload : List Byte} {s t : State}
    (h : act s (pump (fromController src type payload s)) = .next t) : Keeps .nothing s .nothing t :=
  act_pump_keeps h (fromController_keeps src type payload s)

theorem leverArmed_keeps (g : Pledge) (b : Bool) (s : State) :
    Keeps g s g (s.mapMoney fun m => { m with leverArmed := b }) := {}

/-! ### The coin path -/

theorem execSolenoidPulseEnd_keeps {s t : State} (h : execSolenoidPulseEnd s = .next t) :
    Keeps .nothing s .nothing t := by
  refine act_pump_keeps h ?_
  split
  · rename_i hp
    refine mapEngine_keeps _ fun ⟨hplan, hpos, hcur⟩ => ⟨fun _ => ?_, hpos, fun _ => hcur (.inl hp)⟩
    exact hplan (by rw [hp]; decide)
  · exact .refl _ s

theorem execExitPulse_keeps {s t : State} (h : execExitPulse s = .next t) : Keeps .nothing s .nothing t := by
  refine act_pump_keeps h ?_
  split
  · exact confirmCoin_keeps _ rfl ‹_› ‹_›
  · exact raise_keeps _ _ _ _ s

theorem execExitWaitExpiry_keeps {s t : State} (h : execExitWaitExpiry s = .next t) : Keeps .nothing s .nothing t := by
  refine act_pump_keeps h ?_
  split
  · simp only []
    have hreport := (@report_keeps .nothing) .tubeJam
    split
    · exact (hreport _ s nothing_settled).trans (endManual_keeps _ _)
    · exact (hreport _ s nothing_settled).trans (planRun_keeps_of_run _ _ _ _)
  · exact .refl _ s

theorem execGapEnd_keeps {s t : State} (h : execGapEnd s = .next t) : Keeps .nothing s .nothing t := by
  refine act_pump_keeps h ?_
  split
  · rename_i hp
    exact nextCoin_keeps _ rfl (by rw [hp]; decide)
  · exact .refl _ s

theorem hasFlight_pulse_keeps (g : Pledge) (r : Option TubeId) (a : Byte) (v : Word) (s : State) :
    Keeps g s g (if hasFlight r s then claimFlight r s else raise .unclaimedCoin a v s) := by
  split
  · exact claimFlight_keeps g r s
  · exact raise_keeps g _ _ _ s

/-- The release of a chute changes a tube record in its flap alone. -/
theorem setFlap_tube (t u : TubeId) (s : State) :
    (setFlap t s).coins.tubes[u] = { s.coins.tubes[u] with flap := (setFlap t s).coins.tubes[u].flap } := by
  unfold setFlap
  split
  · rfl
  · rw [tube_mapTube]
    split <;> rfl

theorem claimFlight_tube (r : Option TubeId) (u : TubeId) (s : State) :
    (claimFlight r s).coins.tubes[u] = { s.coins.tubes[u] with flap := (claimFlight r s).coins.tubes[u].flap } := by
  unfold claimFlight chuteFreed
  split
  · rfl
  split
  · rfl
  · exact setFlap_tube _ u _

/-- A tube entry pulse claims the oldest record of its route, or is reported (R32). -/
def entryClaimed (tube : TubeId) (s : State) : State :=
  if hasFlight (some tube) s then claimFlight (some tube) s
  else raise .unclaimedCoin (byteOf tube) (amount
    (if decide (s.coins.tubes[tube].capacity ≤ s.coins.tubes[tube].count) then s.coins.tubes[tube].count
      else s.coins.tubes[tube].count + 1)) s

theorem execTinPulse_eq (tube : TubeId) (s : State) :
    execTinPulse tube s = act s (pump
      (if decide (s.coins.tubes[tube].capacity ≤ s.coins.tubes[tube].count) then
        report .tubeOverfill tube ((entryClaimed tube s).mapTube tube fun y => { y with overfill := saturate 255 y.overfill })
      else tubeChanged tube ((entryClaimed tube s).mapTube tube fun y => { y with count := y.count + 1 }))) := rfl

theorem entryClaimed_tube (tube : TubeId) (s : State) :
    (entryClaimed tube s).coins.tubes[tube] =
      { s.coins.tubes[tube] with flap := (entryClaimed tube s).coins.tubes[tube].flap } := by
  unfold entryClaimed
  split
  · exact claimFlight_tube _ _ s
  · simp

theorem execTinPulse_keeps {tube : TubeId} {s t : State} (h : execTinPulse tube s = .next t) :
    Keeps .nothing s .nothing t := by
  rw [execTinPulse_eq] at h
  have hclaim : Keeps .nothing s .nothing (entryClaimed tube s) := hasFlight_pulse_keeps _ (some tube) _ _ s
  have htube := entryClaimed_tube tube s
  refine act_pump_keeps h (hclaim.trans ?_)
  split
  · exact (mapTube_keeps _ (by rfl) (by exact id)).trans (report_keeps _ _ _ nothing_settled)
  · rename_i hfull
    refine Keeps.trans (@mapTube_keeps _ (entryClaimed tube s) _ _ (by rfl) fun _ => ?_) (tubeChanged_keeps _ _ _)
    show (entryClaimed tube s).coins.tubes[tube].count + 1 ≤ (entryClaimed tube s).coins.tubes[tube].capacity
    rw [htube]
    simp only [decide_eq_true_eq] at hfull
    show s.coins.tubes[tube].count + 1 ≤ s.coins.tubes[tube].capacity
    omega

theorem execCbinPulse_keeps {s t : State} (h : execCbinPulse s = .next t) : Keeps .nothing s .nothing t :=
  act_pump_keeps h (hasFlight_pulse_keeps _ none 6 0 s)

theorem execRouteDeadlineExpiry_keeps {n : Nat} {s t : State} (h : execRouteDeadlineExpiry n s = .next t) :
    Keeps .nothing s .nothing t := by
  refine act_pump_keeps h ?_
  split
  · exact .refl _ s
  · exact ((eraseFlight_keeps _ s _).trans (chuteFreed_keeps _ _ _)).trans (report_keeps _ _ _ nothing_settled)

/-! ### The drive -/

theorem execCurrentSample_keeps {c : Byte} {s t : State} (h : execCurrentSample c s = .next t) :
    Keeps .nothing s .nothing t := by
  refine act_pump_keeps h ?_
  split
  · exact .refl _ s
  · rename_i r hr
    split
    · exact sampleCurrent_keeps c nothing_settled rfl (by rw [hr]; rfl)
    · exact .refl _ s

theorem execMotorStall_keeps {s t : State} (h : execMotorStall s = .next t) : Keeps .nothing s .nothing t := by
  refine act_pump_keeps h ?_
  split
  · exact .refl _ s
  · rename_i r hr
    split
    · exact driveFault_keeps _ _ nothing_settled rfl (by rw [hr]; rfl)
    · exact .refl _ s

theorem execMotorOpen_keeps {s t : State} (h : execMotorOpen s = .next t) : Keeps .nothing s .nothing t := by
  refine act_pump_keeps h ?_
  split
  · exact .refl _ s
  · rename_i r hr
    split
    · exact driveFault_keeps _ _ nothing_settled rfl (by rw [hr]; rfl)
    · exact .refl _ s

theorem Drive.setTurn_tag (r : Drive) (m : MotorSel) (x : MotorTurn) : (r.setTurn m x).tag = r.tag := by
  cases m <;> rfl

theorem execSwitchSeenOpen_keeps {m : DriveMotor} {s t : State} (h : execSwitchSeenOpen m s = .next t) :
    Keeps .nothing s .nothing t := by
  refine act_pump_keeps h ?_
  split
  · exact .refl _ s
  · rename_i r hr
    simp only []
    split
    · refine mapDrive_keeps _ ?_
      rw [hr, Option.map_some, Option.map_some, Drive.setTurn_tag]
    · exact .refl _ s

theorem execMotorTurnEnd_keeps {m : TurnEnd} {s t : State} (h : execMotorTurnEnd m s = .next t) :
    Keeps .nothing s .nothing t := by
  refine act_pump_keeps h ?_
  split
  · exact .refl _ s
  · rename_i r hr
    split
    · exact switchesClose_keeps m nothing_settled rfl (by rw [hr]; rfl)
    · exact .refl _ s

theorem execTurnTimerExpiry_keeps {m : TurnTimer} {s t : State} (h : execTurnTimerExpiry m s = .next t) :
    Keeps .nothing s .nothing t := by
  refine act_pump_keeps h ?_
  split
  · exact .refl _ s
  · rename_i r hr
    simp only []
    split
    · exact driveFault_keeps _ _ nothing_settled rfl (by rw [hr]; rfl)
    · exact .refl _ s

theorem execPauseEnd_keeps {s t : State} (h : execPauseEnd s = .next t) : Keeps .nothing s .nothing t := by
  refine act_pump_keeps h ?_
  split
  · exact .refl _ s
  · rename_i r hr
    split
    · refine mapDrive_keeps _ ?_
      rw [hr]
      simp [Driver.energise]
    · exact .refl _ s

theorem execTimedRunEnd_keeps {s t : State} (h : execTimedRunEnd s = .next t) : Keeps .nothing s .nothing t := by
  refine act_pump_keeps h ?_
  split
  · exact .refl _ s
  · rename_i r hr
    split
    · exact endOfLastTurn_keeps nothing_settled rfl (by rw [hr]; rfl)
    · exact .refl _ s

theorem execTailEnd_keeps {s t : State} (h : execTailEnd s = .next t) : Keeps .nothing s .nothing t := by
  refine act_pump_keeps h ?_
  split
  · exact .refl _ s
  · rename_i r hr
    split
    · exact tailEnds_keeps nothing_settled rfl (by rw [hr]; rfl)
    · exact .refl _ s

theorem execBeamBroken_keeps {s t : State} (h : execBeamBroken s = .next t) : Keeps .nothing s .nothing t := by
  have hset := (@mapDrive_keeps .nothing s (fun d => { d with monitor := .broken, brokenMs := 5 })) rfl
  refine act_pump_keeps h ?_
  split
  · exact hset
  · exact hset.trans (countDrop_keeps _ nothing_settled rfl)
  all_goals exact .refl _ s

theorem execBeamClear_keeps {s t : State} (h : execBeamClear s = .next t) : Keeps .nothing s .nothing t := by
  have hset := (@mapDrive_keeps .nothing s (fun d => { d with monitor := .clear, brokenMs := 0 })) rfl
  refine act_pump_keeps h ?_
  split
  any_goals exact hset
  exact hset.trans (conditionEnded_keeps _ _ _ _)

theorem blockDrive_tag (d : Driver) : (blockDrive d).record.map (·.tag) = d.record.map (·.tag) := by
  unfold blockDrive
  rw [Option.map_map]
  refine congrFun (congrArg Option.map (funext fun r => ?_)) d.record
  simp only [Function.comp]
  split <;> rfl

theorem execDropBlocked_keeps {s t : State} (h : execDropBlocked s = .next t) : Keeps .nothing s .nothing t := by
  refine act_pump_keeps h ?_
  split
  · refine Keeps.trans (mapDrive_keeps _ ?_) (report_keeps _ _ _ nothing_settled)
    exact blockDrive_tag _
  · exact .refl _ s

theorem execTraceSample_keeps {c : Byte} {s t : State} (h : execTraceSample c s = .next t) :
    Keeps .nothing s .nothing t := by
  refine act_pump_keeps h ?_
  split
  · exact mapDrive_keeps _ rfl
  · exact .refl _ s

theorem execSupplyDefer_keeps {s t : State} (h : execSupplyDefer s = .next t) : Keeps .nothing s .nothing t := by
  refine act_pump_keeps h ?_
  split
  · refine (@Keeps.trans _ .nothing) ?_ (raise_keeps _ _ _ _ _)
    exact { drive := fun h => h.congr {} }
  · exact .refl _ s

/-! ### Refrigeration, holds and economy -/

theorem execProbeSample_keeps {a b c : Half} {s t : State} (h : execProbeSample a b c s = .next t) :
    Keeps .nothing s .nothing t :=
  act_pump_keeps h <| (@mapCooling_keeps .nothing s (fun c => { c with sampleMs := 0 }) id rfl).trans <|
    (sampleAir_keeps 0 _ _ nothing_settled).trans <| (sampleAir_keeps 1 _ _ nothing_settled).trans <|
    (sampleCoil_keeps _ _ nothing_settled).trans <| (accumulate_keeps 0 _ nothing_settled).trans <|
    accumulate_keeps 1 _ nothing_settled

theorem execZoneHeld_keeps {z : ZoneId} {s t : State} (h : execZoneHeld z s = .next t) : Keeps .nothing s .nothing t := by
  refine act_pump_keeps h ?_
  split
  · exact accumulate_keeps z s nothing_settled
  · exact .refl _ s

theorem execLimpPhaseEnd_keeps {z : ZoneId} {s t : State} (h : execLimpPhaseEnd z s = .next t) :
    Keeps .nothing s .nothing t := by
  refine act_pump_keeps h ?_
  split
  · exact .refl _ s
  · exact (mapZone_keeps _ (by rfl) (by rfl)).trans (setDemand_keeps _ _ _ rfl)

theorem execOffTimerExpiry_keeps {s t : State} (h : execOffTimerExpiry s = .next t) : Keeps .nothing s .nothing t := by
  refine act_pump_keeps h ?_
  split
  · rename_i hl
    refine Keeps.trans (mapCooling_keeps _ (fun ⟨h1, h2, h3, h4, h5, h6⟩ => ?_) rfl) (reactCompressor_keeps _ rfl)
    refine ⟨?_, h2, ?_, h4, h5, fun _ => .inr rfl⟩
    · simpa [hl] using h1
    · simpa [hl] using h3
  · exact .refl _ s

theorem execStartWindowEnd_keeps {s t : State} (h : execStartWindowEnd s = .next t) : Keeps .nothing s .nothing t := by
  refine act_pump_keeps h ?_
  split
  · rename_i hst
    refine Keeps.trans (mapCooling_keeps _ (fun ⟨h1, h2, h3, h4, h5, h6⟩ => ?_) rfl) (shrink_keeps _ rfl)
    refine ⟨?_, h2, ?_, h4, h5, fun hd => ?_⟩
    · simpa [hst] using h1
    · simpa [hst] using h3
    · simpa [hst] using h6 hd
  · exact .refl _ s

theorem execCompressorStop_keeps {s t : State} (h : execCompressorStop s = .next t) : Keeps .nothing s .nothing t := by
  refine act_pump_keeps h ?_
  split
  · rename_i hc
    exact (mapCooling_keeps _ (by exact id) (by rfl)).trans (stopCompressor_keeps rfl hc.1)
  · exact .refl _ s

theorem execCondenserRunOnEnd_keeps {s t : State} (h : execCondenserRunOnEnd s = .next t) :
    Keeps .nothing s .nothing t :=
  act_pump_keeps h (mapCooling_keeps _ (by exact id) (by rfl))

theorem execDefrostPending_keeps {s t : State} (h : execDefrostPending s = .next t) : Keeps .nothing s .nothing t := by
  refine act_pump_keeps h ?_
  split
  · rename_i hd
    exact (mapCooling_keeps _ (by exact id) (by rfl)).trans (enterPending_keeps 0 _ rfl hd.1)
  · exact .refl _ s

theorem execHeatTimerExpiry_keeps {s t : State} (h : execHeatTimerExpiry s = .next t) : Keeps .nothing s .nothing t := by
  refine act_pump_keeps h ?_
  split
  · rename_i hd
    exact (report_keeps _ _ s nothing_settled).trans
      (endHeating_keeps _ rfl ((report_undisturbed .defrostTimeout 0 s).1.trans hd))
  · exact .refl _ s

theorem execDripTimerExpiry_keeps {s t : State} (h : execDripTimerExpiry s = .next t) : Keeps .nothing s .nothing t := by
  refine act_pump_keeps h ?_
  split
  · exact endDripping_keeps s rfl ‹_›
  · exact .refl _ s

theorem execDimEntry_keeps {s t : State} (h : execDimEntry s = .next t) : Keeps .nothing s .nothing t := by
  refine act_pump_keeps h ?_
  split
  · exact (mapEconomy_keeps _ (by rfl) (by rfl)).trans (judgeEconomy_keeps _ rfl)
  · exact .refl _ s

theorem execEconomyEntry_keeps {s t : State} (h : execEconomyEntry s = .next t) : Keeps .nothing s .nothing t := by
  refine act_pump_keeps h ?_
  split
  · exact (mapEconomy_keeps _ (by rfl) (by rfl)).trans (judgeEconomy_keeps _ rfl)
  · exact .refl _ s

theorem execTimeOfWeekTick_keeps {s t : State} (h : execTimeOfWeekTick s = .next t) : Keeps .nothing s .nothing t := by
  refine act_pump_keeps h ?_
  split
  · exact (mapCabinet_keeps _ (by rfl) (by rfl) (by rfl)).trans (judgeWindow_keeps _ rfl)
  · exact .refl _ s

/-! ### Credit, vending and the link -/

theorem execCoinReturnLeverPress_keeps {s t : State} (h : execCoinReturnLeverPress s = .next t) :
    Keeps .nothing s .nothing t := by
  refine act_pump_keeps h ?_
  split
  · exact (leverArmed_keeps _ false s).trans (coinReturn_keeps _ _ _)
  · exact .refl _ s

theorem execSettlementTimerExpiry_keeps {tag : Byte} {s t : State} (h : execSettlementTimerExpiry tag s = .next t) :
    Keeps .nothing s .nothing t := by
  refine act_pump_keeps h ?_
  split
  · exact .refl _ s
  · exact unconfirm_keeps _ _ s

theorem execDoorChange_keeps {b : Bool} {s t : State} (h : execDoorChange b s = .next t) :
    Keeps .nothing s .nothing t := by
  refine act_pump_keeps h ?_
  split
  · exact .refl _ s
  · exact doorTaken_keeps b s rfl

theorem execWarmRestart_keeps {s t : State} (h : execWarmRestart s = .next t) : Keeps .nothing s .nothing t := by
  refine act_keeps h ?_
  split
  · exact warmRestart_keeps s
  · exact pump_keeps _ s

theorem execGoodFrame_keeps {p : PortId} {d n ty : Byte} {l : List Byte} {s t : State}
    (h : execGoodFrame p d n ty l s = .next t) : Keeps .nothing s .nothing t := by
  refine act_keeps h ?_
  split
  · exact badFrame_keeps p _ s
  · exact (goodFrame_keeps p _ s).trans (pump_keeps _ _)

theorem exec_keeps {c : Instr} {s t : State} (h : exec c s = .next t) : Keeps .nothing s .nothing t := by
  cases c
  case coldReset => exact execColdReset_keeps h
  case warmRestart => exact execWarmRestart_keeps h
  case goodFrame => exact execGoodFrame_keeps h
  case badFrame p cause => exact act_keeps h (badFrame_keeps p _ s)
  case frameGapExpiry p => exact act_keeps h (badFrame_keeps p _ s)
  case frameSent p => exact act_keeps h (frameSent_keeps p s)
  case select => exact act_pump_keeps h (takeSelect_keeps _ _ s nothing_settled)
  case creditReturn => exact act_pump_keeps h (coinReturn_keeps _ _ s)
  case coinReturnLeverPress => exact execCoinReturnLeverPress_keeps h
  case coinReturnLeverRelease => exact act_pump_keeps h (leverArmed_keeps _ true s)
  case coinIn => exact act_pump_keeps h (coinIn_keeps _ s rfl)
  case noteHeld => exact act_pump_keeps h (takeNoteHeld_keeps _ s rfl rfl)
  case noteStacked => exact act_pump_keeps h (noteStacked_keeps _ _ s)
  case noteReturned => exact act_pump_keeps h (clearEscrow_keeps _ s)
  case noteEscrowTimerExpiry => exact act_pump_keeps h (escrowExpires_keeps _ s)
  case funds => exact act_pump_keeps h (fundsReported_keeps _ s nothing_settled)
  case sessionEnd => exact act_pump_keeps h (sessionEnds_keeps s nothing_settled)
  case settleAck => exact act_pump_keeps h (settleAcked_keeps _ _ s)
  case settlementTimerExpiry => exact execSettlementTimerExpiry_keeps h
  case solenoidPulseEnd => exact execSolenoidPulseEnd_keeps h
  case exitPulse => exact execExitPulse_keeps h
  case exitWaitExpiry => exact execExitWaitExpiry_keeps h
  case gapEnd => exact execGapEnd_keeps h
  case tinPulse => exact execTinPulse_keeps h
  case cbinPulse => exact execCbinPulse_keeps h
  case routeDeadlineExpiry => exact execRouteDeadlineExpiry_keeps h
  case doorChange => exact execDoorChange_keeps h
  case currentSample => exact execCurrentSample_keeps h
  case motorStall => exact execMotorStall_keeps h
  case motorOpen => exact execMotorOpen_keeps h
  case switchSeenOpen => exact execSwitchSeenOpen_keeps h
  case motorTurnEnd => exact execMotorTurnEnd_keeps h
  case turnTimerExpiry => exact execTurnTimerExpiry_keeps h
  case pauseEnd => exact execPauseEnd_keeps h
  case timedRunEnd => exact execTimedRunEnd_keeps h
  case tailEnd => exact execTailEnd_keeps h
  case beamBroken => exact execBeamBroken_keeps h
  case beamClear => exact execBeamClear_keeps h
  case dropBlocked => exact execDropBlocked_keeps h
  case traceSample => exact execTraceSample_keeps h
  case supplyDefer => exact execSupplyDefer_keeps h
  case probeSample => exact execProbeSample_keeps h
  case zoneHeld => exact execZoneHeld_keeps h
  case limpPhaseEnd => exact execLimpPhaseEnd_keeps h
  case offTimerExpiry => exact execOffTimerExpiry_keeps h
  case startWindowEnd => exact execStartWindowEnd_keeps h
  case compressorStop => exact execCompressorStop_keeps h
  case condenserRunOnEnd => exact execCondenserRunOnEnd_keeps h
  case defrostPending => exact execDefrostPending_keeps h
  case heatTimerExpiry => exact execHeatTimerExpiry_keeps h
  case dripTimerExpiry => exact execDripTimerExpiry_keeps h
  case dimEntry => exact execDimEntry_keeps h
  case economyEntry => exact execEconomyEntry_keeps h
  case timeOfWeekTick => exact execTimeOfWeekTick_keeps h
  -- what is left are the requests of the machine controller
  all_goals exact act_request_keeps h

/-- Every step keeps the promises of Safety.lean; a step that takes a command leaves the rest of the queue. -/
theorem step_keeps {s t : State} (h : step s = .next t) :
    Keeps .nothing { s with pending := s.pending.tail } .nothing t := by
  unfold step at h
  split at h
  · rename_i hnone
    cases h
    have hs : { s with pending := s.pending.tail } = s := by
      cases s; simp_all
    rw [hs]
    exact tick_keeps _ s
  · rename_i c rest hc
    rw [hc]
    exact exec_keeps h

/-! ## The statements -/

/-- Settles O9: `Keeps` carries the balance through every operation of a step. -/
theorem everyStepKeepsMoneyBalanced : Obligations.EveryStepKeepsMoneyBalanced :=
  fun _ _ hs h => (step_keeps h).balanced hs

/-- Settles O33. -/
theorem everyStepKeepsWithinBudget : Obligations.EveryStepKeepsWithinBudget :=
  fun _ _ hs h => (step_keeps h).budget hs

/-! ### Lists and counts -/

theorem placesHeld_nothing (s : State) : PlacesHeld .nothing s ↔ CardPlacesFit s := Iff.rfl

theorem replyFits_nothing (s : State) : ReplyFits .nothing s := fun h => by simp at h

/-- The tags of settlement records that frames carry, each once, are no more than the records. -/
theorem length_le_of_tags {rs : List Settlement} {l : List Frame} (hnodup : (l.map fun f => f.payload.head?).Nodup)
    (htag : ∀ f ∈ l, ∃ r ∈ rs, f.payload.head? = some r.tag) : l.length ≤ rs.length := by
  rw [← (@List.length_map _ _ l (fun f => f.payload.head?)), ← (@List.length_map _ _ rs (fun r => some r.tag))]
  refine (hnodup.subperm fun x hx => ?_).length_le
  obtain ⟨f, hf, rfl⟩ := List.mem_map.mp hx
  obtain ⟨r, hr, he⟩ := htag f hf
  exact List.mem_map.mpr ⟨r, hr, he.symm⟩

/-- A list whose elements are of one of three kinds is no longer than the three together. -/
theorem length_le_of_kinds {α : Type} {p q r : α → Bool} {l : List α} (h : ∀ x ∈ l, p x = true ∨ q x = true ∨ r x = true) :
    l.length ≤ (l.filter p).length + (l.filter q).length + (l.filter r).length := by
  simp only [← List.countP_eq_length_filter]
  induction l with
  | nil => simp
  | cons x xs ih =>
    have ih := ih fun y hy => h y (List.mem_cons_of_mem x hy)
    simp only [List.countP_cons, List.length_cons]
    rcases h x List.mem_cons_self with hx | hx | hx
    all_goals rw [if_pos hx]; omega

theorem pending_length_le {rs : List Settlement} {l : List Frame} (hr : rs.length ≤ 4) (h : PortPending rs l) :
    l.length ≤ 9 := by
  obtain ⟨hdecision, haccept, hsettle, hkind⟩ := h
  have hsum := (@length_le_of_kinds _ isDecision (fun f => f.type == typeAcceptSet)
    (fun f => f.type == typeSettle) l) fun f hf => by
      rcases hkind f hf with hd | ha | ⟨hs, _⟩
      · exact .inl hd
      · exact .inr (.inl (by simpa using ha))
      · exact .inr (.inr (by simpa using hs))
  have htags : (l.filter fun f => f.type == typeSettle).length ≤ rs.length := by
    refine length_le_of_tags hsettle fun f hf => ?_
    obtain ⟨hf, ht⟩ := List.mem_filter.mp hf
    have ht : f.type = typeSettle := by simpa using ht
    rcases hkind f hf with hd | ha | ⟨_, hr⟩
    · rw [not_isDecision_settle ht] at hd; cases hd
    · exact absurd (ht.symm.trans ha) typeSettle_ne_accept
    · exact hr
  omega

/-- Settles O17: the bounds are fields of `Keeps`; the pending lists are counted by the kinds of their frames. -/
theorem everyStepKeepsCountsAndListsInBounds : Obligations.EveryStepKeepsCountsAndListsInBounds := by
  refine ⟨fun _ _ hs h => (step_keeps h).tubes hs, fun s t h => ?_, fun s p hplaces h => ?_⟩
  · have k := step_keeps h
    exact ⟨k.queue, k.flights, k.queues (replyFits_nothing s), fun _ => k.places, k.events,
      fun _ => k.pending (replyFits_nothing s)⟩
  · refine pending_length_le (le_trans ?_ hplaces) (h p)
    exact Nat.le_add_left _ _

/-! ### Credit -/

theorem cashHeld_nothing (s : State) :
    CashHeld .nothing s.money.credit s.vend.queue s.coins ↔ CashSound s :=
  ⟨fun h => ⟨h.ceiling, h.sum, h.covered, h.run rfl⟩, fun ⟨h1, h2, h3, h4⟩ => ⟨h1, h2, h3, fun _ => h4⟩⟩

theorem cardHeld_nothing (s : State) : CardHeld .nothing s.money.credit s.vend.queue ↔ CardSound s :=
  ⟨fun h => ⟨h.sum, h.covered, h.none_cash, h.ending_driving, h.head_only⟩,
    fun ⟨h1, h2, h3, h4, h5⟩ => ⟨h1, h2, h3, h4, h5, by simp⟩⟩

/-- Settles O18. -/
theorem everyStepKeepsCashSound : Obligations.EveryStepKeepsCashSound :=
  ⟨fun s t hs h => (cashHeld_nothing t).mp ((step_keeps h).cash ((cashHeld_nothing s).mpr hs)),
    fun s t hs h => (cardHeld_nothing t).mp ((step_keeps h).card ((cardHeld_nothing s).mpr hs))⟩

/-! ### Drive -/

theorem outputs_of_high {s : State} (h : s.resetLow = false) : outputs s = drivenOutputs s := by
  simp [outputs, h]

theorem driveSet_of_none {d : Driver} (h : d.record = none) : driveSet d = none := by simp [driveSet, h]

theorem driveSet_of_some {d : Driver} {r : Drive} (h : d.record = some r) :
    driveSet d = if r.columns = [] then none else some (r.motorA.row, r.columns) := by simp [driveSet, h]

theorem Drive.mem_columns (r : Drive) (c : Fin 8) :
    c ∈ r.columns ↔ (r.a.on = true ∧ c = r.motorA.col) ∨ (r.b.on = true ∧ r.motorB = some c) := by
  unfold Drive.columns
  rw [List.mem_append]
  refine or_congr ?_ ?_
  · cases r.a.on <;> simp
  · cases r.b.on <;> simp

/-- The row and the columns driven for a drive record. -/
theorem driven_of_some {s : State} {r : Drive} (h : s.resetLow = false) (hr : s.drive.record = some r) :
    (outputs s).columns = r.columns ∧
      (outputs s).row = if r.columns = [] then none else some r.motorA.row := by
  rw [outputs_of_high h]
  simp only [drivenOutputs, driveSet_of_some hr]
  split
  · rename_i hc; exact ⟨hc.symm, rfl⟩
  · exact ⟨rfl, rfl⟩

theorem driven_of_none {s : State} (h : s.resetLow = false) (hr : s.drive.record = none) :
    (outputs s).row = none ∧ (outputs s).columns = [] := by
  rw [outputs_of_high h]
  simp [drivenOutputs, driveSet_of_none hr]

/-- Settles O26: the invariant is a field of `Keeps`; the outputs are those of the drive set. -/
theorem everyStepKeepsDriveUnderGrant : Obligations.EveryStepKeepsDriveUnderGrant := by
  refine ⟨fun _ _ hs h => (step_keeps h).drive hs, fun s hhigh => ⟨driven_of_none hhigh, fun r hr => ?_, fun hd hon => ?_⟩⟩
  · obtain ⟨hcols, hrow⟩ := driven_of_some hhigh hr
    rw [hcols, hrow]
    exact ⟨r.mem_columns, fun h => if_pos h, fun h => if_neg h⟩
  · cases hr : s.drive.record with
    | none =>
      obtain ⟨hrow, hcols⟩ := driven_of_none hhigh hr
      rcases hon with h | h
      · exact absurd hrow h
      · exact absurd hcols h
    | some r =>
      obtain ⟨hgrant, e, es, hq, hd, _⟩ := hd.1 r hr
      exact ⟨hgrant, e, es, hq, hd⟩

/-! ### Loads -/

theorem LoadsApart.apart {s : State} (h : LoadsApart s) :
    ¬ (s.cooling.defrost.heater = true ∧ s.cooling.compressor.relay = true) := by
  rintro ⟨hheater, hrelay⟩
  obtain ⟨h1, _, _, h4, h5, h6⟩ := h
  have hgranted := h4.mpr hheater
  have hstate := h6 (.inl (h5 (by rw [hgranted]; decide)))
  rcases h1.mp hrelay with hs | hs <;> simp [hs] at hstate

/-- Settles O37: the heater's claim stands for HEATING, where the compressor is LOCKED or READY. -/
theorem everyStepKeepsLoadsApart : Obligations.EveryStepKeepsLoadsApart := by
  refine ⟨fun _ _ hs h => (step_keeps h).loads hs, fun s hs => ⟨hs.apart, ?_⟩, fun s h => ?_⟩
  · cases h : s.resetLow with
    | true => simp [outputs, h, Outputs.off]
    | false => rw [outputs_of_high h]; exact hs.apart
  · rw [outputs_of_high h]; exact ⟨rfl, rfl⟩

/-! ### Holds and setpoints -/

theorem effectiveOf_bounds (setpoint limit : Int) (offset : Nat) (e : EconomyState) :
    setpoint ≤ effectiveOf setpoint limit offset e ∧ effectiveOf setpoint limit offset e ≤ max setpoint (limit - 10) := by
  unfold effectiveOf
  cases e <;> simp <;> omega

theorem setpointsHeld_nothing (s : State) : SetpointsHeld .nothing s ↔ SetpointsClamped s :=
  ⟨fun h z => h z (by simp), fun h z _ => h z⟩

/-- Settles O42: the forming of R111 is kept, and what it forms lies within the clamp. -/
theorem everyStepKeepsHoldsAndSetpoints : Obligations.EveryStepKeepsHoldsAndSetpoints := by
  refine ⟨fun s t h => ⟨(step_keeps h).holds, fun hs => ?_⟩, fun s z hs => ?_⟩
  · exact (setpointsHeld_nothing t).mp ((step_keeps h).setpoints ((setpointsHeld_nothing s).mpr hs))
  · rw [hs z]
    exact effectiveOf_bounds _ _ _ _

end Sys2Proof.Machine
end

section
/-! PROOFS. The queue of commands and the cold reset (chapter 10). -/

namespace Sys2Proof.Machine

/-! ## The queue of commands -/

/-- A meaning is total: it ends in a next state with RESETn high and low. -/
theorem act_total (s t : State) : ∃ u, act s t = .next u := by
  cases h : s.resetLow
  · exact ⟨t, act_of_high h t⟩
  · exact ⟨s, act_of_low h t⟩

/-- No command of the table ends in a fault or a refusal. -/
theorem exec_total (c : Instr) (s : State) : ∃ t, exec c s = .next t := by
  cases c
  case coldReset straps edge => cases edge <;> exact ⟨_, rfl⟩
  all_goals exact act_total s _

/-- Settles O60: each meaning is total, and `Keeps` carries the queue of commands along. -/
theorem stepTakesTheFrontCommand : Obligations.StepTakesTheFrontCommand := by
  refine ⟨fun s c rest h => ?_, fun s h => ?_, fun c s => ?_⟩
  · unfold step; rw [h]
  · unfold step; rw [h]
  · obtain ⟨t, ht⟩ := exec_total c s
    exact ⟨t, ht, (exec_keeps ht).waits⟩

/-! ## Cold reset -/

/-- With RESETn low no other command has an effect. -/
theorem exec_of_low {c : Instr} {s : State} (h : s.resetLow = true) (hc : ∀ b e, c ≠ .coldReset b e) :
    exec c s = .next s := by
  cases c
  case coldReset b e => exact absurd rfl (hc b e)
  all_goals exact act_of_low h _

/-- What cold reset gives the tables, entry by entry. -/
theorem cold_entries (straps : BitVec 2) (cause : ResetCause) :
    let t := State.cold straps cause
    (∀ i : Fin 8, t.money.notes[i] = { value := 0, enabled := false, changeTest := false }) ∧
    (∀ i : Fin 16, t.coins.table[i] = { value := 0, policy := .never, tube := none }) ∧
    (∀ i : TubeId, t.coins.tubes[i] =
      { cls := none, capacity := 100, fullLevel := 80, count := 0, overfill := 0, flap := .tube }) ∧
    (∀ i : Fin 96, t.vend.selections[i] = Reset.selection) ∧
    (∀ i : Fin 80, t.drive.lastDrive[i] = 0xFF) ∧
    (∀ i : Fin 3, t.cooling.probes[i].state = .noSample) ∧
    (∀ i : Fin 8, t.cabinet.schedule[i].enabled = false) ∧
    (∀ p : PortId, t.port p = Reset.port) ∧
    (∀ i : Fin 16, t.link.nodes[i] = { valid := false, node := 1, port := 0, role := .other }) ∧
    (∀ i : Fin 32, t.link.dispositions[i] =
      { enabled := false, type := 0, ports := 0, dest := .any, action := .pass }) ∧
    (∀ p : Fin 24, t.faults.places[p] = none) := by
  simp [State.cold, Reset.money, Reset.coins, Reset.vend, Reset.drive, Reset.cooling, Reset.cabinet, Reset.link,
    Reset.faults, State.port]

theorem cold_zones (straps : BitVec 2) (cause : ResetCause) (z : ZoneId) :
    let t := State.cold straps cause
    t.cooling.zones[z].differential = 20 ∧ t.cooling.zones[z].demand = false ∧
    t.cabinet.holds[z].delay = 1800 ∧ t.cabinet.holds[z].accumulator = 0 ∧ t.cabinet.holds[z].held = false := by
  fin_cases z <;> exact ⟨rfl, rfl, rfl, rfl, rfl⟩

theorem ownNode_toNat (straps : BitVec 2) : (24 + straps.setWidth 8 : Byte).toNat = 24 + straps.toNat := by
  revert straps; decide

/-- Settles O58. -/
theorem coldResetValues : Obligations.ColdResetValues := by
  refine ⟨fun s straps => ⟨rfl, rfl, fun c hc => exec_of_low rfl hc, rfl⟩, fun s straps cause => ?_⟩
  obtain ⟨hnotes, htable, htubes, hselections, hlast, hprobes, hschedule, hports, hnodes, hdispositions, hplaces⟩ :=
    cold_entries straps cause
  have hport (p : PortId) : ({ State.cold straps cause with pending := s.pending, fresh := s.fresh } : State).port p =
    Reset.port := hports p
  have hzones := cold_zones straps cause
  have hsound := (cold_sound straps cause).withPending s.pending s.fresh
  refine ⟨_, rfl, rfl, rfl, rfl, rfl, rfl, rfl, hnotes, htable, htubes, rfl, rfl, rfl, rfl, rfl, rfl, hselections,
    rfl, rfl, rfl, rfl, rfl, rfl, rfl, hlast, rfl, rfl, rfl, rfl, rfl, rfl, rfl, rfl, rfl, hprobes, rfl, rfl,
    fun z => ⟨(hzones z).1, (hzones z).2.1⟩, rfl, rfl, rfl, rfl, rfl, rfl, rfl, rfl, rfl, rfl, rfl, rfl, rfl, rfl,
    fun z => (hzones z).2.2, rfl, rfl, rfl, rfl, rfl, rfl, rfl, rfl, rfl, hschedule, fun p => ?_, hnodes, hdispositions,
    rfl, ownNode_toNat straps, rfl, hplaces, rfl, rfl, rfl, ⟨_, rfl, rfl, rfl, rfl, ?_⟩, rfl, rfl,
    hsound.balanced, hsound.cash, hsound.budget, hsound.tubes, hsound.flights, hsound.events, hsound.queue,
    hsound.places, hsound.card, hsound.queues, hsound.drive, hsound.loads, hsound.holds, hsound.setpoints,
    hsound.pending, rfl, rfl⟩
  · rw [hport p]; exact ⟨rfl, rfl, rfl, rfl, rfl, rfl, rfl, rfl⟩
  · cases cause <;> rfl

end Sys2Proof.Machine
end

section
/-! PROOFS. Rules for the statements about single commands: events raised on the way, the fields of a request, and
what a service request row answers. -/

namespace Sys2Proof.Machine

/-! ## Events -/

/-- One raised event. -/
theorem becomes_raised (u : State) (c : EventCode) (a : Byte) (v : Word) : Becomes u [(c, a, v)] (raise c a v u) :=
  becomes_raise (becomes_self u) c a v

/-- A state of which the reports alone differ has the same blocks otherwise. -/
structure SameBlocks (u t : State) : Prop where
  money : t.money = u.money
  coins : t.coins = u.coins
  vend : t.vend = u.vend
  drive : t.drive = u.drive
  supply : t.supply = u.supply
  cooling : t.cooling = u.cooling
  cabinet : t.cabinet = u.cabinet
  faults : t.faults = u.faults
  nodes : t.link.nodes = u.link.nodes
  resetLow : t.resetLow = u.resetLow

theorem Becomes.blocks {u t : State} {es : List (EventCode × Byte × Word)} (h : Becomes u es t) : SameBlocks u t := by
  obtain ⟨⟨sent, _, ht⟩, _⟩ := h
  rw [ht]
  exact ⟨rfl, rfl, rfl, rfl, rfl, rfl, rfl, rfl, rfl, rfl⟩

/-- A change that neither reads nor writes the reports may come before or after them. -/
theorem Becomes.map {u t : State} {es : List (EventCode × Byte × Word)} (h : Becomes u es t)
    (f : State → State)
    (hf : ∀ x : State, ∀ ev : EventQueue, ∀ q : Port,
      f { x with events := ev, link := { x.link with ports := x.link.ports.set 0 q } } =
        { f x with events := ev, link := { (f x).link with ports := (f x).link.ports.set 0 q } })
    (hport : ∀ x, (f x).port 0 = x.port 0) (hevents : ∀ x, (f x).events = x.events)
    (hclock : ∀ x, stamp (f x) = stamp x) : Becomes (f u) es (f t) := by
  obtain ⟨⟨sent, hsent, ht⟩, hr⟩ := h
  refine ⟨⟨sent, hsent, ?_⟩, fun room => ?_⟩
  · rw [hport u, hevents t, ht, hf]
  · rw [hevents] at room
    simp only [reports, hport, hevents, hclock] at hr ⊢
    exact hr room

theorem Becomes.mapMoney {u t : State} {es : List (EventCode × Byte × Word)} (h : Becomes u es t) (f : Money → Money) :
    Becomes (u.mapMoney f) es (t.mapMoney f) :=
  h.map (fun x => x.mapMoney f) (fun _ _ _ => rfl) (fun _ => rfl) (fun _ => rfl) fun _ => rfl

theorem Becomes.mapCoins {u t : State} {es : List (EventCode × Byte × Word)} (h : Becomes u es t) (f : Coins → Coins) :
    Becomes (u.mapCoins f) es (t.mapCoins f) :=
  h.map (fun x => x.mapCoins f) (fun _ _ _ => rfl) (fun _ => rfl) (fun _ => rfl) fun _ => rfl

theorem Becomes.mapVend {u t : State} {es : List (EventCode × Byte × Word)} (h : Becomes u es t) (f : Vend → Vend) :
    Becomes (u.mapVend f) es (t.mapVend f) :=
  h.map (fun x => x.mapVend f) (fun _ _ _ => rfl) (fun _ => rfl) (fun _ => rfl) fun _ => rfl

theorem Becomes.mapCooling {u t : State} {es : List (EventCode × Byte × Word)} (h : Becomes u es t)
    (f : Cooling → Cooling) : Becomes (u.mapCooling f) es (t.mapCooling f) :=
  h.map (fun x => x.mapCooling f) (fun _ _ _ => rfl) (fun _ => rfl) (fun _ => rfl) fun _ => rfl

/-- A command's effect with RESETn high, its events and the condition of R153 judged. -/
theorem act_becomes {s u t : State} {es : List (EventCode × Byte × Word)} (hs : s.resetLow = false)
    (h : Becomes u es t) : ∃ v, Becomes u es v ∧ act s (pump t) = .next v :=
  ⟨pump t, becomes_pump h, act_of_high hs _⟩

/-- A command without a report. -/
theorem act_silent {s : State} (hs : s.resetLow = false) (u : State) : ∃ v, Becomes u [] v ∧ act s (pump u) = .next v :=
  act_becomes hs (becomes_self u)

/-! ## The fields of a request -/

theorem byteOf_toNat {n : Nat} (h : n < 256) : (byteOf n).toNat = n := by
  simp [byteOf, BitVec.toNat_ofNat, Nat.mod_eq_of_lt h]

theorem byteOf_of_toNat (b : Byte) : byteOf b.toNat = b := by simp [byteOf]

theorem readFin_eq_some {n : Nat} (hn : n ≤ 256) {b : Byte} {i : Fin n} : readFin n b = some i ↔ b = byteOf i := by
  unfold readFin
  constructor
  · intro h
    split at h
    · cases h; exact (byteOf_of_toNat b).symm
    · cases h
  · rintro rfl
    have hi := byteOf_toNat (show i.val < 256 by omega)
    simp [hi]

theorem readFin_byteOf {n : Nat} (hn : n ≤ 256) (i : Fin n) : readFin n (byteOf i) = some i :=
  (readFin_eq_some hn).mpr rfl

theorem readFin_eq_none {n : Nat} {b : Byte} : readFin n b = none ↔ n ≤ b.toNat := by
  unfold readFin
  split <;> simp <;> omega

theorem readRange_eq_some {lo hi n m : Nat} : readRange lo hi n = some m ↔ m = n ∧ lo ≤ n ∧ n ≤ hi := by
  unfold readRange
  split <;> simp [eq_comm] <;> omega

theorem readRange_of_le {lo hi n : Nat} (h : lo ≤ n) (h' : n ≤ hi) : readRange lo hi n = some n := if_pos ⟨h, h'⟩

theorem readRange_eq_none {lo hi n : Nat} : readRange lo hi n = none ↔ n < lo ∨ hi < n := by
  unfold readRange
  split <;> simp <;> omega

@[simp] theorem half_bytes (h : Half) : half (hi8 h) (lo8 h) = h := by
  unfold half hi8 lo8
  rw [BitVec.extractLsb'_append_extractLsb'_eq_extractLsb' (by omega)]
  exact BitVec.extractLsb'_eq_self

@[simp] theorem word_bytes (w : Word) :
    word (w.extractLsb' 24 8) (w.extractLsb' 16 8) (w.extractLsb' 8 8) (w.extractLsb' 0 8) = w := by
  unfold word
  rw [BitVec.extractLsb'_append_extractLsb'_eq_extractLsb' (by omega),
    BitVec.extractLsb'_append_extractLsb'_eq_extractLsb' (by omega),
    BitVec.extractLsb'_append_extractLsb'_eq_extractLsb' (by omega)]
  exact BitVec.extractLsb'_eq_self

/-! ## Service requests -/

theorem fitted_of_short {data : List Byte} (h : data.length ≤ 38) : fitted data = data := if_pos h

theorem replyPlace_iff (s : State) : replyPlace s = true ↔ (s.port 0).state ≠ .quiet ∧ (s.port 0).tx.length < 6 := by
  simp [replyPlace]

/-- A service request row with a place for its REPLY: the request is served whole, and answered. -/
theorem request_answered {s : State} {src type : Byte} {payload : List Byte} {a : Answer} (hs : s.resetLow = false)
    (hp : replyPlace s = true) (ht : isService type = true) (ha : serve type payload s = a) (hk : a.kind = .reply) :
    act s (pump (fromController src type payload s)) = .next (answered src type a.status (fitted a.data) a.state) := by
  rw [act_of_high hs, fromController, if_neg ((replyPlace_iff s).mp hp).1, request, if_pos hp, takeRequest, if_pos ht,
    takeService, ha, sendAnswer, hk, answered]

theorem request_done {s u : State} {src type : Byte} {payload data : List Byte} (hs : s.resetLow = false)
    (hp : replyPlace s = true) (ht : isService type = true) (ha : serve type payload s = done data u)
    (hd : data.length ≤ 38) :
    act s (pump (fromController src type payload s)) = .next (answered src type .done data u) := by
  rw [request_answered hs hp ht ha rfl, done, fitted_of_short hd]

theorem request_refused {s : State} {src type : Byte} {payload : List Byte} {st : Status} (hs : s.resetLow = false)
    (hp : replyPlace s = true) (ht : isService type = true) (ha : serve type payload s = refused st s) :
    act s (pump (fromController src type payload s)) = .next (answered src type st [] s) := by
  rw [request_answered hs hp ht ha rfl, refused, fitted_of_short (by simp)]

end Sys2Proof.Machine
end

section
/-! PROOFS. The credit unit (chapter 1): coins, notes, the card session, settlements, coin return and the credit
requests. -/

namespace Sys2Proof.Machine

/-! ## Coins -/

theorem aboveCeiling_iff {v : Nat} {c : Credit} :
    aboveCeiling v c = true ↔ 2 ^ 32 ≤ c.cash.toNat + c.payout.toNat + v := by
  simp [aboveCeiling]

theorem passCash_of_ne {b : Word} {s : State} (h : s.money.credit.cash ≠ b) : passCash b s = recomputeAccept s := if_neg h

theorem passCash_of_eq {b : Word} {s : State} (h : s.money.credit.cash = b) : passCash b s = s := if_pos h

theorem add_amount_ne {w : Word} {v : Nat} (h0 : v ≠ 0) (h : v < 2 ^ 32) : w + amount v ≠ w := by
  have hv := amount_toNat h
  intro he
  have hz : amount v = 0 := by bv_omega
  rw [hz] at hv
  exact h0 (by simpa using hv.symm)

theorem creditOr_of_above {a : Byte} {v : Nat} {after : State → State} {s : State}
    (h : 2 ^ 32 ≤ s.money.credit.cash.toNat + s.money.credit.payout.toNat + v) :
    creditOr a v after s = raise .creditCeiling a (amount v) s := if_pos (aboveCeiling_iff.mpr h)

theorem creditOr_of_fits {a : Byte} {v : Nat} {after : State → State} {s : State}
    (h : s.money.credit.cash.toNat + s.money.credit.payout.toNat + v < 2 ^ 32) :
    creditOr a v after s = passCash s.money.credit.cash (after (raiseCredit (deposit v s))) :=
  if_neg fun k => absurd (aboveCeiling_iff.mp k) (by omega)

/-- The event CREDIT after a deposit. -/
theorem becomes_deposit (v : Nat) (s : State) :
    Becomes (deposit v s) [(.credit, 0, s.money.credit.cash + amount v - s.money.credit.committed)]
      (raiseCredit (deposit v s)) :=
  becomes_raised (deposit v s) _ _ _

/-- The record that ROUTE appends for a coin (R31). -/
def routed (c : Fin 16) (v : Nat) (s : State) : Flight where
  cls := c
  value := v
  chute := s.coins.table[c].tube
  route := s.coins.table[c].tube.bind fun t => if s.coins.tubes[t].flap = .tube then some t else none
  deadlineMs := 800
  number := s.coins.nextFlight

theorem route_of_free {c : Fin 16} {v : Nat} {s : State} (h : s.coins.inflight.length < 4) :
    route c v s = s.mapCoins fun k =>
      { k with inflight := k.inflight ++ [routed c v s], nextFlight := k.nextFlight + 1 } := if_pos h

theorem routed_congr {c : Fin 16} {v : Nat} {s t : State} (h : t.coins = s.coins) : routed c v t = routed c v s := by
  simp only [routed, h]

theorem route_of_full {c : Fin 16} {v : Nat} {s : State} (h : ¬ s.coins.inflight.length < 4) :
    route c v s = raise .routeUntracked (byteOf c) (amount v) s := if_neg h

theorem coinIn_of_unknown {cls : Byte} {s : State} (h : 16 ≤ cls.toNat) :
    coinIn cls s = activity .coin (raise .coinUnknown cls 0 s) := by
  simp [coinIn, readFin_eq_none.mpr h]

theorem coinIn_of_class (c : Fin 16) (s : State) :
    coinIn (byteOf c) s = activity .coin (if s.coins.table[c].value = 0 then raise .coinUnknown (byteOf c) 0 s
      else creditOr (byteOf c) s.coins.table[c].value (route c s.coins.table[c].value) s) := by
  simp [coinIn, readFin_byteOf]

/-- Settles O1: a coin of a class with a value is credited and routed, any other is reported. -/
theorem coinInCreditsRoutesOrRefuses : Obligations.CoinInCreditsRoutesOrRefuses := by
  refine ⟨fun s c hs hv hfits => ?_, fun s cls hs => ⟨fun hcls => ?_, ?_⟩⟩
  · have hd := becomes_deposit s.coins.table[c].value s
    have hcoins : (raiseCredit (deposit s.coins.table[c].value s)).coins = s.coins := hd.blocks.coins
    have hcoin : coinIn (byteOf c) s = activity .coin (passCash s.money.credit.cash
        (route c s.coins.table[c].value (raiseCredit (deposit s.coins.table[c].value s)))) := by
      rw [coinIn_of_class, if_neg hv, creditOr_of_fits hfits]
    have hpass {u t : State} {es : List (EventCode × Byte × Word)} (h : Becomes u es t)
        (hu : u.money = (deposit s.coins.table[c].value s).money) :
        passCash s.money.credit.cash t = recomputeAccept t :=
      passCash_of_ne (by rw [h.blocks.money, hu]; exact add_amount_ne hv (by omega))
    have hexec {u t : State} {es : List (EventCode × Byte × Word)} (h : Becomes u es t)
        (hu : u.money = (deposit s.coins.table[c].value s).money)
        (ht : route c s.coins.table[c].value (raiseCredit (deposit s.coins.table[c].value s)) = t) :
        ∃ t, Becomes u es t ∧ exec (.coinIn (byteOf c)) s = .next (pump (activity .coin (recomputeAccept t))) :=
      ⟨t, h, by rw [← hpass h hu, ← ht, ← hcoin]; exact act_of_high hs _⟩
    by_cases hfree : s.coins.inflight.length < 4
    · simp only [hfree, decide_true, if_true]
      refine hexec (hd.mapCoins fun k =>
        { k with inflight := k.inflight ++ [routed c s.coins.table[c].value s], nextFlight := k.nextFlight + 1 }) rfl ?_
      rw [route_of_free (by rw [hcoins]; exact hfree), routed_congr hcoins]
    · simp only [hfree, decide_false, Bool.false_eq_true, if_false]
      exact hexec (becomes_raise hd _ _ _) rfl (route_of_full (by rw [hcoins]; exact hfree))
  · exact ⟨_, becomes_raised s _ _ _, by rw [← coinIn_of_unknown hcls]; exact act_of_high hs _⟩
  · rintro c rfl
    have hexec (u : State) (hu : coinIn (byteOf c) s = activity .coin u) :
        exec (.coinIn (byteOf c)) s = .next (pump (activity .coin u)) := by
      rw [← hu]; exact act_of_high hs _
    refine ⟨fun h0 => ⟨_, becomes_raised s _ _ _, hexec _ ?_⟩, fun hv habove => ⟨_, becomes_raised s _ _ _, hexec _ ?_⟩⟩
    · rw [coinIn_of_class, if_pos h0]
    · rw [coinIn_of_class, if_neg hv, creditOr_of_above habove]

/-! ## Notes -/

theorem noteValue_eq (n : Byte) (s : State) :
    noteValue n s = ((readFin 8 n).map fun i => s.money.notes[i].value).getD 0 := by
  unfold noteValue
  cases readFin 8 n <;> rfl

/-- The five conditions of R7 and the ceiling of R2. -/
theorem noteAccepted_iff (n : Byte) (s : State) :
    noteAccepted n s = true ↔ ∃ i : Fin 8, n = byteOf i ∧ s.vend.sales = .selling ∧
      s.money.notes[i].enabled = true ∧ s.money.notes[i].value ≠ 0 ∧
      s.money.credit.cash.toNat + s.money.notes[i].value ≤ s.money.credit.limit ∧
      (s.money.notes[i].changeTest = true → changeTest s.money.notes[i].value s = true) ∧
      s.money.credit.cash.toNat + s.money.credit.payout.toNat + s.money.notes[i].value < 2 ^ 32 := by
  have hclass (i : Fin 8) : noteAccepted (byteOf i) s = true ↔ s.vend.sales = .selling ∧
      s.money.notes[i].enabled = true ∧ s.money.notes[i].value ≠ 0 ∧
      s.money.credit.cash.toNat + s.money.notes[i].value ≤ s.money.credit.limit ∧
      (s.money.notes[i].changeTest = true → changeTest s.money.notes[i].value s = true) ∧
      s.money.credit.cash.toNat + s.money.credit.payout.toNat + s.money.notes[i].value < 2 ^ 32 := by
    unfold noteAccepted
    rw [readFin_byteOf (by omega)]
    simp [aboveCeiling, and_assoc, imp_iff_not_or]
  constructor
  · intro h
    cases hn : readFin 8 n with
    | none => simp [noteAccepted, hn] at h
    | some i =>
      obtain rfl := (readFin_eq_some (by omega)).mp hn
      exact ⟨i, rfl, (hclass i).mp h⟩
  · rintro ⟨i, rfl, h⟩
    exact (hclass i).mpr h

/-- NOTE-HELD with room for a decision at the note reader's port. -/
theorem takeNoteHeld_of_room {n : Byte} {s : State} (h : ∀ m, roleEntry .noteReader s.link = some m →
    ((s.port m.port).waiting.filter isDecision).length < 4) : takeNoteHeld n s = noteHeld n s := by
  unfold takeNoteHeld
  split
  · rfl
  · exact if_neg (Nat.not_le.mpr (h _ ‹_›))

theorem takeNoteHeld_of_full {n : Byte} {m : Node} {s : State} (hm : roleEntry .noteReader s.link = some m)
    (h : 4 ≤ ((s.port m.port).waiting.filter isDecision).length) : takeNoteHeld n s = overflowDrop m.port s := by
  simp [takeNoteHeld, hm, h]

/-- Settles O2. -/
theorem noteHeldDecision : Obligations.NoteHeldDecision := by
  intro s n hs
  simp only [← noteAccepted_iff, ← noteValue_eq]
  have hexec (u : State) (hu : takeNoteHeld n s = u) : exec (.noteHeld n) s = .next (pump u) := by
    rw [← hu]; exact act_of_high hs _
  refine ⟨fun m hm hfull => hexec _ (takeNoteHeld_of_full hm hfull), fun hroom => ⟨fun hnone hstack => ?_,
    fun hnone hreturn => ?_, fun hsome => ?_⟩⟩
  · refine hexec _ ((takeNoteHeld_of_room hroom).trans ?_)
    rw [noteHeld, if_pos hnone, if_pos hstack]; rfl
  · refine hexec _ ((takeNoteHeld_of_room hroom).trans ?_)
    rw [noteHeld, if_pos hnone, if_neg hreturn]; rfl
  · refine hexec _ ((takeNoteHeld_of_room hroom).trans ?_)
    rw [noteHeld, if_neg hsome]

/-- The event CREDIT for a stacked note, once the record is NONE. -/
theorem creditStacked_of_fits {u t : State} {es : List (EventCode × Byte × Word)} (h : Becomes u es t)
    (hfits : u.money.credit.cash.toNat + u.money.credit.payout.toNat + u.money.escrow.value < 2 ^ 32) :
    ∃ v, Becomes (deposit u.money.escrow.value (clearEscrow u))
        (es ++ [(.credit, 0, u.money.credit.cash + amount u.money.escrow.value - u.money.credit.committed)]) v ∧
      creditStacked t = if amount u.money.escrow.value = 0 then v else recomputeAccept v := by
  have hm : t.money = u.money := h.blocks.money
  have hd : Becomes (deposit u.money.escrow.value (clearEscrow u)) es (deposit u.money.escrow.value (clearEscrow t)) :=
    (h.mapMoney _).mapMoney _
  have hv := becomes_raise hd .credit 0 (u.money.credit.cash + amount u.money.escrow.value - u.money.credit.committed)
  refine ⟨_, hv, ?_⟩
  have hraised : raiseCredit (deposit u.money.escrow.value (clearEscrow t)) =
      raise .credit 0 (u.money.credit.cash + amount u.money.escrow.value - u.money.credit.committed)
        (deposit u.money.escrow.value (clearEscrow t)) := by
    show raise .credit 0 (available (deposit u.money.escrow.value (clearEscrow t)).money.credit) _ = _
    simp [available, deposit, clearEscrow, hm]
  have hfits' : (clearEscrow t).money.credit.cash.toNat + (clearEscrow t).money.credit.payout.toNat +
      u.money.escrow.value < 2 ^ 32 := by simpa [clearEscrow, hm] using hfits
  unfold creditStacked
  rw [hm, creditOr_of_fits hfits', id, hraised]
  have hcash : (raise .credit 0 (u.money.credit.cash + amount u.money.escrow.value - u.money.credit.committed)
      (deposit u.money.escrow.value (clearEscrow t))).money.credit.cash =
        u.money.credit.cash + amount u.money.escrow.value := by simp [deposit, clearEscrow, hm]
  have hbefore : (clearEscrow t).money.credit.cash = u.money.credit.cash := by simp [clearEscrow, hm]
  split
  · rename_i h0
    exact passCash_of_eq (by rw [hcash, hbefore, h0]; simp)
  · rename_i h0
    exact passCash_of_ne (by rw [hcash, hbefore]; intro he; exact h0 (by bv_omega))

theorem creditStacked_of_above {u t : State} {es : List (EventCode × Byte × Word)} (h : Becomes u es t)
    (habove : ¬ u.money.credit.cash.toNat + u.money.credit.payout.toNat + u.money.escrow.value < 2 ^ 32) :
    Becomes (clearEscrow u) (es ++ [(.creditCeiling, 16 + u.money.escrow.cls, amount u.money.escrow.value)])
      (creditStacked t) := by
  have hm : t.money = u.money := h.blocks.money
  unfold creditStacked
  rw [creditOr_of_above (by simp [clearEscrow, hm]; omega), hm]
  exact becomes_raise (h.mapMoney _) _ _ _

/-- NOTE-STACKED in DECIDED-STACK and in UNCERTAIN: the record's note is credited, after NOTE-LATE in UNCERTAIN. -/
theorem noteStacked_decided (n : Byte) {s : State}
    (h : s.money.escrow.state = .decidedStack ∨ s.money.escrow.state = .uncertain) :
    ∃ u, Becomes s (if s.money.escrow.state = .uncertain then
        [(.noteLate, s.money.escrow.cls, amount s.money.escrow.value)] else []) u ∧
      noteStacked n s = creditStacked u := by
  rcases h with h | h
  · exact ⟨s, by simpa [h] using becomes_self s, by simp [noteStacked, h]⟩
  · exact ⟨_, by simpa [h] using becomes_raised s _ _ _, by simp [noteStacked, h]⟩

/-- Settles O4. -/
theorem noteConfirmationsAndExpiry : Obligations.NoteConfirmationsAndExpiry := by
  refine ⟨fun s n hs => ⟨fun h => ?_, fun h => ?_, fun h => ?_⟩, fun s n hs => ⟨?_, fun h => ?_, fun h => ?_, fun h => ?_⟩⟩
  · obtain ⟨u, hu, hstacked⟩ := noteStacked_decided n h
    refine ⟨fun hfits => ?_, fun habove => ?_⟩
    · obtain ⟨v, hv, hcredit⟩ := creditStacked_of_fits hu hfits
      refine ⟨v, hv, ?_⟩
      rw [← hcredit, ← hstacked]
      exact act_of_high hs _
    · obtain ⟨v, hv, hact⟩ := act_becomes hs (creditStacked_of_above hu habove)
      rw [← hstacked] at hact
      exact ⟨v, hv, hact⟩
  · obtain ⟨v, hv, hact⟩ := act_becomes hs (becomes_raised (clearEscrow s) .noteUnexpected n 0)
    exact ⟨v, hv, by rw [← hact]; simp [exec, execNoteStacked, noteStacked, h]⟩
  · obtain ⟨v, hv, hact⟩ := act_becomes hs (becomes_raised s .noteUnexpected n 0)
    exact ⟨v, hv, by rw [← hact]; simp [exec, execNoteStacked, noteStacked, h]⟩
  · exact act_silent hs (clearEscrow s)
  · obtain ⟨v, hv, hact⟩ := act_becomes hs (becomes_raised (s.mapMoney fun m =>
      { m with escrow := { m.escrow with state := .uncertain, timerMs := 0 } }) .noteUncertain s.money.escrow.cls
      (amount s.money.escrow.value))
    exact ⟨v, hv, by rw [← hact]; simp [exec, execNoteEscrowTimerExpiry, escrowExpires, h]⟩
  · obtain ⟨v, hv, hact⟩ := act_silent hs (clearEscrow s)
    exact ⟨v, hv, by rw [← hact]; simp [exec, execNoteEscrowTimerExpiry, escrowExpires, h]⟩
  · obtain ⟨v, hv, hact⟩ := act_silent hs s
    refine ⟨v, hv, ?_⟩
    rw [← hact]
    rcases h with h | h <;> simp [exec, execNoteEscrowTimerExpiry, escrowExpires, h]

/-! ## The card session -/

theorem fundsReported_of_none {a : Half} {s : State} (h : s.money.credit.session = .none) :
    fundsReported a s = activity .card (raise .cardOpen 0 (a.setWidth 32) (s.mapCredit fun c =>
      { c with session := .opened, funds := some (a.setWidth 32), cardCommitted := 0 })) := by
  simp only [fundsReported, h]

theorem fundsReported_of_uncommitted {a : Half} {s : State} (h : s.money.credit.session = .opened)
    (h0 : s.money.credit.cardCommitted = 0) :
    fundsReported a s = activity .card (raise .cardOpen 0 (a.setWidth 32) (s.mapCredit fun c =>
      { c with funds := some (a.setWidth 32) })) := by
  simp only [fundsReported, h, h0, if_true]

/-- Settles O5. -/
theorem cardSessionFrames : Obligations.CardSessionFrames := by
  refine ⟨fun s a hs => ?_, fun s hs => ⟨fun hopen hdriving => ?_, fun hopen hidle => ?_, fun hclosed => ?_⟩⟩
  · have hexec (u : State) (hu : fundsReported a s = activity .card u) :
        exec (.funds a) s = .next (pump (activity .card u)) := by
      rw [← hu]; exact act_of_high hs _
    refine ⟨fun h => ⟨_, becomes_raised _ _ _ _, hexec _ ?_⟩, fun h h0 => ⟨_, becomes_raised _ _ _ _, hexec _ ?_⟩,
      fun h h0 => ⟨_, becomes_raised _ _ _ _, hexec _ ?_⟩, fun h => ⟨_, becomes_raised _ _ _ _, hexec _ ?_⟩⟩
    · exact fundsReported_of_none h
    · exact fundsReported_of_uncommitted h h0
    · simp only [fundsReported, h, h0, if_false]
    · simp only [fundsReported, h]
  · have hu : sessionEnds s = activity .card ((cancelWhere (fun e => decide (e.funds = .card)) .cardEnd s).mapCredit
        fun c => { c with session := .ending }) := by
      rw [sessionEnds, if_pos hopen, if_pos hdriving]
    exact (act_of_high hs _).trans (by rw [hu]; rfl)
  · refine ⟨_, becomes_raised _ _ _ _, ?_⟩
    have hu : sessionEnds s =
        activity .card (closeSession (cancelWhere (fun e => decide (e.funds = .card)) .cardEnd s)) := by
      rw [sessionEnds, if_pos hopen, if_neg (by rw [hidle]; decide)]
    exact (act_of_high hs _).trans (by rw [hu]; rfl)
  · have hu : sessionEnds s = activity .card s := by rw [sessionEnds, if_neg hclosed]
    exact (act_of_high hs _).trans (by rw [hu])

/-! ## Settlements -/

theorem isSettleOf_iff {tag : Byte} {f : Frame} :
    isSettleOf tag f = true ↔ f.type = 0x78 ∧ f.payload.head? = some tag := by
  simp [isSettleOf, typeSettle]

/-- A record that leaves takes the SETTLE of its tag with it from each pending list, and no other frame. -/
theorem dropSettlement_eq (r : Settlement) (s : State) :
    dropSettlement r s = { s with
      money := { s.money with settlements := s.money.settlements.erase r }
      link := { s.link with ports := s.link.ports.map fun q => { q with
        waiting := q.waiting.filter fun f => decide (¬ (f.type = 0x78 ∧ f.payload.head? = some r.tag)) } } } := by
  have hfilter (f : Frame) : (!isSettleOf r.tag f) = decide (¬ (f.type = 0x78 ∧ f.payload.head? = some r.tag)) := by
    rw [decide_not, Bool.decide_congr isSettleOf_iff.symm, Bool.decide_eq_true]
  have hport : Port.withoutSettle r.tag = fun q : Port => { q with
      waiting := q.waiting.filter fun f => decide (¬ (f.type = 0x78 ∧ f.payload.head? = some r.tag)) } := by
    funext q
    simp only [Port.withoutSettle, hfilter]
  rw [← hport]
  rfl

theorem findSettlement_tag {tag : Byte} {m : Money} {r : Settlement} (h : findSettlement tag m = some r) :
    r.tag = tag := by
  simpa using List.find?_some h

theorem findSettlement_none {tag : Byte} {m : Money} (h : ∀ r ∈ m.settlements, r.tag ≠ tag) :
    findSettlement tag m = none := by
  simpa [findSettlement] using h

/-- Settles O6. -/
theorem settlementRecords : Obligations.SettlementRecords := by
  refine ⟨fun s tag hs => ⟨fun r hr => ⟨fun hsent => ?_, fun hun => ?_⟩, fun hnone => ?_, fun r hr => ?_, fun hnone => ?_⟩,
    fun s src tag hs hp => ⟨fun r hr => ⟨fun hun => ?_, fun hsent => ?_⟩, fun hnone => ?_⟩⟩
  · have hu : settleAcked tag s = dropSettlement r s := by
      simp only [settleAcked, findSettlement, hr, hsent]
    obtain rfl := findSettlement_tag hr
    obtain ⟨v, hv, hact⟩ := act_silent hs (dropSettlement r s)
    rw [← hu] at hact
    rw [dropSettlement_eq] at hv
    exact ⟨v, hv, hact⟩
  · have hu : settleAcked tag s = raise .settleLate tag (amount r.amount) (dropSettlement r s) := by
      simp only [settleAcked, findSettlement, hr, hun]
    obtain rfl := findSettlement_tag hr
    obtain ⟨v, hv, hact⟩ := act_becomes hs (becomes_raised (dropSettlement r s) .settleLate r.tag (amount r.amount))
    rw [← hu] at hact
    rw [dropSettlement_eq] at hv
    exact ⟨v, hv, hact⟩
  · obtain ⟨v, hv, hact⟩ := act_becomes hs (becomes_raised s .settleUnknown tag 0)
    have hu : settleAcked tag s = raise .settleUnknown tag 0 s := by
      simp only [settleAcked, findSettlement_none hnone]
    rw [← hu] at hact
    exact ⟨v, hv, hact⟩
  · have hfound : (r.tag == tag && decide (r.state = .sent)) = true :=
      (@List.find?_some _ (fun x : Settlement => x.tag == tag && decide (x.state = .sent))) hr
    obtain rfl : r.tag = tag := by simpa using (Bool.and_eq_true_iff.mp hfound).1
    obtain ⟨v, hv, hact⟩ := act_becomes hs (becomes_raised (s.mapMoney fun m =>
      { m with settlements := m.settlements.map fun x =>
          if x = r then { x with state := .unconfirmed, timerMs := 0 } else x }) .settleUnconfirmed r.tag
      (amount r.amount))
    exact ⟨v, hv, by rw [← hact]; simp only [exec, execSettlementTimerExpiry, hr]; rfl⟩
  · have hfind : (s.money.settlements.find? fun r => r.tag == tag && decide (r.state = .sent)) = none := by
      simpa using hnone
    obtain ⟨v, hv, hact⟩ := act_silent hs s
    exact ⟨v, hv, by rw [← hact]; simp only [exec, execSettlementTimerExpiry, hfind]⟩
  · have ha : serve 0x49 [tag] s = done (byteOf r.selection :: halfOf r.amount) (dropSettlement r s) := by
      show clearSettle tag s = _
      simp only [clearSettle, findSettlement, hr, hun]
    obtain rfl := findSettlement_tag hr
    rw [dropSettlement_eq] at ha
    exact request_done hs hp rfl ha (by simp [halfOf, bytes16])
  · refine request_refused hs hp rfl ?_
    show clearSettle tag s = _
    simp only [clearSettle, findSettlement, hr, hsent]
  · refine request_refused hs hp rfl ?_
    show clearSettle tag s = _
    simp only [clearSettle, findSettlement_none hnone]

/-! ## Coin return -/

/-- What C − K is moved to by a coin return. -/
theorem coinReturn_of_zero {b : Byte} {s : State} (h : s.money.credit.cash - s.money.credit.committed = 0) :
    coinReturn b s = s := by
  unfold coinReturn
  simp only [available, h]
  rfl

/-- C falls to K, so that a coin return with something to return passes C on. -/
theorem coinReturn_of_rest {b : Byte} {s : State} (h : s.money.credit.cash - s.money.credit.committed ≠ 0) :
    coinReturn b s = start (recomputeAccept (raise .coinReturn b (s.money.credit.cash - s.money.credit.committed)
      (returnRest s))) := by
  have hcash : (raise .coinReturn b (available s.money.credit) (returnRest s)).money.credit.cash ≠
      s.money.credit.cash := by
    simp only [raise_frame, returnRest, State.mapCredit, State.mapMoney_money]
    intro he
    exact h (by rw [he]; simp)
  exact (if_neg h).trans (congrArg start (passCash_of_ne hcash))

/-- Settles O7: the lever is the same request, once a press. -/
theorem coinReturnMovesUncommittedCash : Obligations.CoinReturnMovesUncommittedCash := by
  intro s hs
  have hreturn (b : Byte) (s' : State) (h : s'.money.credit.cash - s'.money.credit.committed ≠ 0) :
      ∃ t, Becomes (returnRest s') [(.coinReturn, b, s'.money.credit.cash - s'.money.credit.committed)] t ∧
        act s (pump (coinReturn b s')) = .next (pump (start (recomputeAccept t))) :=
    ⟨_, becomes_raised _ _ _ _, by rw [coinReturn_of_rest h]; exact act_of_high hs _⟩
  have hpress (h : s.money.leverArmed = true) : exec .coinReturnLeverPress s =
      act s (pump (coinReturn 1 (s.mapMoney fun m => { m with leverArmed := false }))) := by
    simp only [exec, execCoinReturnLeverPress, h, if_true]
  refine ⟨fun hr => hreturn 0 s hr, fun h0 => ?_, fun harmed hr => ?_, fun harmed h0 => ?_, fun harmed => ?_,
    act_silent hs _⟩
  · have hzero : exec .creditReturn s = act s (pump s) := congrArg (fun u => act s (pump u)) (coinReturn_of_zero h0)
    rw [hzero]
    exact act_silent hs s
  · rw [hpress harmed]
    exact hreturn 1 (s.mapMoney fun m => { m with leverArmed := false }) hr
  · have hzero := (@coinReturn_of_zero 1 (s.mapMoney fun m => { m with leverArmed := false })) h0
    rw [hpress harmed, hzero]
    exact act_silent hs _
  · obtain ⟨v, hv, hact⟩ := act_silent hs s
    exact ⟨v, hv, by rw [← hact]; simp [exec, execCoinReturnLeverPress, harmed]⟩

/-! ## Credit requests -/

theorem writeCreditSettings_done {index mode : Byte} {limit : Half} {m : VendMode} {s : State}
    (hm : readVendMode mode = some m) (hl : limit.toNat ≤ 60000) (hi : index = 0) :
    writeCreditSettings index limit mode s = done [0x07, 0]
      (recomputeAccept (s.mapCredit fun c => { c with limit := limit.toNat, vendMode := m })) := by
  subst hi
  simp [writeCreditSettings, readZero, hm, readRange_of_le (Nat.zero_le _) hl, written]

theorem writeCreditSettings_refused {index mode : Byte} {limit : Half} {s : State}
    (h : readVendMode mode = none ∨ 60000 < limit.toNat ∨ index ≠ 0) :
    writeCreditSettings index limit mode s = refused .range s := by
  unfold writeCreditSettings
  rcases h with hm | hl | hi
  · cases readZero index <;> cases readRange 0 60000 limit.toNat <;> simp [hm, written]
  · cases readZero index <;> simp [readRange_eq_none.mpr (.inr hl), written]
  · have hzero : readZero index = none := if_neg hi
    simp [hzero, written]

/-- Settles O8. -/
theorem creditClearAndSettings : Obligations.CreditClearAndSettings := by
  intro s src index mode limit hs hp
  have hwrite : serve 0x40 ([0x07, index] ++ bytes16 limit ++ [mode]) s = writeCreditSettings index limit mode s := by
    show writeCreditSettings index (half (hi8 limit) (lo8 limit)) mode s = _
    rw [half_bytes]
  refine ⟨fun h => ?_, fun h hq => ?_, fun h hq => ?_, fun m hm hl hi => ?_, fun h => ?_⟩
  · refine request_refused hs hp rfl ?_
    exact if_pos h
  · refine request_refused hs hp rfl ?_
    exact (if_neg (not_not.mpr h)).trans (if_pos hq)
  · refine request_done hs hp rfl ?_ (by simp [bytes32])
    exact (if_neg (not_not.mpr h)).trans (if_neg (not_not.mpr hq))
  · exact request_done hs hp rfl (hwrite.trans (writeCreditSettings_done hm hl hi)) (by simp)
  · exact request_refused hs hp rfl (hwrite.trans (writeCreditSettings_refused h))

end Sys2Proof.Machine
end

section
/-! PROOFS. The coin path (chapter 2): change assurance, the payout engine, the sensors and flaps, and the tube
requests. -/

namespace Sys2Proof.Machine

/-! ## Change assurance (R47) -/

/-- A tube of the smallest value among the eligible ones. -/
structure Smallest (s : State) (t : TubeId) : Prop where
  eligible : eligible [] s t = true
  least : ∀ u, Machine.eligible [] s u = true → tubeValue t s.coins ≤ tubeValue u s.coins

theorem mem_positionValues {s : State} {g : Nat} :
    g ∈ (positions [] s).map (·.value) ↔ ∃ t, eligible [] s t = true ∧ tubeValue t s.coins = g := by
  simp only [List.mem_map, mem_positions]
  constructor
  · rintro ⟨p, ⟨hp, hv, _⟩, rfl⟩
    exact ⟨p.tube, hp, hv.symm⟩
  · rintro ⟨t, ht, rfl⟩
    exact ⟨positionOf s t, ⟨ht, rfl, rfl⟩, rfl⟩

theorem smallestValue_of_smallest {s : State} {t : TubeId} (h : Smallest s t) :
    smallestValue (positions [] s) = some (tubeValue t s.coins) := by
  refine List.min?_eq_some_iff.mpr ⟨mem_positionValues.mpr ⟨t, h.eligible, rfl⟩, fun g hg => ?_⟩
  obtain ⟨u, hu, rfl⟩ := mem_positionValues.mp hg
  exact h.least u hu

theorem smallestValue_of_none {s : State} (h : ∀ t, eligible [] s t = false) :
    smallestValue (positions [] s) = none := by
  refine List.min?_eq_none_iff.mpr (List.eq_nil_iff_forall_not_mem.mpr fun g hg => ?_)
  obtain ⟨u, hu, _⟩ := mem_positionValues.mp hg
  rw [h u] at hu
  cases hu

/-- Some eligible tube has the smallest value. -/
theorem exists_smallest {s : State} {t : TubeId} (h : eligible [] s t = true) : ∃ u, Smallest s u := by
  obtain ⟨u, hu, hleast⟩ := Finset.exists_min_image (Finset.univ.filter fun u => eligible [] s u = true)
    (fun u => tubeValue u s.coins) ⟨t, by simpa using h⟩
  exact ⟨u, by simpa using hu, fun v hv => hleast v (by simpa using hv)⟩

theorem shortfall_of_zero {s : State} (h : s.coins.ceiling = 0) : shortfall s = none := if_pos h

theorem shortfall_of_none {s : State} (hc : s.coins.ceiling ≠ 0) (h : ∀ t, eligible [] s t = false) :
    shortfall s = some s.coins.ceiling := by
  unfold shortfall
  rw [if_neg hc]
  simp only [smallestValue_of_none h]

/-- With an eligible tube the judgement is by the multiples of the smallest value. -/
theorem shortfall_of_smallest {s : State} {t : TubeId} (hc : s.coins.ceiling ≠ 0) (h : Smallest s t) :
    shortfall s = ((List.range (s.coins.ceiling / tubeValue t s.coins)).find? fun k =>
      decide ((payoutPlan [] ((k + 1) * tubeValue t s.coins) s).2 ≠ 0)).map fun k => (k + 1) * tubeValue t s.coins := by
  unfold shortfall
  rw [if_neg hc]
  simp only [smallestValue_of_smallest h, firstFailing, List.find?_map]
  rfl

theorem shortfall_of_failing {s : State} {t : TubeId} {k : Nat} (hc : s.coins.ceiling ≠ 0) (h : Smallest s t)
    (h1 : 1 ≤ k) (hk : k ≤ s.coins.ceiling / tubeValue t s.coins)
    (hfail : (payoutPlan [] (k * tubeValue t s.coins) s).2 ≠ 0)
    (hpass : ∀ j, 1 ≤ j → j < k → (payoutPlan [] (j * tubeValue t s.coins) s).2 = 0) :
    shortfall s = some (k * tubeValue t s.coins) := by
  obtain ⟨j, rfl⟩ : ∃ j, k = j + 1 := ⟨k - 1, by omega⟩
  rw [shortfall_of_smallest hc h, List.find?_range_eq_some.mpr ⟨by simpa using hfail, by simpa using hk, ?_⟩]
  · rfl
  · intro i hi
    simpa using hpass (i + 1) (by omega) (by omega)

/-- What R47 asks for ASSURED. -/
def AssuredBy (s : State) : Prop :=
  s.coins.ceiling = 0 ∨ ∃ t, Smallest s t ∧
    ∀ k, 1 ≤ k → k ≤ s.coins.ceiling / tubeValue t s.coins → (payoutPlan [] (k * tubeValue t s.coins) s).2 = 0

theorem shortfall_isNone_iff (s : State) : (shortfall s).isNone = true ↔ AssuredBy s := by
  by_cases hc : s.coins.ceiling = 0
  · simp [shortfall_of_zero hc, AssuredBy, hc]
  by_cases he : ∃ t, eligible [] s t = true
  · obtain ⟨t, ht⟩ := he
    obtain ⟨u, hu⟩ := exists_smallest ht
    have hmin (v : TubeId) (hv : Smallest s v) : tubeValue v s.coins = tubeValue u s.coins :=
      Nat.le_antisymm (hv.least u hu.eligible) (hu.least v hv.eligible)
    rw [shortfall_of_smallest hc hu, Option.isNone_map, Option.isNone_iff_eq_none, List.find?_range_eq_none]
    constructor
    · refine fun h => .inr ⟨u, hu, fun k h1 hk => ?_⟩
      have := h (k - 1) (by omega)
      rw [Nat.sub_add_cancel h1] at this
      simpa using this
    · rintro (h0 | ⟨v, hv, h⟩) k hk
      · exact absurd h0 hc
      · rw [← hmin v hv] at hk ⊢
        simpa using h (k + 1) (by omega) (by omega)
  · have hnone (t : TubeId) : eligible [] s t = false := by
      by_contra h
      exact he ⟨t, by simpa using h⟩
    rw [shortfall_of_none hc hnone]
    simp only [Option.isNone_some, Bool.false_eq_true, false_iff]
    rintro (h0 | ⟨v, hv, _⟩)
    · exact hc h0
    · exact he ⟨v, hv.eligible⟩

theorem evaluateAssurance_of_same {s : State} (h : (shortfall s).isNone = s.coins.assured) : evaluateAssurance s = s :=
  if_pos h

theorem evaluateAssurance_of_change {s : State} (h : (shortfall s).isNone ≠ s.coins.assured) :
    evaluateAssurance s = recomputeAccept (raise .assurance (if (shortfall s).isNone then 1 else 0)
      (amount ((shortfall s).getD 0)) (s.mapCoins fun c => { c with assured := (shortfall s).isNone })) := if_neg h

theorem issueAccept_assured (s : State) : (issueAccept s).coins.assured = s.coins.assured := by
  simp [issueAccept]

theorem recomputeAccept_assured (s : State) : (recomputeAccept s).coins.assured = s.coins.assured := by
  unfold recomputeAccept
  split
  · exact issueAccept_assured s
  · rfl

theorem evaluateAssurance_assured (s : State) : (evaluateAssurance s).coins.assured = (shortfall s).isNone := by
  by_cases h : (shortfall s).isNone = s.coins.assured
  · rw [evaluateAssurance_of_same h, h]
  · rw [evaluateAssurance_of_change h, recomputeAccept_assured]
    simp

/-- An evaluation that gives another state. -/
theorem evaluateAssurance_changed {s : State} {now : Bool} {value : Nat} (hnow : s.coins.assured ≠ now)
    (h : shortfall s = if now then none else some value) (hv : now = true → value = 0) :
    ∃ u, Becomes { s with coins := { s.coins with assured := now } }
        [(.assurance, if now then 1 else 0, amount value)] u ∧ evaluateAssurance s = recomputeAccept u := by
  refine ⟨_, becomes_raised _ _ _ _, ?_⟩
  cases now with
  | true =>
    have h : shortfall s = none := h
    rw [hv rfl, evaluateAssurance_of_change (by rw [h]; exact hnow.symm), h]
    rfl
  | false =>
    have h : shortfall s = some value := h
    rw [evaluateAssurance_of_change (by rw [h]; exact hnow.symm), h]
    rfl

/-- Settles O11. -/
theorem assuranceByMultiplesOfSmallestValue : Obligations.AssuranceByMultiplesOfSmallestValue := by
  intro s ok smallest changed
  have hok : ok ↔ AssuredBy s :=
    or_congr_right (exists_congr fun t => ⟨fun ⟨h1, h2, h3⟩ => ⟨⟨h1, h2⟩, h3⟩, fun ⟨⟨h1, h2⟩, h3⟩ => ⟨h1, h2, h3⟩⟩)
  refine ⟨?_, fun h => ?_, fun hno h => ?_, fun hyes hc hnone => ?_, fun t k hyes ht h1 hk hfail hpass => ?_⟩
  · rw [evaluateAssurance_assured, hok, shortfall_isNone_iff]
  · refine evaluateAssurance_of_same (Bool.eq_iff_iff.mpr ?_)
    rw [shortfall_isNone_iff, ← hok, h]
  · have hshort := Option.isNone_iff_eq_none.mp ((shortfall_isNone_iff s).mpr (hok.mp h))
    exact evaluateAssurance_changed (by rw [hno]; decide) hshort fun _ => rfl
  · exact evaluateAssurance_changed (by rw [hyes]; decide) (shortfall_of_none hc hnone) (by simp)
  · have hc : s.coins.ceiling ≠ 0 := by
      rintro h0
      rw [h0, Nat.zero_div] at hk
      omega
    exact evaluateAssurance_changed (by rw [hyes]; decide)
      (shortfall_of_failing hc ⟨ht.1, ht.2⟩ h1 hk hfail hpass) (by simp)

/-! ## The beginning and the end of a run (R40 to R45) -/

theorem start_of_running {s : State} (h : s.coins.engine.phase ≠ .idle) :
    start s = s.mapEngine fun e => { e with startWaiting := e.startWaiting || e.manual } := by
  unfold start
  rw [if_neg h]
  split
  · rename_i hm
    simp [State.mapEngine, State.mapCoins, hm]
  · rename_i hm
    have hsame : (s.coins.engine.startWaiting || s.coins.engine.manual) = s.coins.engine.startWaiting := by simp [hm]
    show s = s.mapEngine fun e => { e with startWaiting := s.coins.engine.startWaiting || s.coins.engine.manual }
    rw [hsame]
    rfl

theorem planRun_of_plan {excluded : List TubeId} {done : Word} {s : State} {e : TubeId × Nat}
    {rest : List (TubeId × Nat)} (h : (payoutPlan excluded s.money.credit.payout.toNat s).1 = e :: rest) :
    planRun excluded done s = s.mapEngine fun _ =>
      { manual := false, phase := .pulse, timerMs := 40, plan := e :: rest,
        remainder := amount (payoutPlan excluded s.money.credit.payout.toNat s).2, current := some e.1,
        excluded := excluded, paid := done, startWaiting := false } := by
  unfold planRun
  simp only [h]
  rfl

theorem planRun_of_empty {excluded : List TubeId} {done : Word} {s : State}
    (h : (payoutPlan excluded s.money.credit.payout.toNat s).1 = []) : planRun excluded done s = endShort done s := by
  unfold planRun
  simp only [h]

/-- UNPAID passes C on when the amount is not 0. -/
theorem unpaid_eq (a : Word) (s : State) :
    unpaid a s =
      let v := raiseCredit (s.mapCredit fun c => { c with payout := c.payout - a, cash := c.cash + a })
      if a = 0 then v else recomputeAccept v := by
  unfold unpaid
  simp only []
  split
  · rename_i h0
    exact passCash_of_eq (by simp [raiseCredit, State.mapCredit, h0])
  · rename_i h0
    refine passCash_of_ne ?_
    simp only [raiseCredit_frame, State.mapCredit, State.mapMoney_money]
    intro he
    exact h0 (by bv_omega)

/-- Settles O13. -/
theorem startPlansPendingPayout : Obligations.StartPlansPendingPayout := by
  intro s excluded done
  refine ⟨fun h hq => ?_, fun h hq => ?_, fun h => start_of_running h, fun e rest h => planRun_of_plan h, fun h => ?_⟩
  · exact (if_pos h).trans (if_neg hq)
  · exact (if_pos h).trans (if_pos hq)
  · refine ⟨_, _, becomes_raised _ _ _ _, becomes_raise (becomes_raised _ _ _ _) _ _ _, ?_⟩
    rw [planRun_of_empty h, endShort, unpaid_eq]
    have hq : s.money.credit.payout - s.money.credit.payout = 0 := BitVec.sub_self _
    simp only [State.mapCredit, State.mapMoney, hq]
    rfl

/-! ## What a fault report leaves of the run -/

theorem recomputeAccept_engine (s : State) : (recomputeAccept s).coins.engine = s.coins.engine := by
  unfold recomputeAccept
  split
  · simp [issueAccept]
  · rfl

theorem evaluateAssurance_engine (s : State) : (evaluateAssurance s).coins.engine = s.coins.engine := by
  unfold evaluateAssurance
  simp only []
  split
  · rfl
  · rw [recomputeAccept_engine]; simp

theorem setFlap_engine (t : TubeId) (s : State) : (setFlap t s).coins.engine = s.coins.engine := by
  unfold setFlap
  split <;> rfl

theorem tubeChanged_engine (t : TubeId) (s : State) : (tubeChanged t s).coins.engine = s.coins.engine :=
  (evaluateAssurance_engine _).trans (setFlap_engine t s)

theorem enterSales_engine (n : SalesState) (s : State) : (enterSales n s).coins.engine = s.coins.engine := by
  unfold enterSales
  simp only []
  split <;> simp [recomputeAccept_engine]

theorem suspendCheck_engine (s : State) : (suspendCheck s).coins.engine = s.coins.engine := by
  unfold suspendCheck
  split
  · split
    · rfl
    · exact enterSales_engine _ s
  · split
    · exact enterSales_engine _ s
    · rfl
  all_goals rfl

theorem isolationBegins_engine (i : Item) (s : State) : (isolationBegins i s).coins.engine = s.coins.engine := by
  unfold isolationBegins
  split
  · exact tubeChanged_engine _ s
  all_goals simp

theorem report_engine (k : FaultKind) (n : Nat) (s : State) : (report k n s).coins.engine = s.coins.engine := by
  unfold report
  split
  · split
    · simp
    · rfl
  · split
    · unfold storeFault
      simp only [suspendCheck_engine]
      split
      · simp
      · split
        · rw [isolationBegins_engine]; simp
        · simp
    · unfold loseFault
      rw [suspendCheck_engine]; simp

/-! ## The engine's cycle (R39 to R45) -/

theorem solenoid_of_high {s : State} (h : s.resetLow = false) :
    (outputs s).solenoid = if s.coins.engine.phase = .pulse then s.coins.engine.current else none := by
  rw [outputs_of_high h]; rfl

theorem confirmCoin_state (t : TubeId) (s : State) :
    confirmCoin t s = tubeChanged t
      { s with
        coins := { s.coins with
          engine := { s.coins.engine with
            phase := .gap, timerMs := 120, plan := loseCoin s.coins.engine.plan
            paid := s.coins.engine.paid + amount (tubeValue t s.coins) }
          tubes := s.coins.tubes.set t { s.coins.tubes[t] with count := s.coins.tubes[t].count - 1 } }
        money := if s.coins.engine.manual
          then { s.money with totals := { s.money.totals with
            manual := s.money.totals.manual + amount (tubeValue t s.coins) } }
          else { s.money with
            credit := { s.money.credit with payout := s.money.credit.payout - amount (tubeValue t s.coins) }
            totals := { s.money.totals with paid := s.money.totals.paid + amount (tubeValue t s.coins) } } } := by
  rw [confirmCoin_eq]
  split <;> rfl

/-- The end of a manual run: PAYOUT-DONE, then the run that START has asked for, or IDLE. -/
theorem endManual_eq (s : State) :
    ∃ w, Becomes s [(.payoutDone, 1, s.coins.engine.paid)] w ∧
      endManual s = if s.coins.engine.startWaiting = true ∧ s.money.credit.payout ≠ 0 then planRun [] 0 w
        else { w with coins := { w.coins with engine := Reset.engine } } := by
  refine ⟨_, becomes_raised s _ _ _, ?_⟩
  unfold endManual runOrIdle
  simp only [raise_frame]
  by_cases hw : s.coins.engine.startWaiting = true
  · by_cases hq : s.money.credit.payout = 0
    · simp only [hw, hq, if_true, ne_eq, not_true_eq_false, and_false, if_false]; rfl
    · simp only [hw, hq, if_true, if_false, ne_eq, not_false_eq_true, and_self]
  · simp only [hw, false_and, if_false]; rfl

/-- The end of a plan: its remainder given back, PAYOUT-DONE, then the next run while Q is above 0. -/
theorem endPlan_eq (s : State) :
    ∃ v w, (if s.coins.engine.remainder = 0 then v = s
        else v = raise .changeShort 0 s.coins.engine.remainder (unpaid s.coins.engine.remainder s)) ∧
      Becomes v [(.payoutDone, 0, s.coins.engine.paid)] w ∧
      endPlan s = if v.money.credit.payout = 0 then { w with coins := { w.coins with engine := Reset.engine } }
        else planRun [] 0 w := by
  have hrun (v : State) : runOrIdle (raise .payoutDone 0 s.coins.engine.paid v) =
      if v.money.credit.payout = 0 then
        engineIdle (raise .payoutDone 0 s.coins.engine.paid v)
      else planRun [] 0 (raise .payoutDone 0 s.coins.engine.paid v) := by
    simp only [runOrIdle, raise_frame]
  by_cases h0 : s.coins.engine.remainder = 0
  · refine ⟨s, _, by rw [if_pos h0], becomes_raised s _ _ _, ?_⟩
    unfold endPlan
    simp only [h0, if_true]
    exact hrun s
  · refine ⟨_, _, by rw [if_neg h0], becomes_raised _ _ _ _, ?_⟩
    unfold endPlan
    simp only [h0, if_false]
    exact hrun _

/-- Settles O14. -/
theorem payoutCycle : Obligations.PayoutCycle := by
  refine ⟨fun s hs => ⟨solenoid_of_high hs, fun h => ?_, fun h => ?_, fun t hphase ht => ?_, fun h => ?_⟩,
    fun s hs => ?_⟩
  · have hexec : exec .solenoidPulseEnd s = act s (pump (s.mapEngine fun e =>
        { e with phase := .exitWait, timerMs := exitWaitMs })) := by
      simp only [exec, execSolenoidPulseEnd, h, if_true]
    rw [hexec]
    exact act_silent hs _
  · have hexec : exec .solenoidPulseEnd s = act s (pump s) := by
      simp only [exec, execSolenoidPulseEnd, h, if_false]
    rw [hexec]
    exact act_silent hs _
  · have hexec : exec .exitPulse s = act s (pump (confirmCoin t s)) := by
      simp only [exec, execExitPulse, hphase, ht]
    rw [hexec, confirmCoin_state]
    exact act_of_high hs _
  · have hexec : exec .exitPulse s = act s (pump (raise .strayExit (straySubject s.coins.engine) 0 s)) := by
      simp only [exec, execExitPulse]
      split
      · rename_i hp hc
        rcases h with h | h
        · exact absurd hp h
        · rw [hc] at h; cases h
      · rfl
    rw [hexec]
    exact act_becomes hs (becomes_raised s _ _ _)
  · have hended (u : State) (he : u.coins.engine = s.coins.engine) :
        ∃ v, (∃ w, Becomes u [(.payoutDone, 1, s.coins.engine.paid)] w ∧
            v = pump (if s.coins.engine.startWaiting = true ∧ u.money.credit.payout ≠ 0 then planRun [] 0 w
              else { w with coins := { w.coins with engine := Reset.engine } })) ∧
          act s (pump (endManual u)) = .next v := by
      obtain ⟨w, hw, heq⟩ := endManual_eq u
      rw [he] at hw heq
      exact ⟨_, ⟨w, hw, rfl⟩, by rw [heq]; exact act_of_high hs _⟩
    have hgap (h : s.coins.engine.phase = .gap) : exec .gapEnd s = act s (pump (nextCoin s)) := by
      simp only [exec, execGapEnd, h, if_true]
    refine ⟨fun t hphase ht => ⟨fun hm => ?_, fun hm => ?_⟩, fun h => ?_, fun h => ?_, fun t n rest hphase hplan =>
      ⟨fun hj => ?_, fun hj hm => ?_, fun hj hm => ?_⟩, fun hphase hplan => ⟨fun hm => ?_, fun hm => ?_⟩⟩
    · have hexec : exec .exitWaitExpiry s =
          act s (pump (planRun (s.coins.engine.excluded ++ [t]) s.coins.engine.paid (report .tubeJam t s))) := by
        simp only [exec, execExitWaitExpiry, hphase, ht, hm, Bool.false_eq_true, if_false]
      rw [hexec]
      exact act_of_high hs _
    · have hexec : exec .exitWaitExpiry s = act s (pump (endManual (report .tubeJam t s))) := by
        simp only [exec, execExitWaitExpiry, hphase, ht, hm, if_true]
      rw [hexec]
      exact hended _ (report_engine _ _ s)
    · have hexec : exec .exitWaitExpiry s = act s (pump s) := by
        simp only [exec, execExitWaitExpiry]
        split
        · rename_i hp hc
          exact absurd hp h
        · rfl
      rw [hexec]
      exact act_silent hs _
    · have hexec : exec .gapEnd s = act s (pump s) := by
        simp only [exec, execGapEnd, h, if_false]
      rw [hexec]
      exact act_silent hs _
    · have hnext : nextCoin s = s.mapEngine fun e => { e with phase := .pulse, timerMs := pulseMs, current := some t } := by
        simp only [nextCoin, hplan, beginCoin, hj, Bool.false_eq_true, if_false]
      rw [hgap hphase, hnext]
      exact act_silent hs _
    · have hnext : nextCoin s = planRun (s.coins.engine.excluded ++ [t]) s.coins.engine.paid s := by
        simp only [nextCoin, hplan, beginCoin, hj, if_true, hm, Bool.false_eq_true, if_false]
      rw [hgap hphase, hnext]
      exact act_of_high hs _
    · have hnext : nextCoin s = endManual s := by
        simp only [nextCoin, hplan, beginCoin, hj, if_true, hm]
      rw [hgap hphase, hnext]
      exact hended s rfl
    · have hnext : nextCoin s = endManual s := by
        simp only [nextCoin, hplan, hm, if_true]
      rw [hgap hphase, hnext]
      exact hended s rfl
    · have hnext : nextCoin s = endPlan s := by
        simp only [nextCoin, hplan, hm, Bool.false_eq_true, if_false]
      rw [hgap hphase, hnext]
      obtain ⟨v, w, hv, hw, heq⟩ := endPlan_eq s
      exact ⟨v, w, hv, hw, by rw [heq]; exact act_of_high hs _⟩

end Sys2Proof.Machine
end

section
/-! PROOFS. The coin sensors, the flaps and the tube requests (R28 to R34, R45). -/

namespace Sys2Proof.Machine

/-- The sensors' view of a record in the list: found by its route, it is taken off and its chute looked at. -/
structure Claimed (route : Option TubeId) (r : Flight) (s : State) : Prop where
  held : hasFlight route s = true
  removed : claimFlight route s =
    chuteFreed r.chute { s with coins := { s.coins with inflight := s.coins.inflight.erase r } }

theorem claimed_of_find {route : Option TubeId} {r : Flight} {s : State}
    (h : s.coins.inflight.find? (fun x => decide (x.route = route)) = some r) : Claimed route r s := by
  refine ⟨?_, ?_⟩
  · exact List.any_eq_true.mpr ⟨r, List.mem_of_find?_eq_some h, (@List.find?_some _ (fun x : Flight => decide (x.route = route))) h⟩
  · unfold claimFlight
    simp only [h]
    rfl

theorem not_hasFlight_of_find {route : Option TubeId} {s : State}
    (h : s.coins.inflight.find? (fun x => decide (x.route = route)) = none) : ¬ hasFlight route s = true := by
  rw [List.find?_eq_none] at h
  rw [hasFlight, List.any_eq_true]
  rintro ⟨x, hx, hroute⟩
  exact h x hx hroute

theorem chuteBusy_iff {t : TubeId} {c : Coins} : chuteBusy t c = true ↔ ∃ r ∈ c.inflight, r.chute = some t := by
  simp [chuteBusy]

/-- A tube entry pulse with the record of its route claimed, or reported without one. -/
theorem tinPulse_eq (t : TubeId) (s : State) :
    exec (.tinPulse t) s =
      let tube := s.coins.tubes[t]
      let u := if hasFlight (some t) s = true then claimFlight (some t) s
        else raise .unclaimedCoin (byteOf t)
          (amount (if tube.capacity ≤ tube.count then tube.count else tube.count + 1)) s
      act s (pump (if tube.capacity ≤ tube.count then
          report .tubeOverfill t (u.mapTube t fun x => { x with overfill := min 255 (x.overfill + 1) })
        else tubeChanged t (u.mapTube t fun x => { x with count := x.count + 1 }))) := by
  simp only [exec, execTinPulse, decide_eq_true_eq, saturate]

/-- Settles O15. -/
theorem coinSensorsDeadlinesAndFlaps : Obligations.CoinSensorsDeadlinesAndFlaps := by
  refine ⟨fun s t hs => ⟨fun r hr => ?_, fun hnone => ?_, fun r hr => ?_, fun hnone => ?_⟩,
    fun s n t hs => ⟨fun r hr => ?_, fun hnone => ?_, ?_, rfl, rfl, ?_⟩⟩
  · obtain ⟨hheld, hremoved⟩ := claimed_of_find hr
    rw [tinPulse_eq]
    simp only [hheld, if_true, hremoved]
    exact act_of_high hs _
  · refine ⟨_, becomes_raised _ _ _ _, ?_⟩
    rw [tinPulse_eq]
    simp only [not_hasFlight_of_find hnone]
    exact act_of_high hs _
  · obtain ⟨hheld, hremoved⟩ := claimed_of_find hr
    have hexec : exec .cbinPulse s = act s (pump (claimFlight none s)) := by
      simp only [exec, execCbinPulse, hheld, if_true]
    rw [hexec, hremoved]
    exact act_of_high hs _
  · have hexec : exec .cbinPulse s = act s (pump (raise .unclaimedCoin 6 0 s)) := by
      simp only [exec, execCbinPulse, not_hasFlight_of_find hnone]
      rfl
    rw [hexec]
    exact act_becomes hs (becomes_raised s _ _ _)
  · have hcode : (tubeCode r.route).toNat = (r.route.map Fin.val).getD 6 := by
      cases r.route with
      | none => rfl
      | some u => exact byteOf_toNat (by omega)
    have hexec : exec (.routeDeadlineExpiry n) s = act s (pump (report .routeLost (tubeCode r.route).toNat
        (chuteFreed r.chute (s.mapCoins fun c => { c with inflight := c.inflight.erase r })))) := by
      simp only [exec, execRouteDeadlineExpiry, hr]
    rw [hexec, hcode]
    exact act_of_high hs _
  · have hfind : s.coins.inflight.find? (fun x => decide (x.number = n)) = none := by
      simpa using hnone
    have hexec : exec (.routeDeadlineExpiry n) s = act s (pump s) := by
      simp only [exec, execRouteDeadlineExpiry, hfind]
    rw [hexec]
    exact act_silent hs s
  · show setFlap t s = _
    unfold setFlap
    simp only [chuteBusy_iff]
    rfl
  · rw [outputs_of_high hs]
    exact Vector.getElem_map _ _

/-! ## TUBE-SET and TUBE-DISPENSE -/

theorem setTube_of_mode {tube n : Byte} {s : State} (h : s.vend.sales ≠ .service) :
    setTube tube n s = refused .mode s := if_pos h

theorem setTube_of_absent {tube n : Byte} {s : State} (h : s.vend.sales = .service) (ht : readFin 6 tube = none) :
    setTube tube n s = refused .range s := by
  simp [setTube, h, ht]

theorem setTube_of_tube {t : TubeId} {n : Byte} {s : State} (h : s.vend.sales = .service) :
    setTube (byteOf t) n s =
      if s.coins.tubes[t].capacity < n.toNat then refused .range s
      else if s.coins.engine.phase ≠ .idle then refused .busy s
      else done [] (tubeChanged t (s.mapTube t fun x => { x with count := n.toNat, overfill := 0 })) := by
  simp [setTube, h, readFin_byteOf]

theorem dispense_of_mode {tube n : Byte} {s : State} (h : s.vend.sales ≠ .service) :
    dispense tube n s = refused .mode s := if_pos h

theorem dispense_of_absent {tube n : Byte} {s : State} (h : s.vend.sales = .service)
    (ht : readFin 6 tube = none ∨ n.toNat < 1 ∨ 50 < n.toNat) : dispense tube n s = refused .range s := by
  unfold dispense
  rw [if_neg (not_not.mpr h)]
  rcases ht with ht | hn
  · simp only [ht]
  · cases readFin 6 tube <;> simp only [readRange_eq_none.mpr hn]

theorem dispense_of_tube {t : TubeId} {n : Byte} {s : State} (h : s.vend.sales = .service) (h1 : 1 ≤ n.toNat)
    (h50 : n.toNat ≤ 50) :
    dispense (byteOf t) n s =
      if s.coins.tubes[t].count < n.toNat then refused .range s
      else if s.coins.engine.phase ≠ .idle then refused .busy s
      else if tubeValue t s.coins = 0 then refused .conflict s
      else if jammed t s then refused .notReady s
      else done [] (s.mapEngine fun _ =>
        { manual := true, phase := .pulse, timerMs := 40, plan := [(t, n.toNat)], remainder := 0,
          current := some t, excluded := [], paid := 0, startWaiting := false }) := by
  unfold dispense
  simp only [h, not_true_eq_false, if_false, ne_eq, readFin_byteOf (show 6 ≤ 256 by omega), readRange_of_le h1 h50]
  rfl

/-- Settles O16. -/
theorem tubeSetAndDispense : Obligations.TubeSetAndDispense := by
  intro s src tube n hs hp setRange giveRange
  have hset {st : Status} (h : setTube tube n s = refused st s) :
      exec (.tubeSet src tube n) s = .next (answered src 0x44 st [] s) := request_refused hs hp rfl h
  have hgive {st : Status} (h : dispense tube n s = refused st s) :
      exec (.tubeDispense src tube n) s = .next (answered src 0x45 st [] s) := request_refused hs hp rfl h
  refine ⟨fun h => ⟨hset (setTube_of_mode h), hgive (dispense_of_mode h)⟩, fun h hr => hset ?_, fun h hr => hgive ?_,
    fun h ⟨t, ht, hn⟩ hbusy => hset ?_, fun h ⟨t, ht, h1, h50, hn⟩ hbusy => hgive ?_, fun t ht h hidle => ⟨fun hn => ?_,
    fun h1 h50 hn => ⟨fun h0 => hgive ?_, fun hv hj => hgive ?_, fun hv hj => ?_⟩⟩⟩
  · cases ht : readFin 6 tube with
    | none => exact setTube_of_absent h ht
    | some t =>
      obtain rfl := (readFin_eq_some (by omega)).mp ht
      rw [setTube_of_tube h, if_pos (Nat.lt_of_not_le fun hn => hr ⟨t, rfl, hn⟩)]
  · cases ht : readFin 6 tube with
    | none => exact dispense_of_absent h (.inl ht)
    | some t =>
      obtain rfl := (readFin_eq_some (by omega)).mp ht
      by_cases hn : 1 ≤ n.toNat ∧ n.toNat ≤ 50
      · rw [dispense_of_tube h hn.1 hn.2, if_pos (Nat.lt_of_not_le fun hc => hr ⟨t, rfl, hn.1, hn.2, hc⟩)]
      · exact dispense_of_absent h (.inr (by omega))
  · rw [ht, setTube_of_tube h, if_neg (by omega), if_pos hbusy]
  · rw [ht, dispense_of_tube h h1 h50, if_neg (by omega), if_pos hbusy]
  · refine request_done hs hp rfl ?_ (by simp)
    show setTube tube n s = _
    rw [ht, setTube_of_tube h, if_neg (by omega), if_neg (not_not.mpr hidle)]
    rfl
  · rw [ht, dispense_of_tube h h1 h50, if_neg (by omega), if_neg (not_not.mpr hidle), if_pos h0]
  · rw [ht, dispense_of_tube h h1 h50, if_neg (by omega), if_neg (not_not.mpr hidle), if_neg hv, if_pos hj]
  · refine request_done hs hp rfl ?_ (by simp)
    show dispense tube n s = _
    rw [ht, dispense_of_tube h h1 h50, if_neg (by omega), if_neg (not_not.mpr hidle), if_neg hv,
      if_neg (by rw [hj]; exact Bool.false_ne_true)]
    rfl

end Sys2Proof.Machine
end

section
/-! PROOFS. Selections and vending (chapter 3): the conditions of SELECT and what an accepted one does, the sales
state, the consistency check and MODE-SET. -/

namespace Sys2Proof.Machine

/-! ## Isolation and the conditions of SELECT (R17, R61, R168) -/

theorem mem_records {f : FaultList} {r : FaultRecord} : r ∈ records f ↔ ∃ p : Fin 24, f.places[p] = some r := by
  simp only [records, List.mem_filterMap, id, exists_eq_right, Vector.mem_toList_iff, Vector.mem_iff_getElem]
  constructor
  · rintro ⟨i, hi, h⟩
    exact ⟨⟨i, hi⟩, h⟩
  · rintro ⟨p, h⟩
    exact ⟨p, p.isLt, h⟩

theorem isolated_iff {i : Item} {f : FaultList} : isolated i f = true ↔
    ∃ (p : Fin 24) (r : FaultRecord), f.places[p] = some r ∧ classOf f r.kind = .isolate ∧
      itemOf r.kind r.subject = some i := by
  simp only [isolated, List.any_eq_true, mem_records, Bool.and_eq_true, decide_eq_true_eq]
  constructor
  · rintro ⟨r, ⟨p, hp⟩, h⟩
    exact ⟨p, r, hp, h⟩
  · rintro ⟨p, r, hp, h⟩
    exact ⟨r, ⟨p, hp⟩, h⟩

theorem stopPresent_iff {f : FaultList} : stopPresent f = true ↔
    ∃ (p : Fin 24) (r : FaultRecord), f.places[p] = some r ∧ classOf f r.kind = .stop := by
  simp only [stopPresent, List.any_eq_true, mem_records, decide_eq_true_eq]
  constructor
  · rintro ⟨r, ⟨p, hp⟩, h⟩
    exact ⟨p, r, hp, h⟩
  · rintro ⟨p, r, hp, h⟩
    exact ⟨r, ⟨p, hp⟩, h⟩

theorem heldBlocks_iff {x : Selection} {s : State} :
    heldBlocks x s = true ↔ ∃ z, x.zone = some z ∧ s.cabinet.holds[z].held = true := by
  unfold heldBlocks
  cases x.zone <;> simp

theorem faultBlocks_iff {x : Selection} {s : State} :
    faultBlocks x s = true ↔ (∃ m ∈ x.motors, isolated (.motor m.index) s.faults = true) ∨
      (x.verify = true ∧ isolated .curtain s.faults = true) ∨
      ∃ z, x.zone = some z ∧ isolated (.airProbe z) s.faults = true := by
  unfold faultBlocks
  cases x.zone <;> simp [or_assoc]

/-- Settles O19. -/
theorem commitAndSelectConditions : Obligations.CommitAndSelectConditions := by
  refine ⟨fun s p price => ?_, fun s x i => ⟨faultBlocks_iff, heldBlocks_iff, isolated_iff⟩⟩
  intro c cash card four
  have hcash (h : cash) : commitAnswer p price s = .cash := by
    unfold commitAnswer
    simp only []
    rcases h with h | h
    · exact if_pos h
    · rw [if_pos h, ite_self]
  have hrest (h : ¬ cash) : commitAnswer p price s =
      if card then (if four then .settleFull else .card) else .credit := by
    obtain ⟨h0, hno⟩ := not_or.mp h
    unfold commitAnswer
    simp only []
    rw [if_neg h0, if_neg hno]
    rfl
  by_cases hc : cash
  · simp [hcash hc, hc]
  · rw [hrest hc]
    by_cases hk : card <;> by_cases hf : four <;> simp [hc, hk, hf]

/-! ## SELECT (R61, R62) -/

theorem readFin_of_le {n : Nat} {b : Byte} (h : n ≤ b.toNat) : readFin n b = none := readFin_eq_none.mpr h

theorem refusal_of_mode {sel pref : Byte} {s : State} (h : s.vend.sales ≠ .selling) : refusal sel pref s = some 1 :=
  if_pos h

theorem refusal_of_unknown {sel pref : Byte} {s : State} (h : s.vend.sales = .selling)
    (hu : 96 ≤ sel.toNat ∨ readPreference pref = none) : refusal sel pref s = some 2 := by
  unfold refusal
  rw [if_neg (not_not.mpr h)]
  rcases hu with hu | hu
  · simp only [readFin_of_le hu]
  · cases readFin 96 sel <;> simp only [hu]

/-- The checks 2 to 6 of a known selection. -/
theorem refusal_of_known {pref : Byte} {i : Fin 96} {p : Preference} {s : State} (h : s.vend.sales = .selling)
    (hp : readPreference pref = some p) :
    refusal (byteOf i) pref s =
      let x := s.vend.selections[i]
      if x.enabled = false then some 2
      else if x.empty then some 3
      else if faultBlocks x s then some 4
      else if heldBlocks x s then some 5
      else if 4 ≤ s.vend.queue.length then some 6
      else none := by
  unfold refusal
  rw [if_neg (not_not.mpr h)]
  simp only [readFin_byteOf (show 96 ≤ 256 by omega), hp]

theorem selectVend_of_refusal {sel pref : Byte} {n : Nat} {s : State} (h : refusal sel pref s = some n) :
    selectVend sel pref s = raise .vendRefused sel (amount n) s := by
  simp [selectVend, h]

theorem selectVend_of_answer {pref : Byte} {i : Fin 96} {p : Preference} {s : State}
    (h : refusal (byteOf i) pref s = none) (hp : readPreference pref = some p) :
    selectVend (byteOf i) pref s =
      match commitAnswer p s.vend.selections[i].price s with
      | .cash => accept i .cash s
      | .card => accept i .card s
      | .credit => raise .vendRefused (byteOf i) (amount 7) s
      | .settleFull => raise .vendRefused (byteOf i) (amount 8) s := by
  simp only [selectVend, h, readFin_byteOf (show 96 ≤ 256 by omega), hp] <;> rfl

/-- A tag that cannot be given to a new entry (R62). -/
def tagTaken (s : State) (b : Byte) : Bool := b == 0xFF || s.vend.queue.any fun e => e.tag == b

theorem tagTaken_iff {s : State} {b : Byte} : tagTaken s b = true ↔ b = 0xFF ∨ ∃ e ∈ s.vend.queue, e.tag = b := by
  simp [tagTaken]

/-- The tag found is the first free one from the count on. -/
theorem freeTag_first (used : Byte → Bool) (n : Nat) (t : Byte) :
    ∃ k, freeTag used n t = t + BitVec.ofNat 8 k ∧ ∀ j < k, used (t + BitVec.ofNat 8 j) = true := by
  induction n generalizing t with
  | zero => exact ⟨0, by simp [freeTag], by simp⟩
  | succ n ih =>
    unfold freeTag
    split
    · rename_i ht
      obtain ⟨k, hk, hused⟩ := ih (t + 1)
      have hnext (j : Nat) : t + BitVec.ofNat 8 (j + 1) = t + 1 + BitVec.ofNat 8 j := by
        rw [BitVec.ofNat_add, BitVec.add_assoc, BitVec.add_comm (BitVec.ofNat 8 j)]; rfl
      refine ⟨k + 1, by rw [hk, hnext], fun j hj => ?_⟩
      cases j with
      | zero => simpa using ht
      | succ j => rw [hnext]; exact hused j (by omega)
    · exact ⟨0, by simp, by simp⟩

theorem entryTag_free {s : State} (h : s.vend.queue.length < 4) : tagTaken s (freeTag (tagTaken s) 5 s.vend.nextTag) = false := by
  refine (@freeTag_free (0xFF :: s.vend.queue.map (·.tag))) (fun t ht => ?_) (by omega) (by simp; omega) _
  rcases tagTaken_iff.mp ht with rfl | ⟨e, he, rfl⟩
  · exact List.mem_cons_self
  · exact List.mem_cons_of_mem _ (List.mem_map_of_mem he)

/-- Settles O20. -/
theorem selectCheckedAndAccepted : Obligations.SelectCheckedAndAccepted := by
  intro s sel pref hs leads refused taken accepted
  have hleads {t : State} (h : selectVend sel pref s = t) : leads t := by
    rw [← h]; exact act_of_high hs _
  have hrefused {n : Nat} (h : selectVend sel pref s = raise .vendRefused sel (amount n) s) : refused n :=
    ⟨_, becomes_raised s _ _ _, hleads h⟩
  refine ⟨fun h => hrefused (selectVend_of_refusal (refusal_of_mode h)),
    fun h hu => hrefused (selectVend_of_refusal (refusal_of_unknown h hu)), ?_⟩
  rintro i p h rfl hp x
  have hcheck := (@refusal_of_known _ i) h hp
  simp only [] at hcheck
  have hfail {n : Nat} (h : refusal (byteOf i) pref s = some n) : refused n := hrefused (selectVend_of_refusal h)
  split at hcheck
  · rename_i h2
    rw [if_pos h2]; exact hfail hcheck
  rename_i h2
  rw [if_neg h2]
  split at hcheck
  · rename_i h3
    rw [if_pos h3]; exact hfail hcheck
  rename_i h3
  rw [if_neg h3]
  split at hcheck
  · rename_i h4
    rw [if_pos h4]; exact hfail hcheck
  rename_i h4
  rw [if_neg h4]
  split at hcheck
  · rename_i h5
    rw [if_pos h5]; exact hfail hcheck
  rename_i h5
  rw [if_neg h5]
  split at hcheck
  · rename_i h6
    rw [if_pos h6]; exact hfail hcheck
  rename_i h6
  rw [if_neg h6]
  have hanswer := selectVend_of_answer hcheck hp
  have haccept (f : Funds) (hf : selectVend (byteOf i) pref s = accept i f s) : accepted i f := by
    obtain ⟨k, hk, hused⟩ := freeTag_first (tagTaken s) 5 s.vend.nextTag
    have hfree := entryTag_free (Nat.lt_of_not_le h6)
    rw [hk] at hfree
    refine ⟨k, _, fun ht => ?_, fun j hj => tagTaken_iff.mp (hused j hj), becomes_raised _ _ _ _, hleads ?_⟩
    · rw [tagTaken_iff.mpr ht] at hfree
      cases hfree
    · rw [hf, ← hk]
      cases f <;> rfl
  refine ⟨fun ha => ?_, fun ha => ?_, fun ha => ?_, fun ha => ?_⟩
  · exact hrefused (by rw [hanswer]; simp only [x] at ha; rw [ha])
  · exact hrefused (by rw [hanswer]; simp only [x] at ha; rw [ha])
  · exact haccept .cash (by rw [hanswer]; simp only [x] at ha; rw [ha])
  · exact haccept .card (by rw [hanswer]; simp only [x] at ha; rw [ha])

/-! ## The sales state (R54 to R56) -/

theorem noCause_iff {s : State} : noCause s = true ↔ s.vend.doorOpen = false ∧
    (¬ ∃ (p : Fin 24) (r : FaultRecord), s.faults.places[p] = some r ∧ classOf s.faults r.kind = .stop) ∧
    s.faults.overflow = false := by
  rw [← stopPresent_iff]
  simp [noCause, and_assoc]

/-- No vend claim waits after a withdrawal. -/
theorem withdrawVend_not_waiting (s : State) : (withdrawVend s).supply.vend.state ≠ .waiting := by
  unfold withdrawVend
  split
  · rw [consider_of_no_vend (by simp [Reset.claim])]
    have hc (t : State) : (tryCompressor t).supply.vend = t.supply.vend := by
      unfold tryCompressor; split <;> rfl
    have hh (t : State) : (tryHeater t).supply.vend = t.supply.vend := by
      unfold tryHeater; split <;> rfl
    rw [hh, hc]
    exact ClaimState.noConfusion
  · assumption

theorem suspendCheck_of_selling {s : State} (h : s.vend.sales = .selling) :
    suspendCheck s = if noCause s then s else enterSales .suspended s := by
  simp only [suspendCheck, h]

theorem suspendCheck_of_suspended {s : State} (h : s.vend.sales = .suspended) :
    suspendCheck s = if noCause s then enterSales .selling s else s := by
  simp only [suspendCheck, h]

theorem suspendCheck_of_closed {s : State} (h : s.vend.sales = .offline ∨ s.vend.sales = .service) :
    suspendCheck s = s := by
  rcases h with h | h <;> simp only [suspendCheck, h]

/-- Settles O23. -/
theorem suspensionAndDoor : Obligations.SuspensionAndDoor := by
  refine ⟨fun s new => ?_, fun s opened hs => ⟨fun h => ?_, fun h => ?_⟩⟩
  · intro stop noneNow code
    have hnone : noCause s = true ↔ noneNow := noCause_iff
    refine ⟨hnone, fun h hn => ?_, fun h hn => ?_, fun h => ?_, _, becomes_raised _ _ _ _, ?_⟩
    · rw [suspendCheck_of_selling h, if_neg (mt hnone.mp hn)]
      refine ⟨rfl, ?_⟩
      have hkeep (t : State) : (recomputeAccept t).supply = t.supply := by simp
      rw [enterSales, hkeep]
      exact withdrawVend_not_waiting _
    · rw [suspendCheck_of_suspended h, if_pos (hnone.mpr hn)]
    · rcases h with ⟨h, hn⟩ | ⟨h, hn⟩ | h | h
      · rw [suspendCheck_of_selling h, if_pos (hnone.mpr hn)]
      · rw [suspendCheck_of_suspended h, if_neg (mt hnone.mp hn)]
      · exact suspendCheck_of_closed (.inl h)
      · exact suspendCheck_of_closed (.inr h)
    · cases new <;> rfl
  · have hexec : exec (.doorChange opened) s = act s (pump (doorTaken opened s)) := by
      simp only [exec, execDoorChange, h, if_false]
    rw [hexec]
    exact act_of_high hs _
  · have hexec : exec (.doorChange opened) s = act s (pump s) := by
      simp only [exec, execDoorChange, h, if_true]
    rw [hexec]
    exact act_silent hs s

/-! ## The consistency check (R58) -/

theorem mem_validBefore {i : Fin 16} {l : Link} {m : Node} :
    m ∈ validBefore i l ↔ ∃ j : Fin 16, j < i ∧ l.nodes[j] = m ∧ m.valid = true := by
  simp only [validBefore, List.mem_filter, List.mem_take_iff_getElem, Vector.length_toList, Vector.getElem_toList]
  constructor
  · rintro ⟨⟨j, hj, h⟩, hv⟩
    exact ⟨⟨j, by omega⟩, by simp only [Fin.lt_def]; omega, h, hv⟩
  · rintro ⟨j, hj, h, hv⟩
    exact ⟨⟨j, by simp only [Fin.lt_def] at hj; omega, h⟩, hv⟩

theorem firstWrong_eq_none {n : Nat} {table : Byte} {p : Fin n → Bool} :
    firstWrong table p = none ↔ ∀ i, p i = false := by
  cases h : (List.finRange n).find? p with
  | none =>
    have hall := List.find?_eq_none.mp h
    simp only [firstWrong, h]
    simpa using hall
  | some i =>
    have hp := List.find?_some h
    simp only [firstWrong, h]
    exact ⟨nofun, fun hall => absurd hp (by simp [hall i])⟩

/-- What no later one shares with an earlier one, no two share. -/
theorem forall_lt_iff_forall_ne {n : Nat} {P : Fin n → Prop} {R : Fin n → Fin n → Prop} (hR : ∀ i j, R i j → R j i) :
    (∀ i, P i → ∀ j, j < i → P j → ¬ R j i) ↔ ∀ i j, i ≠ j → P i → P j → ¬ R i j := by
  constructor
  · intro h i j hij hi hj hr
    rcases lt_or_gt_of_ne hij with hlt | hlt
    · exact h j hj i hlt hi hr
    · exact h i hi j hlt hj (hR _ _ hr)
  · intro h i hi j hj hPj
    exact h j i hj.ne hPj hi

/-- The roles that one node alone may have (R58). -/
def Role.payment (r : Role) : Prop := r = .coinValidator ∨ r = .noteReader ∨ r = .cardReader

theorem controllerWrong_eq_false {i : Fin 16} {l : Link} : controllerWrong i l = false ↔
    (l.nodes[i].valid = true → l.nodes[i].role = .machineController → l.nodes[i].port = 0 ∧
      ∀ j, j < i → l.nodes[j].valid = true → l.nodes[j].role ≠ l.nodes[i].role) := by
  rw [← Bool.not_eq_true]
  simp only [controllerWrong, Bool.and_eq_true, Bool.or_eq_true, decide_eq_true_eq, List.any_eq_true, mem_validBefore]
  constructor
  · intro h hv hr
    refine ⟨by_contra fun hp => h ⟨⟨hv, hr⟩, .inl hp⟩, fun j hj hjv he => h ⟨⟨hv, hr⟩, .inr ⟨_, ⟨j, hj, rfl, hjv⟩, he⟩⟩⟩
  · rintro h ⟨⟨hv, hr⟩, hp | ⟨_, ⟨j, hj, rfl, hjv⟩, he⟩⟩
    · exact hp (h hv hr).1
    · exact (h hv hr).2 j hj hjv he

theorem paymentWrong_eq_false {i : Fin 16} {l : Link} : paymentWrong i l = false ↔
    (l.nodes[i].valid = true → l.nodes[i].role.payment → l.nodes[i].port ≠ 0 ∧
      ∀ j, j < i → l.nodes[j].valid = true → l.nodes[j].role ≠ l.nodes[i].role) := by
  have hwrong : paymentWrong i l = true ↔ l.nodes[i].valid = true ∧ l.nodes[i].role.payment ∧
      (l.nodes[i].port = 0 ∨ ∃ m ∈ validBefore i l, m.role = l.nodes[i].role) := by
    unfold paymentWrong Role.payment
    simp only []
    generalize l.nodes[i] = n
    obtain ⟨_, _, _, role⟩ := n
    cases role <;> simp
  rw [← Bool.not_eq_true, hwrong]
  simp only [mem_validBefore]
  constructor
  · intro h hv hr
    refine ⟨fun hp => h ⟨hv, hr, .inl hp⟩, fun j hj hjv he => h ⟨hv, hr, .inr ⟨_, ⟨j, hj, rfl, hjv⟩, he⟩⟩⟩
  · rintro h ⟨hv, hr, hp | ⟨_, ⟨j, hj, rfl, hjv⟩, he⟩⟩
    · exact (h hv hr).1 hp
    · exact (h hv hr).2 j hj hjv he

theorem numberWrong_eq_false {i : Fin 16} {l : Link} : numberWrong i l = false ↔
    (l.nodes[i].valid = true → l.nodes[i].node ≠ l.ownNode ∧
      ∀ j, j < i → l.nodes[j].valid = true → l.nodes[j].node ≠ l.nodes[i].node) := by
  rw [← Bool.not_eq_true]
  simp only [numberWrong, Bool.and_eq_true, Bool.or_eq_true, beq_iff_eq, List.any_eq_true, mem_validBefore]
  constructor
  · intro h hv
    refine ⟨fun hp => h ⟨hv, .inl hp⟩, fun j hj hjv he => h ⟨hv, .inr ⟨_, ⟨j, hj, rfl, hjv⟩, he⟩⟩⟩
  · rintro h ⟨hv, hp | ⟨_, ⟨j, hj, rfl, hjv⟩, he⟩⟩
    · exact (h hv).1 hp
    · exact (h hv).2 j hj hjv he

theorem classWrong_eq_false {c : Fin 16} {k : Coins} :
    classWrong c k = false ↔ ∀ t, k.table[c].tube = some t → k.tubes[t].cls = some c := by
  unfold classWrong
  cases k.table[c].tube <;> simp

theorem tubeWrong_eq_false {t : TubeId} {k : Coins} :
    tubeWrong t k = false ↔ ∀ c, k.tubes[t].cls = some c → k.table[c].tube = some t := by
  unfold tubeWrong
  cases k.tubes[t].cls <;> simp

theorem controllerPresent_iff {l : Link} :
    (l.nodes.toList.any fun n => n.valid && decide (n.role = .machineController)) = true ↔
      ∃ i : Fin 16, l.nodes[i].valid = true ∧ l.nodes[i].role = .machineController := by
  simp only [List.any_eq_true, Vector.mem_toList_iff, Vector.mem_iff_getElem, Bool.and_eq_true, decide_eq_true_eq]
  constructor
  · rintro ⟨_, ⟨i, hi, rfl⟩, h⟩
    exact ⟨⟨i, hi⟩, h⟩
  · rintro ⟨i, h⟩
    exact ⟨_, ⟨i, i.isLt, rfl⟩, h⟩

/-- The rows of R58, each by its own judgement. -/
theorem inconsistency_eq_none {s : State} : inconsistency s = none ↔
    (s.link.nodes.toList.any fun n => n.valid && decide (n.role = .machineController)) = true ∧
    (∀ i, controllerWrong i s.link = false) ∧ (∀ i, paymentWrong i s.link = false) ∧
    (∀ i, numberWrong i s.link = false) ∧ (∀ c, classWrong c s.coins = false) ∧ ∀ t, tubeWrong t s.coins = false := by
  have hor {α : Type} (a b : Option α) : (a <|> b) = none ↔ a = none ∧ b = none := by
    cases a <;> simp
  have hif (b : Bool) (x : Byte × Byte) : (if b = true then none else some x) = none ↔ b = true := by
    cases b <;> simp
  simp only [inconsistency, hor, hif, firstWrong_eq_none]

/-- Settles O24. -/
theorem consistencyCheckPasses : Obligations.ConsistencyCheckPasses := by
  intro s n payment
  rw [inconsistency_eq_none, controllerPresent_iff]
  simp only [controllerWrong_eq_false, paymentWrong_eq_false, numberWrong_eq_false, classWrong_eq_false,
    tubeWrong_eq_false]
  have hrole : (∀ i j, i ≠ j → (n i).valid = true → (n j).valid = true → (n i).role = (n j).role →
        (n i).role ≠ .machineController ∧ ¬ payment (n i).role) ↔
      ∀ i, (n i).valid = true ∧ ((n i).role = .machineController ∨ payment (n i).role) →
        ∀ j, j < i → (n j).valid = true ∧ ((n j).role = .machineController ∨ payment (n j).role) →
          ¬ (n j).role = (n i).role := by
    rw [forall_lt_iff_forall_ne fun _ _ => Eq.symm]
    constructor
    · rintro h i j hij ⟨hi, hri⟩ ⟨hj, _⟩ he
      obtain ⟨h1, h2⟩ := h i j hij hi hj he
      rcases hri with hri | hri
      · exact h1 hri
      · exact h2 hri
    · intro h i j hij hi hj he
      refine ⟨fun hr => h i j hij ⟨hi, .inl hr⟩ ⟨hj, .inl (he ▸ hr)⟩ he,
        fun hr => h i j hij ⟨hi, .inr hr⟩ ⟨hj, .inr (he ▸ hr)⟩ he⟩
  have hnumber : (∀ i j, i ≠ j → (n i).valid = true → (n j).valid = true → (n i).node ≠ (n j).node) ↔
      ∀ i, (n i).valid = true → ∀ j, j < i → (n j).valid = true → ¬ (n j).node = (n i).node :=
    (forall_lt_iff_forall_ne fun _ _ => Eq.symm).symm
  rw [hrole, hnumber]
  constructor
  · rintro ⟨h1, h2, h3, h4, h5, h6⟩
    refine ⟨h1, fun i hv hr => (h2 i hv hr).1, fun i hv hr => (h3 i hv hr).1, ?_, fun i hv => (h4 i hv).1,
      fun i hv => (h4 i hv).2, h5, h6⟩
    rintro i ⟨hv, hr | hr⟩ j hj ⟨hjv, _⟩
    · exact (h2 i hv hr).2 j hj hjv
    · exact (h3 i hv hr).2 j hj hjv
  · rintro ⟨h1, h2, h3, hrole, hown, hnum, h5, h6⟩
    refine ⟨h1, fun i hv hr => ⟨h2 i hv hr, fun j hj hjv he => ?_⟩, fun i hv hr => ⟨h3 i hv hr, fun j hj hjv he => ?_⟩,
      fun i hv => ⟨hown i hv, hnum i hv⟩, h5, h6⟩
    · exact hrole i ⟨hv, .inl hr⟩ j hj ⟨hjv, .inl (he.trans hr)⟩ he
    · exact hrole i ⟨hv, .inr hr⟩ j hj ⟨hjv, .inr (he.symm ▸ hr)⟩ he

/-! ## MODE-SET (R57, R60) -/

/-- The start of a head changes no more of what the vend controller owns than the head itself. -/
theorem tryVend_vend (s : State) : ∃ q, (tryVend s).vend = { s.vend with queue := q } := by
  unfold tryVend
  split
  · exact ⟨_, rfl⟩
  · rename_i e es _
    split
    · refine ⟨{ e with driving := true } :: es, ?_⟩
      unfold firstEnergise
      simp only []
      split
      · exact takeTrace_vend _ _ _
      · rfl
    · exact ⟨_, rfl⟩

theorem consider_vend (s : State) : ∃ q, (consider s).vend = { s.vend with queue := q } := by
  have hc (t : State) : (tryCompressor t).vend = t.vend := by simp
  have hh (t : State) : (tryHeater t).vend = t.vend := by simp
  unfold consider
  split
  · rw [hh]
    rcases tryVendBehind_cases (tryCompressor s) with hb | hb <;> rw [hb]
    · exact ⟨_, hc s⟩
    · simpa only [hc] using tryVend_vend (tryCompressor s)
  · rw [hh, hc]
    exact tryVend_vend s

theorem startHead_vend (s : State) : ∃ q, (startHead s).vend = { s.vend with queue := q } := by
  unfold startHead
  split
  · exact ⟨_, rfl⟩
  · split
    · unfold placeVend
      split
      · exact consider_vend (s.mapSupply _)
      · exact ⟨_, rfl⟩
    · exact ⟨_, rfl⟩

theorem startHead_sales (s : State) : (startHead s).vend.sales = s.vend.sales := by
  obtain ⟨q, hq⟩ := startHead_vend s
  rw [hq]

theorem cancelOne_vend (c : CancelCause) (s : State) (e : Entry) :
    (cancelOne c s e).vend = { s.vend with
      queue := s.vend.queue.erase e
      lastOutcome := some { tag := e.tag, selection := e.selection, funds := e.funds, outcome := .cancelled,
                            cause := some c } } := by
  unfold cancelOne
  simp only []
  split <;> simp [finishEntry, withdrawVend_vend]

theorem cancelAll_sales (c : CancelCause) (l : List Entry) (s : State) :
    (l.foldl (cancelOne c) s).vend.sales = s.vend.sales := by
  induction l generalizing s with
  | nil => rfl
  | cons e l ih => rw [List.foldl_cons, ih, cancelOne_vend]

theorem cancelWhere_sales (p : Entry → Bool) (c : CancelCause) (s : State) :
    (cancelWhere p c s).vend.sales = s.vend.sales := by
  unfold cancelWhere
  split
  · rfl
  · rw [startHead_sales, cancelAll_sales]

theorem enterSales_sales (n : SalesState) (s : State) : (enterSales n s).vend.sales = n := by
  cases n <;> simp [enterSales, startHead_sales, withdrawVend_vend]

/-- Settles O25. -/
theorem modeSetBySalesState : Obligations.ModeSetBySalesState := by
  intro s src hs hp ready service selling
  have hservice (a : Answer) (h : modeService s = a) (hk : a.kind = .reply) (hd : a.data.length ≤ 38) :
      service a.status a.data a.state := by
    have := (@request_answered _ src 0x42 [0]) hs hp rfl h hk
    rwa [fitted_of_short hd] at this
  have hselling (a : Answer) (h : modeSelling s = a) (hk : a.kind = .reply) (hd : a.data.length ≤ 38) :
      selling a.status a.data a.state := by
    have := (@request_answered _ src 0x42 [1]) hs hp rfl h hk
    rwa [fitted_of_short hd] at this
  have hdone (u : State) : modeDone u = done [u.vend.sales.code] u := rfl
  have hleave {n : SalesState} (h : inconsistency s = none) :
      modeChecked n s = done [n.code] (enterSales n ready) := by
    have : modeChecked n s = modeDone (leaveIdleState n s) := by simp only [modeChecked, h]
    rw [this, hdone, leaveIdleState, enterSales_sales]
    rfl
  have hfail {n : SalesState} {e : Byte × Byte} (h : inconsistency s = some e) :
      modeChecked n s = { state := s, status := .conflict, data := [e.1, e.2], kind := .reply } := by
    simp only [modeChecked, h]
  have hidleService (h : s.vend.sales = .offline) : modeService s = modeChecked .service s := by
    simp only [modeService, h]
  have hidleSelling (h : s.vend.sales = .offline ∨ s.vend.sales = .service) :
      modeSelling s = modeChecked (if noCause s then .selling else .suspended) s := by
    rcases h with h | h <;> simp only [modeSelling, h]
  refine ⟨fun h => ⟨fun e he => ⟨?_, fun ho => ?_⟩, fun hok => ⟨fun hc => ?_, fun hc => ?_, fun ho => ?_⟩, fun ho => ?_⟩,
    fun h => ⟨?_, ?_⟩⟩
  · have := hselling _ ((hidleSelling h).trans (hfail he)) rfl (by simp)
    exact this
  · have := hservice _ ((hidleService ho).trans (hfail he)) rfl (by simp)
    exact this
  · refine hselling (done [2] _) ((hidleSelling h).trans ?_) rfl (by simp [done])
    rw [if_pos hc]; exact hleave hok
  · refine hselling (done [3] _) ((hidleSelling h).trans ?_) rfl (by simp [done])
    rw [if_neg (by rw [hc]; exact Bool.false_ne_true)]; exact hleave hok
  · exact hservice (done [1] _) ((hidleService ho).trans (hleave hok)) rfl (by simp [done])
  · refine hservice (done [1] s) ?_ rfl (by simp [done])
    simp only [modeService, ho, modeDone]; rfl
  · refine hservice (done [1] _) ?_ rfl (by simp [done])
    have hserve : modeService s = modeDone (serviceEntered s) := by
      rcases h with h | h <;> simp only [modeService, h]
    have hsales : (serviceEntered s).vend.sales = .service := by
      rw [serviceEntered, cancelWhere_sales, enterSales_sales]
    rw [hserve, hdone, hsales]; rfl
  · refine hselling (done [if s.vend.sales = .selling then 2 else 3] s) ?_ rfl (by simp [done])
    rcases h with h | h
    · simp only [modeSelling, h, modeDone]; rfl
    · simp only [modeSelling, h, modeDone]; rfl

end Sys2Proof.Machine
end

section
/-! PROOFS. Cancellation and the outcome of a vend (R63 to R72), with what DEBIT and RELEASE do (R18 to R20). -/

namespace Sys2Proof.Machine

/-! ## What a consideration without a vend claim leaves -/

/-- The supply arbiter's and the refrigeration controller's parts alone may differ. -/
structure SuppliedOnly (s t : State) : Prop where
  money : t.money = s.money
  coins : t.coins = s.coins
  vend : t.vend = s.vend
  drive : t.drive = s.drive
  cabinet : t.cabinet = s.cabinet
  link : t.link = s.link
  faults : t.faults = s.faults
  events : t.events = s.events

theorem SuppliedOnly.refl (s : State) : SuppliedOnly s s := ⟨rfl, rfl, rfl, rfl, rfl, rfl, rfl, rfl⟩

theorem SuppliedOnly.trans {s t u : State} (h : SuppliedOnly s t) (k : SuppliedOnly t u) : SuppliedOnly s u :=
  ⟨k.money.trans h.money, k.coins.trans h.coins, k.vend.trans h.vend, k.drive.trans h.drive,
    k.cabinet.trans h.cabinet, k.link.trans h.link, k.faults.trans h.faults, k.events.trans h.events⟩

theorem tryCompressor_suppliedOnly (s : State) : SuppliedOnly s (tryCompressor s) := by
  unfold tryCompressor
  split <;> exact ⟨rfl, rfl, rfl, rfl, rfl, rfl, rfl, rfl⟩

theorem tryHeater_suppliedOnly (s : State) : SuppliedOnly s (tryHeater s) := by
  unfold tryHeater
  split <;> exact ⟨rfl, rfl, rfl, rfl, rfl, rfl, rfl, rfl⟩

theorem consider_suppliedOnly {s : State} (h : s.supply.vend.state ≠ .waiting) : SuppliedOnly s (consider s) := by
  rw [consider_of_no_vend h]
  exact (tryCompressor_suppliedOnly s).trans (tryHeater_suppliedOnly _)

theorem absentVend_suppliedOnly (s : State) :
    SuppliedOnly s (consider (s.mapSupply fun p => { p with vend := Reset.claim })) :=
  (@SuppliedOnly.trans _ (s.mapSupply fun p => { p with vend := Reset.claim }))
    ⟨rfl, rfl, rfl, rfl, rfl, rfl, rfl, rfl⟩ (consider_suppliedOnly (by simp [Reset.claim]))

theorem withdrawVend_suppliedOnly (s : State) : SuppliedOnly s (withdrawVend s) := by
  unfold withdrawVend
  split
  · exact absentVend_suppliedOnly s
  · exact .refl s

theorem releaseVend_suppliedOnly (s : State) : SuppliedOnly s (releaseVend s) := by
  unfold releaseVend
  split
  · exact absentVend_suppliedOnly s
  · exact .refl s

theorem SuppliedOnly.stamp_eq {s t : State} (h : SuppliedOnly s t) : stamp t = stamp s := by
  simp only [stamp, h.cabinet]

theorem SuppliedOnly.reports_eq {s t : State} (h : SuppliedOnly s t) : reports t = reports s := by
  simp only [reports, State.port, h.link, h.events]

/-! ## RELEASE (R20) -/

/-- The credit record without the commitment of an entry. -/
def Credit.without (e : Entry) (c : Credit) : Credit :=
  { c with
    committed := if e.funds = .cash then c.committed - amount e.price else c.committed
    cardCommitted := if e.funds = .card then c.cardCommitted - amount e.price else c.cardCommitted }

theorem releaseFunds_eq (e : Entry) (s : State) :
    releaseFunds e s = endSession e (s.mapCredit (Credit.without e)) := by
  unfold releaseFunds Credit.without
  cases e.funds <;> rfl

theorem releaseFunds_of_waiting {e : Entry} (s : State) (h : e.driving = false) :
    releaseFunds e s = s.mapCredit (Credit.without e) := by
  rw [releaseFunds_eq]
  exact if_neg fun k => absurd k.2.2 (by simp [h])

/-- What the removal of entries leaves committed from the funds of one kind. -/
def committedAfter (f : Funds) (l : List Entry) (k : Word) : Word :=
  (l.filter fun e => decide (e.funds = f)).foldl (fun k e => k - amount e.price) k

theorem committedAfter_cons (f : Funds) (e : Entry) (l : List Entry) (k : Word) :
    committedAfter f (e :: l) k = committedAfter f l (if e.funds = f then k - amount e.price else k) := by
  unfold committedAfter
  by_cases h : e.funds = f <;> simp [h]

/-! ## One cancellation (R65) -/

/-- The last-outcome record of a cancelled entry. -/
def cancelledOutcome (c : CancelCause) (e : Entry) : LastOutcome where
  tag := e.tag
  selection := e.selection
  funds := e.funds
  outcome := .cancelled
  cause := some c

/-- The state that one cancellation reports about. -/
structure Cancelled (c : CancelCause) (s : State) (e : Entry) (u : State) : Prop where
  money : u.money = { s.money with credit := s.money.credit.without e }
  vend : u.vend = { s.vend with queue := s.vend.queue.erase e, lastOutcome := some (cancelledOutcome c e) }
  events : u.events = s.events
  link : u.link = s.link
  clock : stamp u = stamp s
  raised : cancelOne c s e = raise .vendDone e.tag (packed (byteOf e.selection) 5 (cancelCode (some c)) 0) u

theorem Cancelled.reported {c : CancelCause} {s u : State} {e : Entry} (h : Cancelled c s e u) :
    Becomes u [(.vendDone, e.tag, packed (byteOf e.selection) 5 (cancelCode (some c)) 0)] (cancelOne c s e) := by
  rw [h.raised]
  exact becomes_raised _ _ _ _

theorem cancelOne_cancelled (c : CancelCause) (s : State) {e : Entry} (h : e.driving = false) :
    ∃ u, Cancelled c s e u := by
  have hside : SuppliedOnly (s.mapVend fun v => { v with queue := v.queue.erase e })
      (if s.vend.queue.head? = some e then withdrawVend (s.mapVend fun v => { v with queue := v.queue.erase e })
        else s.mapVend fun v => { v with queue := v.queue.erase e }) := by
    split
    · exact withdrawVend_suppliedOnly _
    · exact .refl _
  generalize hw : (if s.vend.queue.head? = some e then
    withdrawVend (s.mapVend fun v => { v with queue := v.queue.erase e })
      else s.mapVend fun v => { v with queue := v.queue.erase e }) = w at hside
  have hone : cancelOne c s e = raise .vendDone e.tag (packed (byteOf e.selection) 5 (cancelCode (some c)) 0)
      ((w.mapCredit (Credit.without e)).mapVend fun v => { v with lastOutcome := some (cancelledOutcome c e) }) := by
    unfold cancelOne
    simp only []
    rw [hw, releaseFunds_of_waiting w h]
    rfl
  refine ⟨(w.mapCredit (Credit.without e)).mapVend fun v => { v with lastOutcome := some (cancelledOutcome c e) },
    ?_, ?_, hside.events, hside.link, hside.stamp_eq, hone⟩
  · show { w.money with credit := w.money.credit.without e } = _
    rw [hside.money]; rfl
  · show { w.vend with lastOutcome := some (cancelledOutcome c e) } = _
    rw [hside.vend]; rfl

/-! ## The cancellation of several entries -/

/-- The money after the cancellation of WAITING entries. -/
theorem cancelAll_money (c : CancelCause) {l : List Entry} (hl : ∀ e ∈ l, e.driving = false) (s : State) :
    (l.foldl (cancelOne c) s).money = { s.money with credit := { s.money.credit with
      committed := committedAfter .cash l s.money.credit.committed
      cardCommitted := committedAfter .card l s.money.credit.cardCommitted } } := by
  induction l generalizing s with
  | nil => rfl
  | cons e l ih =>
    obtain ⟨u, hu⟩ := cancelOne_cancelled c s (hl e List.mem_cons_self)
    rw [List.foldl_cons, ih (fun x hx => hl x (List.mem_cons_of_mem e hx)), hu.reported.blocks.money, hu.money,
      committedAfter_cons, committedAfter_cons]
    rfl

theorem cancelAll_vend (c : CancelCause) (l : List Entry) (s : State) :
    ∃ o, (l.foldl (cancelOne c) s).vend = { s.vend with queue := s.vend.queue.diff l, lastOutcome := o } := by
  induction l generalizing s with
  | nil => exact ⟨s.vend.lastOutcome, by simp⟩
  | cons e l ih =>
    obtain ⟨o, ho⟩ := ih (cancelOne c s e)
    exact ⟨o, by rw [List.foldl_cons, ho, cancelOne_vend, List.diff_cons]⟩

/-- The last-outcome record is that of the last entry removed. -/
theorem cancelAll_last (c : CancelCause) {l : List Entry} {e : Entry} (he : l.getLast? = some e) (s : State) :
    (l.foldl (cancelOne c) s).vend =
      { s.vend with queue := s.vend.queue.diff l, lastOutcome := some (cancelledOutcome c e) } := by
  obtain ⟨l, rfl⟩ := List.getLast?_eq_some_iff.mp he
  obtain ⟨o, ho⟩ := cancelAll_vend c l s
  rw [List.foldl_append, List.foldl_cons, List.foldl_nil, cancelOne_vend, ho, List.diff_append,
    List.diff_cons, List.diff_nil]
  rfl

/-- The line of the VEND-DONE of a cancelled entry. -/
def cancelledLine (c : CancelCause) (time : Word) (e : Entry) : List Byte :=
  Event.line { code := .vendDone, subject := e.tag, time := time
               value := packed (byteOf e.selection) 5 (cancelCode (some c)) 0 }

theorem cancelAll_reports (c : CancelCause) {l : List Entry} (hl : ∀ e ∈ l, e.driving = false) (s : State)
    (room : s.events.queue.length + l.length ≤ 16) :
    reports (l.foldl (cancelOne c) s) = reports s ++ l.map (cancelledLine c (stamp s)) := by
  induction l generalizing s with
  | nil => simp
  | cons e l ih =>
    obtain ⟨u, hu⟩ := cancelOne_cancelled c s (hl e List.mem_cons_self)
    simp only [List.length_cons] at room
    have hone : u.events.queue.length + 1 ≤ 16 := by rw [hu.events]; omega
    have hlen := queue_bound hu.reported hone
    simp only [List.length_singleton, hu.events] at hlen
    have hreports : reports (cancelOne c s e) = reports s ++ [cancelledLine c (stamp s) e] := by
      have hsame : reports u = reports s := by simp only [reports, State.port, hu.link, hu.events]
      rw [hu.reported.2 hone, hsame, hu.clock]
      rfl
    have hstamp : stamp (cancelOne c s e) = stamp s := by rw [hu.reported.1.stamp_eq, hu.clock]
    rw [List.foldl_cons, ih (fun x hx => hl x (List.mem_cons_of_mem e hx)) _ (by omega), hreports, hstamp]
    simp

theorem diff_filter {α : Type} [DecidableEq α] (p : α → Bool) (l : List α) :
    l.diff (l.filter p) = l.filter fun x => !p x := by
  induction l with
  | nil => simp
  | cons x l ih =>
    by_cases hp : p x = true
    · simp [hp, ih]
    · have hx : x ∉ l.filter p := fun hx => hp (List.mem_filter.mp hx).2
      have hp : p x = false := by simpa using hp
      rw [List.filter_cons_of_neg (by simp [hp]), List.cons_diff_of_not_mem hx, ih]
      simp [hp]

theorem victims_driving {p : Entry → Bool} {s : State} : ∀ e ∈ victims p s, e.driving = false :=
  fun _ he => (mem_victims.mp he).2.1

theorem queue_diff_victims (p : Entry → Bool) (s : State) :
    s.vend.queue.diff (victims p s) = s.vend.queue.filter fun e => e.driving || !p e := by
  rw [victims, diff_filter]
  congr 1
  funext e
  cases e.driving <;> simp

/-! ## CANCEL (R64) -/

theorem cancel_answered {s : State} {src tag : Byte} {a : Answer} (hs : s.resetLow = false) (hp : replyPlace s = true)
    (ha : cancelTag tag s = a) (hk : a.kind = .reply) (hd : a.data.length ≤ 38) :
    exec (.cancel src tag) s = .next (pump (reply src 0x21 a.status a.data .reply a.state)) := by
  have htake : takeRequest { dest := s.link.ownNode, src := src, type := typeCancel, payload := [tag] } s =
      sendAnswer src typeCancel (cancelTag tag s) := rfl
  have hexec : exec (.cancel src tag) s = act s (pump (fromController src typeCancel [tag] s)) := rfl
  rw [hexec, act_of_high hs, fromController, if_neg ((replyPlace_iff s).mp hp).1, request, if_pos hp, htake, ha,
    sendAnswer, hk, fitted_of_short hd]
  rfl

theorem cancelTag_of_all (s : State) : cancelTag 0xFF s =
    done [byteOf (victims (fun _ => true) s).length] (cancelWhere (fun _ => true) .request s) := rfl

/-- Settles O21. -/
theorem cancelRemovesWaitingEntries : Obligations.CancelRemovesWaitingEntries := by
  refine ⟨fun s src tag hs hp => ?_, fun s p cause => ?_⟩
  · intro answer
    have hanswer (a : Answer) (ha : cancelTag tag s = a) (hk : a.kind = .reply) (hd : a.data.length ≤ 38) :
        answer a.status a.data a.state := cancel_answered hs hp ha hk hd
    refine ⟨fun h => ?_, fun e h he => ⟨fun hd => ?_, fun hd => ?_⟩, fun h hnone => ?_⟩
    · have hall := hanswer (done [byteOf (victims (fun _ => true) s).length] _)
        (by rw [h]; exact cancelTag_of_all s) rfl (by simp [done])
      simpa [victims, done] using hall
    · exact hanswer (refused .busy s) (by simp only [cancelTag, h, he, hd, if_true, if_false]) rfl (by simp [refused])
    · exact hanswer (done [1] (cancelWhere (fun x => x == e) .request s))
        (by simp only [cancelTag, h, he, hd, Bool.false_eq_true, if_false]) rfl (by simp [done])
    · have hfind : s.vend.queue.find? (fun e => e.tag == tag) = none := by simpa using hnone
      exact hanswer (refused .conflict s) (by simp only [cancelTag, h, hfind, if_false]) rfl (by simp [refused])
  · intro gone minus
    refine ⟨fun h => if_pos h, fun e he => ?_⟩
    have hsome : victims p s ≠ [] := by
      intro h0
      have he : (victims p s).getLast? = some e := he
      rw [h0] at he
      cases he
    have hlast := (@cancelAll_last cause (victims p s)) he s
    rw [queue_diff_victims] at hlast
    exact ⟨_, if_neg hsome, hlast,
      cancelAll_money cause victims_driving s, cancelAll_reports cause victims_driving s⟩

end Sys2Proof.Machine
end

section
/-! PROOFS. What a vend outcome leaves (R71, R72): first what the operations on its way tell and send, then the
money, and the statement. -/

namespace Sys2Proof.Machine

/-! ## Reports that stay, and the part's own frames -/

/-- Up to n events have been raised on the way from s to t, and no report is gone. -/
structure Told (n : Nat) (s t : State) : Prop where
  clock : stamp t = stamp s
  kept : ∀ x ∈ reports s, x ∈ reports t
  room : t.events.queue.length ≤ s.events.queue.length + n

/-- The own frames that wait and those in the queues are the same. -/
structure SameOwnFrames (s t : State) : Prop where
  waiting : ∀ p, (t.port p).waiting = (s.port p).waiting
  own : ∀ p, ((t.port p).tx.filter fun f => decide (f.kind = .own)) =
    (s.port p).tx.filter fun f => decide (f.kind = .own)

theorem Told.refl (s : State) : Told 0 s s := ⟨rfl, fun _ h => h, by omega⟩

theorem Told.trans {n m : Nat} {s t u : State} (h : Told n s t) (k : Told m t u) : Told (n + m) s u :=
  ⟨k.clock.trans h.clock, fun x hx => k.kept x (h.kept x hx), by have := h.room; have := k.room; omega⟩

theorem Told.mono {n m : Nat} {s t : State} (h : Told n s t) (hn : n ≤ m) : Told m s t :=
  ⟨h.clock, h.kept, by have := h.room; omega⟩

theorem SameOwnFrames.trans {s t u : State} (h : SameOwnFrames s t) (k : SameOwnFrames t u) : SameOwnFrames s u :=
  ⟨fun p => (k.waiting p).trans (h.waiting p), fun p => (k.own p).trans (h.own p)⟩

/-- A change of what neither the reports nor the ports depend on. -/
theorem told_of_same (s t : State) (hlink : t.link = s.link) (hevents : t.events = s.events)
    (hclock : stamp t = stamp s) : Told 0 s t :=
  ⟨hclock, fun x hx => by simpa only [reports, State.port, hlink, hevents] using hx, by rw [hevents]; omega⟩

theorem sameOwnFrames_of_link {s t : State} (h : t.link = s.link) : SameOwnFrames s t :=
  ⟨fun p => by simp only [State.port, h], fun p => by simp only [State.port, h]⟩

theorem SuppliedOnly.told {s t : State} (h : SuppliedOnly s t) : Told 0 s t :=
  told_of_same s t h.link h.events h.stamp_eq

theorem SameButReports.sameOwnFrames {s t : State} (h : SameButReports s t) : SameOwnFrames s t := by
  obtain ⟨sent, hsent, ht⟩ := h
  have hport (p : PortId) : t.port p = if p = 0 then { s.port 0 with tx := (s.port 0).tx ++ sent } else s.port p := by
    rw [ht]
    by_cases hp : p = 0
    · subst hp; simp [State.port]
    · have hne : (0 : Nat) ≠ p.val := fun h => hp (Fin.ext h.symm)
      simp [State.port, hp, Vector.getElem_set_ne, hne]
  have hown : (sent.filter fun f => decide (f.kind = .own)) = [] := by
    rw [List.filter_eq_nil_iff]
    intro f hf
    simp [hsent f hf]
  refine ⟨fun p => ?_, fun p => ?_⟩
  · rw [hport]
    split
    · rename_i hp; rw [hp]
    · rfl
  · rw [hport]
    split
    · rename_i hp; rw [hp]; simp [hown]
    · rfl

theorem drain_length (own c : Byte) (es : List Event) (lost : Nat) (q : Port) :
    (drain own c es lost q).1.length ≤ es.length := by
  induction es generalizing lost q with
  | nil => simp [drain]
  | cons e es ih =>
    unfold drain
    split
    · exact (ih 0 _).trans (by simp)
    · simp

theorem told_pump (s : State) : Told 0 s (pump s) :=
  ⟨rfl, fun x hx => by rw [(pump_same s).2]; exact hx, drain_length _ _ _ _ _⟩

theorem told_raise (c : EventCode) (a : Byte) (v : Word) (s : State) : Told 1 s (raise c a v s) := by
  have hplace : Told 1 s (s.mapEvents fun q =>
      q.place { code := c, subject := a, value := v, time := stamp s }) := by
    refine ⟨rfl, fun x hx => ?_, ?_⟩
    · simp only [reports, State.mapEvents, EventQueue.place] at hx ⊢
      split
      · exact hx
      · rw [List.map_append, ← List.append_assoc]
        exact List.mem_append_left _ hx
    · simp only [State.mapEvents, EventQueue.place]
      split <;> simp
  exact (hplace.trans (told_pump _))

theorem sameOwnFrames_raise (c : EventCode) (a : Byte) (v : Word) (s : State) : SameOwnFrames s (raise c a v s) :=
  (becomes_raised s c a v).1.sameOwnFrames

/-- A raised event is among the reports when the event queue has room. -/
theorem mem_reports_raise (c : EventCode) (a : Byte) (v : Word) {s : State} (h : s.events.queue.length < 16) :
    Event.line { code := c, subject := a, value := v, time := stamp s } ∈ reports (raise c a v s) := by
  rw [(becomes_raised s c a v).2 (by simpa using h)]
  simp

/-! ## The accept set and the payout engine -/

theorem events_issue (p : PortId) (q : Port) (f : Frame) :
    ((q.issue p f).tx.filter fun x => decide (x.kind = .event)) = q.tx.filter fun x => decide (x.kind = .event) := by
  unfold Port.issue
  split
  · simp [Port.enqueue]
  · split <;> rfl

theorem told_sendOwn (r : Role) (type : Byte) (d : List Byte) (s : State) : Told 0 s (sendOwn r type d s) := by
  unfold sendOwn
  split
  · exact .refl s
  · rename_i n _
    refine ⟨rfl, fun x hx => ?_, by simp [State.mapPort]⟩
    have hport : (((s.mapPort n.port fun q => q.issue n.port
        { dest := n.node, src := s.link.ownNode, type := type, payload := d }).port 0).tx.filter
          fun f => decide (f.kind = .event)) = (s.port 0).tx.filter fun f => decide (f.kind = .event) := by
      rw [port_mapPort]
      split
      · exact events_issue _ _ _
      · rfl
    simpa only [reports, hport, State.mapPort_events] using hx

theorem told_recomputeAccept (s : State) : Told 0 s (recomputeAccept s) := by
  unfold recomputeAccept
  split
  · exact (told_of_same s (s.mapCoins fun c => { c with lastAccept := some (acceptSet s) }) rfl rfl rfl).trans
      (told_sendOwn _ _ _ _)
  · exact .refl s

theorem told_passCash (b : Word) (s : State) : Told 0 s (passCash b s) := by
  unfold passCash
  split
  · exact .refl s
  · exact told_recomputeAccept s

theorem told_unpaid (a : Word) (s : State) : Told 1 s (unpaid a s) :=
  ((told_of_same s (s.mapCredit fun c => { c with payout := c.payout - a, cash := c.cash + a }) rfl rfl rfl).trans
    (told_raise _ _ _ _)).trans (told_passCash _ _)

theorem told_mapEngine (s : State) (f : Engine → Engine) : Told 0 s (s.mapEngine f) := told_of_same s _ rfl rfl rfl

theorem told_endShort (done : Word) (s : State) : Told 3 s (endShort done s) := by
  unfold endShort engineIdle
  exact (((told_unpaid _ s).trans (told_raise _ _ _ _)).trans (told_raise _ _ _ _)).trans (told_mapEngine _ _)

theorem told_planRun (excluded : List TubeId) (done : Word) (s : State) : Told 3 s (planRun excluded done s) := by
  unfold planRun
  simp only []
  split
  · exact told_endShort done s
  · exact (told_mapEngine s _).mono (by omega)

theorem told_start (s : State) : Told 3 s (start s) := by
  unfold start
  split
  · split
    · exact (Told.refl s).mono (by omega)
    · exact told_planRun _ _ s
  · split
    · exact (told_mapEngine s _).mono (by omega)
    · exact (Told.refl s).mono (by omega)

/-! ## What a plan depends on -/

/-- The plan reads the tubes, the coin table, the allowance and the fault list alone. -/
theorem payoutPlan_congr {u v : State} (hc : { u.coins with lastAccept := v.coins.lastAccept } = v.coins)
    (hf : u.faults = v.faults) (excluded : List TubeId) (n : Nat) : payoutPlan excluded n u = payoutPlan excluded n v := by
  have hu : payoutPlan excluded n u =
      payoutPlan excluded n { v with coins := { u.coins with lastAccept := v.coins.lastAccept }, faults := u.faults } := rfl
  rw [hu, hc, hf]

theorem planRun_credit (excluded : List TubeId) (done : Word) (s : State) :
    (planRun excluded done s).money.credit =
      if (payoutPlan excluded s.money.credit.payout.toNat s).1 = [] then
        { s.money.credit with payout := s.money.credit.payout - s.money.credit.payout,
                              cash := s.money.credit.cash + s.money.credit.payout }
      else s.money.credit := by
  cases hp : (payoutPlan excluded s.money.credit.payout.toNat s).1 with
  | nil =>
    rw [planRun_of_empty hp, if_pos rfl]
    simp [endShort, engineIdle, State.mapEngine, unpaid, raiseCredit, State.mapCredit]
  | cons e rest =>
    rw [planRun_of_plan hp, if_neg (by simp)]
    rfl

theorem planRun_engine (excluded : List TubeId) (done : Word) (s : State) :
    (planRun excluded done s).coins.engine =
      let p := payoutPlan excluded s.money.credit.payout.toNat s
      match p.1 with
      | [] => Reset.engine
      | e :: rest =>
        { manual := false, phase := .pulse, timerMs := 40, plan := e :: rest, remainder := amount p.2,
          current := some e.1, excluded := excluded, paid := done, startWaiting := false } := by
  simp only []
  cases hp : (payoutPlan excluded s.money.credit.payout.toNat s).1 with
  | nil => rw [planRun_of_empty hp]; rfl
  | cons e rest => rw [planRun_of_plan hp]; rfl

/-- Two states in which START does the same to the credit record and to the engine. -/
structure SameForStart (u v : State) : Prop where
  credit : u.money.credit = v.money.credit
  coins : { u.coins with lastAccept := v.coins.lastAccept } = v.coins
  faults : u.faults = v.faults

theorem SameForStart.engine {u v : State} (h : SameForStart u v) : u.coins.engine = v.coins.engine := by
  rw [← h.coins]

theorem start_congr {u v : State} (h : SameForStart u v) :
    (start u).money.credit = (start v).money.credit ∧ (start u).coins.engine = (start v).coins.engine := by
  have hcredit := planRun_credit [] 0 u
  have hengine := planRun_engine [] 0 u
  rw [payoutPlan_congr h.coins h.faults, h.credit, ← planRun_credit] at hcredit
  rw [payoutPlan_congr h.coins h.faults, h.credit, ← planRun_engine] at hengine
  unfold start
  rw [h.engine, h.credit]
  split
  · split
    · exact ⟨h.credit, h.engine⟩
    · exact ⟨hcredit, hengine⟩
  · split
    · refine ⟨h.credit, ?_⟩
      simp only [State.mapEngine, State.mapCoins_coins, h.engine]
    · exact ⟨h.credit, h.engine⟩

/-! ## The start of a head and what ends an entry -/

/-- Up to n events and no own frame on the way from s to t. -/
def Tells (n : Nat) (s t : State) : Prop := Told n s t ∧ SameOwnFrames s t

theorem Tells.trans {n m : Nat} {s t u : State} (h : Tells n s t) (k : Tells m t u) : Tells (n + m) s u :=
  ⟨h.1.trans k.1, h.2.trans k.2⟩

theorem Tells.mono {n m : Nat} {s t : State} (h : Tells n s t) (hn : n ≤ m) : Tells m s t := ⟨h.1.mono hn, h.2⟩

theorem tells_of_same (s t : State) (hlink : t.link = s.link) (hevents : t.events = s.events)
    (hclock : stamp t = stamp s) : Tells 0 s t :=
  ⟨told_of_same s t hlink hevents hclock, sameOwnFrames_of_link hlink⟩

theorem Tells.refl (s : State) : Tells 0 s s := tells_of_same s s rfl rfl rfl

theorem tells_raise (c : EventCode) (a : Byte) (v : Word) (s : State) : Tells 1 s (raise c a v s) :=
  ⟨told_raise c a v s, sameOwnFrames_raise c a v s⟩

theorem SuppliedOnly.tells {s t : State} (h : SuppliedOnly s t) : Tells 0 s t := ⟨h.told, sameOwnFrames_of_link h.link⟩

theorem takeTrace_tells (tag : Byte) (m : Motor) (s : State) : Tells 1 s (takeTrace tag m s) := by
  have hbusy := tells_raise .traceBusy tag 0 s
  unfold takeTrace
  split
  · exact (@Tells.mono 0) (tells_of_same _ _ rfl rfl rfl) (by omega)
  · exact hbusy
  · exact hbusy

/-- What a grant of the vend claim tells: at most TRACE-BUSY. -/
theorem tryVend_tells (s : State) : Tells 1 s (tryVend s) := by
  unfold tryVend
  split
  · exact (Tells.refl s).mono (by omega)
  · rename_i e es _
    split
    · have hgrant : Tells 0 s (vendGranted e es s) := tells_of_same s _ rfl rfl rfl
      unfold firstEnergise
      simp only []
      split
      · exact hgrant.trans (takeTrace_tells _ _ _)
      · exact hgrant.mono (by omega)
    · exact (Tells.refl s).mono (by omega)

theorem consider_tells (s : State) : Tells 1 s (consider s) := by
  unfold consider
  split
  · have hc := (tryCompressor_suppliedOnly s).tells
    have hh := (tryHeater_suppliedOnly (tryVendBehind (tryCompressor s))).tells
    rcases tryVendBehind_cases (tryCompressor s) with hb | hb
    · rw [hb] at hh ⊢
      exact (hc.trans hh).mono (by omega)
    · rw [hb] at hh ⊢
      exact (hc.trans (tryVend_tells _)).trans hh
  · exact ((tryVend_tells s).trans (tryCompressor_suppliedOnly _).tells).trans (tryHeater_suppliedOnly _).tells

theorem startHead_tells (s : State) : Tells 1 s (startHead s) := by
  unfold startHead
  split
  · exact (Tells.refl s).mono (by omega)
  · rename_i e es _
    split
    · unfold placeVend
      split
      · exact (tells_of_same s (s.mapSupply _) rfl rfl rfl).trans (consider_tells _)
      · exact (Tells.refl s).mono (by omega)
    · exact (Tells.refl s).mono (by omega)

theorem cancelOne_tells (c : CancelCause) (s : State) {e : Entry} (h : e.driving = false) :
    Tells 1 s (cancelOne c s e) := by
  obtain ⟨u, hu⟩ := cancelOne_cancelled c s h
  rw [hu.raised]
  exact (tells_of_same s u hu.link hu.events hu.clock).trans (tells_raise _ _ _ u)

theorem cancelAll_tells (c : CancelCause) {l : List Entry} (hl : ∀ e ∈ l, e.driving = false) (s : State) :
    Tells l.length s (l.foldl (cancelOne c) s) := by
  induction l generalizing s with
  | nil => exact .refl s
  | cons e l ih =>
    exact ((cancelOne_tells c s (hl e List.mem_cons_self)).trans
      (ih (fun x hx => hl x (List.mem_cons_of_mem e hx)) _)).mono (by simp; omega)

theorem cancelWhere_tells (p : Entry → Bool) (c : CancelCause) (s : State) :
    ∃ n, Tells n s (cancelWhere p c s) := by
  unfold cancelWhere
  split
  · exact ⟨_, .refl s⟩
  · exact ⟨_, (cancelAll_tells c victims_driving s).trans (startHead_tells _)⟩

/-! ## The cancellation as a whole (R65) -/

theorem cancelWhere_money (p : Entry → Bool) (c : CancelCause) (s : State) :
    (cancelWhere p c s).money = { s.money with credit := { s.money.credit with
      committed := committedAfter .cash (victims p s) s.money.credit.committed
      cardCommitted := committedAfter .card (victims p s) s.money.credit.cardCommitted } } := by
  unfold cancelWhere
  split
  · rename_i h
    rw [h]; rfl
  · have hhead (t : State) : (startHead t).money = t.money := by simp
    rw [hhead, cancelAll_money c victims_driving]

theorem startHead_tags (s : State) : (startHead s).vend.queue.map (·.tag) = s.vend.queue.map (·.tag) := by
  rcases startHead_queue s with h | ⟨e, es, h, h'⟩
  · rw [h]
  · rw [h, h']; rfl

theorem cancelWhere_tags (p : Entry → Bool) (c : CancelCause) (s : State) :
    (cancelWhere p c s).vend.queue.map (·.tag) = (s.vend.queue.filter fun e => e.driving || !p e).map (·.tag) := by
  rw [← queue_diff_victims]
  unfold cancelWhere
  split
  · rename_i h
    rw [h, List.diff_nil]
  · rw [startHead_tags, cancelAll_queue]

theorem cancelWhere_selections (p : Entry → Bool) (c : CancelCause) (s : State) :
    (cancelWhere p c s).vend.selections = s.vend.selections := by
  unfold cancelWhere
  split
  · rfl
  · obtain ⟨q, hq⟩ := startHead_vend ((victims p s).foldl (cancelOne c) s)
    obtain ⟨o, ho⟩ := cancelAll_vend c (victims p s) s
    rw [hq, ho]

theorem cancelWhere_of_none {p : Entry → Bool} (c : CancelCause) {s : State} (h : victims p s = []) :
    cancelWhere p c s = s := if_pos h

/-! ## After the charge or the release (R71, from the selection's kept fields on) -/

/-- Whether the outcome takes a WAITING entry with it (R71). -/
def goesAlong (e : Entry) (o : VendOutcome) (x : Entry) : Bool :=
  decide (o = .notDelivered ∧ x.selection = e.selection)

/-- What follows the charge or the release of the head entry (R71). -/
def concluded (e : Entry) (o : VendOutcome) (s : State) : State :=
  startHead (cancelWhere (goesAlong e o) .empty
    (finishEntry e o none (s.mapSelection e.selection fun x => x.after o)))

theorem settleVend_concluded (e : Entry) (o : VendOutcome) (s : State) :
    settleVend e o s = concluded e o
      (if o.isDelivery then debit e ((releaseVend s).mapVend fun v => { v with queue := v.queue.tail })
        else releaseFunds e ((releaseVend s).mapVend fun v => { v with queue := v.queue.tail })) := by
  unfold settleVend concluded
  simp only []
  split
  · rename_i h
    have hsame : goesAlong e o = fun x => decide (x.selection = e.selection) := by
      funext x; simp [goesAlong, h]
    rw [hsame]
  · rename_i h
    rw [cancelWhere_of_none]
    simp [victims, goesAlong, h]

theorem finishEntry_vend (e : Entry) (o : VendOutcome) (c : Option CancelCause) (s : State) :
    (finishEntry e o c s).vend = { s.vend with
      lastOutcome := some { tag := e.tag, selection := e.selection, funds := e.funds, outcome := o, cause := c } } := by
  simp [finishEntry]

theorem finishEntry_tells (e : Entry) (o : VendOutcome) (c : Option CancelCause) (s : State) :
    Tells 1 s (finishEntry e o c s) :=
  (tells_of_same s (s.mapVend _) rfl rfl rfl).trans (tells_raise _ _ _ _)

theorem concluded_coins (e : Entry) (o : VendOutcome) (s : State) : (concluded e o s).coins = s.coins := by
  simp [concluded, State.mapSelection]

theorem concluded_money (e : Entry) (o : VendOutcome) (s : State) :
    (concluded e o s).money = { s.money with credit := { s.money.credit with
      committed := committedAfter .cash (victims (goesAlong e o) s) s.money.credit.committed
      cardCommitted := committedAfter .card (victims (goesAlong e o) s) s.money.credit.cardCommitted } } := by
  have hhead (t : State) : (startHead t).money = t.money := by simp
  have hqueue : victims (goesAlong e o) (finishEntry e o none (s.mapSelection e.selection fun x => x.after o)) =
      victims (goesAlong e o) s := by
    rw [victims, finishEntry_vend]; rfl
  rw [concluded, hhead, cancelWhere_money, hqueue]
  simp [State.mapSelection]

theorem concluded_selections (e : Entry) (o : VendOutcome) (s : State) :
    (concluded e o s).vend.selections = s.vend.selections.set e.selection (s.vend.selections[e.selection].after o) := by
  obtain ⟨q, hq⟩ := startHead_vend (cancelWhere (goesAlong e o) .empty
    (finishEntry e o none (s.mapSelection e.selection fun x => x.after o)))
  rw [concluded, hq, cancelWhere_selections, finishEntry_vend]
  rfl

theorem concluded_tags (e : Entry) (o : VendOutcome) (s : State) :
    (concluded e o s).vend.queue.map (·.tag) =
      (s.vend.queue.filter fun x => x.driving || !goesAlong e o x).map (·.tag) := by
  rw [concluded, startHead_tags, cancelWhere_tags, finishEntry_vend]
  rfl

theorem concluded_last {e : Entry} {o : VendOutcome} {s : State} (h : victims (goesAlong e o) s = []) :
    (concluded e o s).vend.lastOutcome =
      some { tag := e.tag, selection := e.selection, funds := e.funds, outcome := o, cause := none } := by
  have hnone : victims (goesAlong e o) (finishEntry e o none (s.mapSelection e.selection fun x => x.after o)) = [] := by
    rw [← h, victims, finishEntry_vend]; rfl
  obtain ⟨q, hq⟩ := startHead_vend (finishEntry e o none (s.mapSelection e.selection fun x => x.after o))
  rw [concluded, cancelWhere_of_none _ hnone, hq, finishEntry_vend]

theorem concluded_tells (e : Entry) (o : VendOutcome) (s : State) : ∃ n, Tells n s (concluded e o s) := by
  obtain ⟨n, hn⟩ := cancelWhere_tells (goesAlong e o) .empty
    (finishEntry e o none (s.mapSelection e.selection fun x => x.after o))
  exact ⟨_, (((tells_of_same s (s.mapSelection e.selection _) rfl rfl rfl).trans (finishEntry_tells e o none _)).trans
    hn).trans (startHead_tells _)⟩

/-- VEND-DONE of the head entry. -/
theorem concluded_reports {e : Entry} {o : VendOutcome} {s : State} (h : s.events.queue.length < 16) :
    Event.line { code := .vendDone, subject := e.tag, value := packed (byteOf e.selection) o.code 0 0, time := stamp s } ∈
      reports (concluded e o s) := by
  obtain ⟨n, hn⟩ := cancelWhere_tells (goesAlong e o) .empty
    (finishEntry e o none (s.mapSelection e.selection fun x => x.after o))
  refine (hn.trans (startHead_tells _)).1.kept _ ?_
  exact (@mem_reports_raise .vendDone e.tag _ ((s.mapSelection e.selection fun x => x.after o).mapVend _)) h

end Sys2Proof.Machine
end

section
/-! PROOFS. DEBIT and RELEASE of a vend's outcome (R14, R18 to R20), and the statement about the outcome. -/

namespace Sys2Proof.Machine

/-! ## The credit record at DEBIT and RELEASE -/

/-- Whether an ENDING session waits for this entry (R19, R20). -/
def Closes (e : Entry) (c : Credit) : Prop := c.session = .ending ∧ e.funds = .card

/-- The credit record without a session. -/
def Credit.closed (c : Credit) : Credit := { c with session := .none, funds := none }

theorem endSession_of_closes {e : Entry} {s : State} (hd : e.driving = true) (h : Closes e s.money.credit) :
    endSession e s = raise .cardClosed 0 (s.money.credit.funds.getD 0) (s.mapCredit Credit.closed) :=
  if_pos ⟨h.1, h.2, hd⟩

theorem endSession_of_not_closes {e : Entry} {s : State} (h : ¬ Closes e s.money.credit) : endSession e s = s :=
  if_neg fun k => h ⟨k.1, k.2.1⟩

theorem endSession_tells (e : Entry) (s : State) : Tells 1 s (endSession e s) := by
  unfold endSession
  split
  · exact (tells_of_same s (s.mapCredit _) rfl rfl rfl).trans (tells_raise _ _ _ _)
  · exact (Tells.refl s).mono (by omega)

theorem debitCash_of_kept {e : Entry} {s : State}
    (h : ¬ (s.money.credit.vendMode = .single ∧ available s.money.credit ≠ 0)) :
    debitCash e s = passCash s.money.credit.cash (chargeCash e s) := by
  refine if_neg fun k => h ⟨k.1, fun h0 => k.2 ?_⟩
  simp only [available, chargeCash, State.mapMoney_money] at h0 ⊢
  bv_omega

theorem debitCash_of_returned {e : Entry} {s : State} (h : s.money.credit.vendMode = .single)
    (hr : available s.money.credit ≠ 0) :
    debitCash e s = start (passCash s.money.credit.cash (returnRest (chargeCash e s))) := by
  refine if_pos ⟨h, fun h0 => hr ?_⟩
  simp only [available, chargeCash, State.mapMoney_money] at h0 ⊢
  bv_omega

theorem recomputeAccept_coins (x : Option (BitVec 16)) (s : State) :
    { (recomputeAccept s).coins with lastAccept := x } = { s.coins with lastAccept := x } := by
  unfold recomputeAccept
  split
  · simp [issueAccept]
  · rfl

theorem passCash_coins (b : Word) (x : Option (BitVec 16)) (s : State) :
    { (passCash b s).coins with lastAccept := x } = { s.coins with lastAccept := x } := by
  unfold passCash
  split
  · rfl
  · exact recomputeAccept_coins x s

theorem passCash_engine (b : Word) (s : State) : (passCash b s).coins.engine = s.coins.engine := by
  have h := congrArg Coins.engine (passCash_coins b none s)
  exact h

/-- START touches no more of the money than the credit record. -/
theorem start_money (s : State) : (start s).money = { s.money with credit := (start s).money.credit } := by
  have hplan : (planRun [] 0 s).money = { s.money with credit := (planRun [] 0 s).money.credit } := by
    unfold planRun
    simp only []
    split
    · simp [endShort, engineIdle, State.mapEngine, unpaid, raiseCredit, State.mapCredit]
    · rfl
  unfold start
  split
  · split
    · rfl
    · exact hplan
  · split <;> rfl

theorem debitCash_told (e : Entry) (s : State) : Told 3 s (debitCash e s) := by
  have hcharge : Told 0 s (chargeCash e s) := told_of_same _ _ rfl rfl rfl
  unfold debitCash
  simp only []
  split
  · exact ((hcharge.trans (told_of_same _ (returnRest (chargeCash e s)) rfl rfl rfl)).trans
      (told_passCash _ _)).trans (told_start _)
  · exact (hcharge.trans (told_passCash _ _)).mono (by omega)

theorem sendOwn_port_congr {r : Role} {type : Byte} {d : List Byte} {u v : State} (h : u.link = v.link) (p : PortId) :
    (sendOwn r type d u).port p = (sendOwn r type d v).port p := by
  unfold sendOwn
  rw [h]
  split
  · simp only [State.port, h]
  · simp only [State.port, State.mapPort, State.mapLink, h]

/-! ## The head entry leaves -/

/-- The queue without its head, its claim released (R71). -/
def headGone (s : State) : State := (releaseVend s).mapVend fun v => { v with queue := v.queue.tail }

theorem headGone_money (s : State) : (headGone s).money = s.money := (releaseVend_suppliedOnly s).money
theorem headGone_coins (s : State) : (headGone s).coins = s.coins := (releaseVend_suppliedOnly s).coins
theorem headGone_faults (s : State) : (headGone s).faults = s.faults := (releaseVend_suppliedOnly s).faults
theorem headGone_link (s : State) : (headGone s).link = s.link := (releaseVend_suppliedOnly s).link

theorem headGone_vend {s : State} {e : Entry} {es : List Entry} (h : s.vend.queue = e :: es) :
    (headGone s).vend = { s.vend with queue := es } := by
  show { (releaseVend s).vend with queue := (releaseVend s).vend.queue.tail } = _
  rw [(releaseVend_suppliedOnly s).vend, h]
  rfl

theorem headGone_tells (s : State) : Tells 0 s (headGone s) :=
  (releaseVend_suppliedOnly s).tells.trans (tells_of_same (releaseVend s) (headGone s) rfl rfl rfl)

/-- The state in which the outcome's charge or release has been made. -/
def charged (e : Entry) (o : VendOutcome) (s : State) : State :=
  if o.isDelivery then debit e (headGone s) else releaseFunds e (headGone s)

theorem settleVend_of_charged (e : Entry) (o : VendOutcome) (s : State) :
    settleVend e o s = concluded e o (charged e o s) := settleVend_concluded e o s

theorem debit_vend (e : Entry) (s : State) : (debit e s).vend = s.vend := by
  unfold debit
  split
  · unfold debitCash
    simp only []
    split <;> simp [returnRest, chargeCash, State.mapCredit]
  · simp [debitCard_eq, cardCharged]

theorem charged_vend (e : Entry) (o : VendOutcome) (s : State) : (charged e o s).vend = (headGone s).vend := by
  unfold charged
  split
  · exact debit_vend e _
  · simp

theorem debitCard_told (e : Entry) (s : State) : Told 1 s (debitCard e s) := by
  rw [debitCard_eq]
  exact ((told_of_same s (cardCharged e _ s) rfl rfl rfl).trans (told_sendOwn _ _ _ _)).trans (endSession_tells e _).1

theorem charged_told (e : Entry) (o : VendOutcome) (s : State) : Told 3 s (charged e o s) := by
  have hgone := (headGone_tells s).1
  unfold charged
  split
  · unfold debit
    split
    · exact (hgone.trans (debitCash_told e _)).mono (by omega)
    · exact (hgone.trans (debitCard_told e _)).mono (by omega)
  · rw [releaseFunds_eq]
    exact ((hgone.trans (told_of_same _ ((headGone s).mapCredit _) rfl rfl rfl)).trans
      (endSession_tells e _).1).mono (by omega)

theorem victims_goesAlong_of_ne {e : Entry} {o : VendOutcome} (h : o ≠ .notDelivered) (s : State) :
    victims (goesAlong e o) s = [] := by
  simp [victims, goesAlong, h]

theorem concluded_money_of_ne {e : Entry} {o : VendOutcome} (h : o ≠ .notDelivered) (s : State) :
    (concluded e o s).money = s.money := by
  rw [concluded_money, victims_goesAlong_of_ne h]
  rfl

theorem isDelivery_iff {o : VendOutcome} : o.isDelivery = true ↔ o = .delivered ∨ o = .deliveredUnverified := by
  cases o <;> simp [VendOutcome.isDelivery]

theorem vendOutcome_of_head {s : State} {e : Entry} {es : List Entry} (h : s.vend.queue = e :: es) (tag : Byte)
    (o : VendOutcome) :
    vendOutcome tag o s = if e.driving = true ∧ e.tag = tag then settleVend e o s else s := by
  simp only [vendOutcome, h]

/-- The head entry's outcome: the charge or the release, then the rest. -/
theorem vendOutcome_of_driving {s : State} {e : Entry} {es : List Entry} (h : s.vend.queue = e :: es) (o : VendOutcome)
    (hd : e.driving = true) : vendOutcome e.tag o s = concluded e o (charged e o s) := by
  rw [vendOutcome_of_head h, if_pos ⟨hd, rfl⟩, settleVend_of_charged]

theorem victims_charged {s : State} {e : Entry} {es : List Entry} (h : s.vend.queue = e :: es) (o : VendOutcome) :
    victims (goesAlong e o) (charged e o s) = es.filter fun y => !y.driving && goesAlong e o y := by
  rw [victims, charged_vend, headGone_vend h]

/-! ## What is charged -/

theorem charged_of_cash {e : Entry} {o : VendOutcome} (ho : o.isDelivery = true) (hf : e.funds = .cash) (s : State) :
    charged e o s = debitCash e (headGone s) := by
  simp only [charged, ho, if_true, debit, hf]

theorem charged_of_card {e : Entry} {o : VendOutcome} (ho : o.isDelivery = true) (hf : e.funds = .card) (s : State) :
    charged e o s = endSession e (sendOwn .cardReader 0x78
      ([newSettleTag s.money, byteOf e.selection] ++ halfOf e.price)
      (cardCharged e (newSettleTag s.money) (headGone s))) := by
  simp only [charged, ho, if_true, debit, hf, debitCard_eq, headGone_money]
  rfl

theorem charged_of_release {e : Entry} {o : VendOutcome} (ho : o.isDelivery = false) (s : State) :
    charged e o s = endSession e ((headGone s).mapCredit (Credit.without e)) := by
  simp only [charged, ho, Bool.false_eq_true, if_false, releaseFunds_eq]

/-- The credit record of a cash-funded delivery, when nothing is moved to Q. -/
theorem charged_cash_kept {e : Entry} {o : VendOutcome} {s : State} (ho : o.isDelivery = true) (hf : e.funds = .cash)
    (h : ¬ (s.money.credit.vendMode = .single ∧ available s.money.credit ≠ 0)) :
    (charged e o s).money = (chargeCash e s).money ∧ (charged e o s).coins.engine = s.coins.engine := by
  rw [charged_of_cash ho hf, debitCash_of_kept (by rw [headGone_money]; exact h), passCash_engine]
  refine ⟨?_, by rw [← headGone_coins s]; rfl⟩
  simp [chargeCash, headGone_money]

/-- The rest of the cash credit is moved to Q with START (R18). -/
theorem charged_cash_returned {e : Entry} {o : VendOutcome} {s : State} (ho : o.isDelivery = true)
    (hf : e.funds = .cash) (h : s.money.credit.vendMode = .single) (hr : available s.money.credit ≠ 0) :
    (charged e o s).money =
        { (returnRest (chargeCash e s)).money with credit := (start (returnRest (chargeCash e s))).money.credit } ∧
      (charged e o s).coins.engine = (start (returnRest (chargeCash e s))).coins.engine := by
  have hmoney : (returnRest (chargeCash e (headGone s))).money = (returnRest (chargeCash e s)).money := by
    simp [returnRest, chargeCash, State.mapCredit, headGone_money]
  have hpass (b : Word) (t : State) : (passCash b t).money = t.money := by simp
  have hsame : SameForStart (passCash (headGone s).money.credit.cash (returnRest (chargeCash e (headGone s))))
      (returnRest (chargeCash e s)) := by
    refine ⟨by rw [hpass, hmoney], ?_, ?_⟩
    · rw [passCash_coins]
      show { (headGone s).coins with lastAccept := s.coins.lastAccept } = s.coins
      rw [headGone_coins]
    · have hfaults (b : Word) (t : State) : (passCash b t).faults = t.faults := by simp
      rw [hfaults]
      exact headGone_faults s
  obtain ⟨hcredit, hengine⟩ := start_congr hsame
  rw [charged_of_cash ho hf, debitCash_of_returned (by rw [headGone_money]; exact h) (by rw [headGone_money]; exact hr)]
  refine ⟨?_, hengine⟩
  rw [start_money, hcredit, hpass, hmoney]

/-- The credit record at the end of the session that waits for the entry. -/
theorem endSession_money {e : Entry} (hd : e.driving = true) (s : State) :
    (endSession e s).money = { s.money with credit := { s.money.credit with
      session := if decide (s.money.credit.session = .ending ∧ e.funds = .card) then .none else s.money.credit.session
      funds := if decide (s.money.credit.session = .ending ∧ e.funds = .card) then none
        else s.money.credit.funds } } := by
  by_cases h : Closes e s.money.credit
  · rw [endSession_of_closes hd h]
    have h : s.money.credit.session = .ending ∧ e.funds = .card := h
    simp only [h, decide_true, if_true, raise_frame, and_self]
    rfl
  · rw [endSession_of_not_closes h]
    have h : ¬ (s.money.credit.session = .ending ∧ e.funds = .card) := h
    simp only [h, decide_false, Bool.false_eq_true, if_false]

theorem charged_money_of_release {e : Entry} {o : VendOutcome} (ho : o.isDelivery = false) (hd : e.driving = true)
    (s : State) :
    (charged e o s).money = { s.money with credit := { s.money.credit.without e with
      session := if decide (s.money.credit.session = .ending ∧ e.funds = .card) then .none else s.money.credit.session
      funds := if decide (s.money.credit.session = .ending ∧ e.funds = .card) then none
        else s.money.credit.funds } } := by
  rw [charged_of_release ho, endSession_money hd]
  simp only [State.mapCredit, State.mapMoney_money, headGone_money]
  rfl

theorem charged_money_of_card {e : Entry} {o : VendOutcome} (ho : o.isDelivery = true) (hf : e.funds = .card)
    (hd : e.driving = true) (s : State) :
    (charged e o s).money = { s.money with
      credit := { s.money.credit with
        funds := if decide (s.money.credit.session = .ending ∧ e.funds = .card) then none
          else s.money.credit.funds.map (· - amount e.price)
        cardCommitted := s.money.credit.cardCommitted - amount e.price
        session := if decide (s.money.credit.session = .ending ∧ e.funds = .card) then .none
          else s.money.credit.session }
      totals := { s.money.totals with
        cardSales := s.money.totals.cardSales + amount e.price
        vends := s.money.totals.vends + 1 }
      settlements := s.money.settlements ++
        [{ tag := newSettleTag s.money, selection := e.selection, amount := e.price, state := .sent, timerMs := 3000 }]
      nextSettleTag := newSettleTag s.money + 1 } := by
  rw [charged_of_card ho hf, endSession_money hd]
  simp only [sendOwn_frame, cardCharged, State.mapMoney_money, headGone_money]
  rfl

/-- CARD-CLOSED carries the funds that the closed session had. -/
theorem endSession_reports {e : Entry} {s : State} (hd : e.driving = true) (h : Closes e s.money.credit)
    (room : s.events.queue.length < 16) :
    Event.line { code := .cardClosed, subject := 0, value := s.money.credit.funds.getD 0, time := stamp s } ∈
      reports (endSession e s) := by
  rw [endSession_of_closes hd h]
  exact (@mem_reports_raise .cardClosed 0 _ (s.mapCredit Credit.closed)) room

/-- What of the money the outcome leaves, apart from the credit record and the card's settlement. -/
structure MoneyRest (e : Entry) (o : VendOutcome) (m n : Money) : Prop where
  totals : n.totals =
    if o.isDelivery then
      if e.funds = .cash then
        { m.totals with sales := m.totals.sales + amount e.price, vends := m.totals.vends + 1 }
      else { m.totals with cardSales := m.totals.cardSales + amount e.price, vends := m.totals.vends + 1 }
    else m.totals
  escrow : n.escrow = m.escrow
  notes : n.notes = m.notes
  lever : n.leverArmed = m.leverArmed
  settlements : ¬ (o.isDelivery = true ∧ e.funds = .card) → n.settlements = m.settlements
  settleTag : ¬ (o.isDelivery = true ∧ e.funds = .card) → n.nextSettleTag = m.nextSettleTag

theorem charged_money_rest {e : Entry} (o : VendOutcome) (hd : e.driving = true) (s : State) :
    MoneyRest e o s.money (charged e o s).money := by
  cases ho : o.isDelivery with
  | false =>
    rw [charged_money_of_release ho hd]
    exact ⟨by simp [ho], rfl, rfl, rfl, fun _ => rfl, fun _ => rfl⟩
  | true =>
    cases hf : e.funds with
    | card =>
      rw [charged_money_of_card ho hf hd]
      exact ⟨by simp [ho, hf], rfl, rfl, rfl, fun h => absurd ⟨ho, hf⟩ h, fun h => absurd ⟨ho, hf⟩ h⟩
    | cash =>
      by_cases h : s.money.credit.vendMode = .single ∧ available s.money.credit ≠ 0
      · rw [(charged_cash_returned ho hf h.1 h.2).1]
        exact ⟨by simp [ho, hf, returnRest, chargeCash, State.mapCredit], rfl, rfl, rfl, fun _ => rfl, fun _ => rfl⟩
      · rw [(charged_cash_kept ho hf h).1]
        exact ⟨by simp [ho, hf, chargeCash], rfl, rfl, rfl, fun _ => rfl, fun _ => rfl⟩

/-- The CARD-CLOSED of a session that waits for the entry (R19, R20). -/
theorem charged_reports {e : Entry} {o : VendOutcome} {s : State} (hd : e.driving = true)
    (hc : Closes e s.money.credit) (room : s.events.queue.length < 16) :
    Event.line { code := .cardClosed, subject := 0, time := stamp s
                 value := (if o.isDelivery then s.money.credit.funds.map (· - amount e.price)
                   else s.money.credit.funds).getD 0 } ∈ reports (charged e o s) := by
  have hgone := (headGone_tells s).1
  have hmoney := headGone_money s
  cases ho : o.isDelivery with
  | true =>
    rw [charged_of_card ho hc.2]
    have htold : Told 0 s (sendOwn .cardReader 0x78 ([newSettleTag s.money, byteOf e.selection] ++ halfOf e.price)
        (cardCharged e (newSettleTag s.money) (headGone s))) :=
      (hgone.trans (told_of_same _ (cardCharged e _ (headGone s)) rfl rfl rfl)).trans (told_sendOwn _ _ _ _)
    have hline := (@endSession_reports e (sendOwn .cardReader 0x78
      ([newSettleTag s.money, byteOf e.selection] ++ halfOf e.price)
      (cardCharged e (newSettleTag s.money) (headGone s)))) hd
      (by simpa [Closes, cardCharged, hmoney] using hc) (Nat.lt_of_le_of_lt htold.room room)
    rw [htold.clock] at hline
    simpa [cardCharged, hmoney] using hline
  | false =>
    rw [charged_of_release ho]
    have hline := (@endSession_reports e ((headGone s).mapCredit (Credit.without e))) hd
      (by simpa [Closes, State.mapCredit, Credit.without, hmoney] using hc) (Nat.lt_of_le_of_lt hgone.room room)
    have hclock : stamp ((headGone s).mapCredit (Credit.without e)) = stamp s := hgone.clock
    rw [hclock] at hline
    simpa [State.mapCredit, Credit.without, hmoney] using hline

/-- The own frames after a card-funded delivery are those of its SETTLE. -/
theorem charged_frames_of_card {e : Entry} {o : VendOutcome} (ho : o.isDelivery = true) (hf : e.funds = .card)
    (s : State) :
    SameOwnFrames (sendOwn .cardReader 0x78 ([newSettleTag s.money, byteOf e.selection] ++ halfOf e.price) s)
      (charged e o s) := by
  rw [charged_of_card ho hf]
  have hport (p : PortId) := @sendOwn_port_congr .cardReader 0x78 ([newSettleTag s.money, byteOf e.selection] ++ halfOf e.price)
    (cardCharged e (newSettleTag s.money) (headGone s)) s (headGone_link s) p
  exact SameOwnFrames.trans ⟨fun p => by rw [hport], fun p => by rw [hport]⟩ (endSession_tells e _).2

/-- Settles O22. -/
theorem outcomeSettlesHead : Obligations.OutcomeSettlesHead := by
  intro s e es o hq t price x c m d delivered closes session gone minus
  refine ⟨fun hd => ?_, fun tag htag => ?_, fun hd => ?_⟩
  · exact (vendOutcome_of_head hq e.tag o).trans (if_neg fun k => by rw [hd] at k; cases k.1)
  · exact (vendOutcome_of_head hq tag o).trans (if_neg fun k => htag k.2.symm)
  have ht : t = concluded e o (charged e o s) := vendOutcome_of_driving hq o hd
  have hdel : delivered = o.isDelivery := Bool.eq_iff_iff.mpr (by simp [delivered, isDelivery_iff])
  have hgone : victims (goesAlong e o) (charged e o s) = gone := victims_charged hq o
  have hvend : (charged e o s).vend = { s.vend with queue := es } := by rw [charged_vend, headGone_vend hq]
  have hcharged := charged_told e o s
  have hne (h : delivered = true) : o ≠ .notDelivered := by
    rintro rfl
    rw [hdel] at h
    cases h
  have hmoney (h : delivered = true) : t.money = (charged e o s).money := by
    rw [ht, concluded_money_of_ne (hne h)]
  have hmoneyAll := concluded_money e o (charged e o s)
  rw [← ht, hgone] at hmoneyAll
  have hrest := charged_money_rest o hd s
  refine ⟨?_, ?_, fun hnone => ?_, fun hroom => ?_, ?_, ?_, ?_, ?_, fun ho hf => ⟨?_, fun hkeep => ?_, fun hv hr => ?_⟩,
    fun ho hf => ?_, fun ho => ?_⟩
  · rw [ht, concluded_selections, hvend]
    cases o <;> rfl
  · rw [ht, concluded_tags, hvend]
    rfl
  · rw [ht, concluded_last (by rw [hgone, hnone])]
  · obtain ⟨n, hn⟩ := concluded_tells e o (charged e o s)
    have hroomCharged : (charged e o s).events.queue.length < 16 := by have := hcharged.room; omega
    have hdone := (@concluded_reports e o) hroomCharged
    rw [hcharged.clock, ← ht] at hdone
    refine ⟨by cases o <;> exact hdone, fun hclose => ?_⟩
    have hline := (@charged_reports _ o s) hd (by simpa [closes, Closes] using hclose) (by omega)
    have hkept := hn.1.kept _ hline
    rw [← ht, ← hdel] at hkept
    exact hkept
  · rw [hmoneyAll, hdel]
    refine hrest.totals.trans ?_
    cases o.isDelivery <;> cases e.funds <;> rfl
  · rw [hmoneyAll]; exact hrest.escrow
  · rw [hmoneyAll]; exact hrest.notes
  · rw [hmoneyAll]; exact hrest.lever
  · rw [hmoney ho]
    exact hrest.settlements (by rw [hf]; simp)
  · obtain ⟨hm, he⟩ := (@charged_cash_kept e _ s) (hdel ▸ ho) hf (by
      rintro ⟨hs, hav⟩
      rcases hkeep with hk | hk
      · have hs : c.vendMode = .single := hs
        rw [hs] at hk; cases hk
      · exact hav hk)
    refine ⟨?_, by rw [ht, concluded_coins, he]⟩
    show t.money.credit = _
    rw [hmoney ho, hm]
    rfl
  · obtain ⟨hm, he⟩ := (@charged_cash_returned e _ s) (hdel ▸ ho) hf hv hr
    have hmoved : SameForStart (returnRest (chargeCash e s))
        { s with money := { s.money with
          credit := { c with committed := c.committed - price, cash := c.committed - price,
                             payout := c.payout + (c.cash - c.committed) } } } := by
      refine ⟨?_, rfl, rfl⟩
      have hrest : c.cash - price - (c.committed - price) = c.cash - c.committed := by bv_omega
      show ({ c with cash := c.committed - price, committed := c.committed - price,
                     payout := c.payout + (c.cash - price - (c.committed - price)) } : Credit) = _
      rw [hrest]
    obtain ⟨hcredit, hengine⟩ := start_congr hmoved
    refine ⟨?_, by rw [ht, concluded_coins, he, hengine]⟩
    show t.money.credit = _
    rw [hmoney ho, hm]
    exact hcredit
  · have hm := (@charged_money_of_card e) (hdel ▸ ho) hf hd s
    rw [← hmoney ho] at hm
    refine ⟨by show t.money.credit = _; rw [hm], newSettleTag s.money, by rw [hm], by rw [hm], fun hfit => ?_, fun p => ?_⟩
    · obtain ⟨k, hk, hused⟩ := freeTag_first (fun b => s.money.settlements.any fun r => r.tag == b) 4 s.money.nextSettleTag
      refine ⟨k, hk, fun ⟨r, hr, hrt⟩ => newSettleTag_free hfit r hr hrt, fun j hj => ?_⟩
      simpa using hused j hj
    · obtain ⟨n, hn⟩ := concluded_tells e o (charged e o s)
      rw [← ht] at hn
      have hframes := ((@charged_frames_of_card e) (hdel ▸ ho) hf s).trans hn.2
      exact ⟨hframes.waiting p, hframes.own p⟩
  · have hm := (@charged_money_of_release e) (hdel ▸ ho) hd s
    refine ⟨?_, ?_, ?_⟩
    · show t.money.credit = { c with
        committed := committedAfter .cash (e :: gone) c.committed
        cardCommitted := committedAfter .card (e :: gone) c.cardCommitted
        session := session
        funds := if closes then none else c.funds }
      rw [hmoneyAll, hm, committedAfter_cons, committedAfter_cons]
      rfl
    · rw [hmoneyAll]; exact hrest.settlements (by rw [← hdel, ho]; simp)
    · rw [hmoneyAll]; exact hrest.settleTag (by rw [← hdel, ho]; simp)

end Sys2Proof.Machine
end

section
/-! PROOFS. The spiral matrix drive (chapter 4): the first energising, the current checks, turns, pause and tail,
the drop curtain and the trace buffer. -/

namespace Sys2Proof.Machine

/-! ## The first energising (R75, R81, R92, R93) -/

/-- The driver at a first energising, before the trace buffer is looked at. -/
def energisedFirst (tag : Byte) (x : Selection) (s : State) : State :=
  s.mapDrive fun d =>
    { d.energise (newDrive tag x d.monitor) with lastTag := tag, lastDrive := markMotors tag x d.lastDrive }

theorem firstEnergise_eq (tag : Byte) (x : Selection) (s : State) :
    firstEnergise tag x s = if x.trace then takeTrace tag x.motorA (energisedFirst tag x s)
      else energisedFirst tag x s := rfl

theorem takeTrace_of_free {tag : Byte} {m : Motor} {s : State} (h : s.drive.trace.state = .free) :
    takeTrace tag m s = (s.mapDrive fun d =>
      { d with trace := { state := .filling, tag := tag, motor := m.index, intervalMs := traceInterval d.settings,
                          samples := [Config.freeCurrent s.fresh] } }).nextFresh := by
  simp only [takeTrace, h]

theorem takeTrace_of_busy {tag : Byte} {m : Motor} {s : State} (h : s.drive.trace.state ≠ .free) :
    takeTrace tag m s = raise .traceBusy tag 0 s := by
  unfold takeTrace
  cases hs : s.drive.trace.state with
  | free => exact absurd hs h
  | filling => rfl
  | full => rfl

/-- The trace buffer is all of the driver that the last step of a first energising can change. -/
theorem firstEnergise_drive (tag : Byte) (x : Selection) (s : State) :
    ∃ tr, (firstEnergise tag x s).drive = { (energisedFirst tag x s).drive with trace := tr } := by
  rw [firstEnergise_eq]
  split
  · by_cases h : (energisedFirst tag x s).drive.trace.state = .free
    · exact ⟨_, by rw [takeTrace_of_free h]; rfl⟩
    · exact ⟨_, by rw [takeTrace_of_busy h]; rfl⟩
  · exact ⟨_, rfl⟩

theorem setIfInBounds_motors (tag : Byte) (l : List Motor) (v : Vector Byte 80) (i : Fin 80) :
    (l.foldl (fun v m => v.setIfInBounds m.index tag) v)[i] = if ∃ m ∈ l, m.index = i then tag else v[i] := by
  induction l generalizing v with
  | nil => simp
  | cons m l ih =>
    rw [List.foldl_cons, ih]
    by_cases hm : m.index = i
    · simp [hm]
    · by_cases hl : ∃ m ∈ l, m.index = i
      · rw [if_pos hl, if_pos (hl.imp fun _ h => ⟨List.mem_cons_of_mem _ h.1, h.2⟩)]
      · rw [if_neg hl, if_neg (by simpa [hm] using hl)]
        exact Vector.getElem_setIfInBounds_ne i.isLt hm

/-- The motors' turns of a record that is switched on. -/
theorem switchOn_turns (r : Drive) (h : r.kind ≠ .timed) :
    r.switchOn.a = { on := true, turn := .leaving, timerMs := 8000 } ∧
    r.switchOn.b = if r.kind = .twinSpiral then { on := true, turn := .leaving, timerMs := 8000 }
      else { on := false, turn := .ended, timerMs := 0 } := by
  unfold Drive.switchOn
  cases hk : r.kind with
  | spiral => exact ⟨rfl, rfl⟩
  | twinSpiral => exact ⟨rfl, rfl⟩
  | timed => exact absurd hk h

theorem switchOn_timed (r : Drive) (h : r.kind = .timed) :
    r.switchOn.a.on = true ∧ r.switchOn.b.on = false ∧ r.switchOn.phaseMs = r.runTime * 100 := by
  unfold Drive.switchOn
  simp only [h, and_self]

/-- A record that is switched on is the same drive, its motors apart. -/
theorem switchOn_same (r : Drive) : ∃ a b n, r.switchOn = { r with a := a, b := b, phaseMs := n } := by
  unfold Drive.switchOn
  split <;> exact ⟨_, _, _, rfl⟩

/-- Settles O27. -/
theorem firstEnergisingMakesDrive : Obligations.FirstEnergisingMakesDrive := by
  intro s tag x t turn interval
  obtain ⟨tr, htr⟩ := firstEnergise_drive tag x s
  have ht : t.drive = { (energisedFirst tag x s).drive with trace := tr } := htr
  have hsame : reports (energisedFirst tag x s) = reports s := rfl
  refine ⟨by rw [ht]; rfl, by rw [ht]; rfl, by rw [ht]; rfl, by rw [ht]; rfl, by rw [ht]; rfl, ?_, fun i => ?_,
    fun hx hfree => ?_, fun hx hbusy => ?_, fun hx => ?_⟩
  · refine ⟨(newDrive tag x s.drive.monitor).switchOn, by rw [ht]; rfl, ?_⟩
    have htimed := switchOn_timed (newDrive tag x s.drive.monitor)
    have hturns := switchOn_turns (newDrive tag x s.drive.monitor)
    obtain ⟨a, b, n, hr⟩ := switchOn_same (newDrive tag x s.drive.monitor)
    refine ⟨by rw [hr]; rfl, by rw [hr]; rfl, by rw [hr]; rfl, by rw [hr]; rfl, by rw [hr]; rfl, by rw [hr]; rfl,
      by rw [hr]; rfl, by rw [hr]; rfl, by rw [hr]; rfl, by rw [hr]; rfl, by rw [hr]; rfl, ?_, fun hk => ?_, htimed⟩
    · rw [hr]
      simp [newDrive]
    · obtain ⟨ha, hb⟩ := hturns hk
      refine ⟨ha, hb.trans ?_⟩
      show (if x.kind = .twinSpiral then _ else _) = _
      by_cases hk : x.kind = .twinSpiral <;> simp [hk, turn]
  · rw [ht]
    exact setIfInBounds_motors tag x.motors s.drive.lastDrive i
  · have hfree : (energisedFirst tag x s).drive.trace.state = .free := hfree
    have htaken : t = takeTrace tag x.motorA (energisedFirst tag x s) := if_pos hx
    rw [htaken, takeTrace_of_free hfree]
    exact ⟨rfl, rfl, rfl, rfl, rfl, rfl⟩
  · have hbusy : (energisedFirst tag x s).drive.trace.state ≠ .free := hbusy
    have htaken : t = raise .traceBusy tag 0 (energisedFirst tag x s) := by
      rw [← (@takeTrace_of_busy _ x.motorA) hbusy]
      exact if_pos hx
    refine ⟨by rw [htaken]; rfl, fun room => ?_⟩
    have := (becomes_raised (energisedFirst tag x s) .traceBusy tag 0).2 room
    rw [htaken, this]
    rfl
  · have hnone : t = energisedFirst tag x s := if_neg (by rw [hx]; exact Bool.false_ne_true)
    rw [hnone]
    exact ⟨rfl, hsame⟩

/-! ## The current checks and drive faults (R81 to R85) -/

theorem execCurrentSample_of_on {s : State} {r : Drive} {b : Byte} (hr : s.drive.record = some r)
    (hp : s.drive.phase = .energised) (hc : r.columns ≠ []) :
    exec (.currentSample b) s = act s (pump (sampleCurrent b r s)) := by
  simp [exec, execCurrentSample, hr, energised, hp, hc]

theorem execCurrentSample_of_off {s : State} {b : Byte}
    (h : ∀ r, s.drive.record = some r → s.drive.phase = .energised → r.columns = []) :
    exec (.currentSample b) s = act s (pump s) := by
  simp only [exec, execCurrentSample]
  cases hr : s.drive.record with
  | none => rfl
  | some r =>
    by_cases hp : s.drive.phase = .energised
    · simp [h r hr hp]
    · simp [energised, hp]

/-- A judged sample, with the two runs after it. -/
theorem sampleCurrent_of_judged {b : Byte} {r : Drive} {s : State} (h : s.drive.blankLeft = 0) :
    sampleCurrent b r s =
      let runs := judgeSample b r s.drive
      let t := s.mapDrive fun d => { d with stallRun := runs.1, openRun := runs.2 }
      if r.kind ≠ .timed ∧ 0 < runs.1 ∧ s.drive.settings.stallMs / 10 ≤ runs.1 then
        driveFault .motorStall r.energised r t
      else if 30 ≤ runs.2 then driveFault .motorOpen r.energised r t
      else t := if_neg (by omega)

theorem execMotorStall_of_full {s : State} {r : Drive} (hr : s.drive.record = some r) (hp : s.drive.phase = .energised)
    (hc : r.columns ≠ []) (hk : r.kind ≠ .timed) (hb : s.drive.blankLeft = 0)
    (hn : s.drive.settings.stallMs / 10 ≤ s.drive.stallRun + 1) :
    exec .motorStall s = act s (pump (driveFault .motorStall r.energised r s)) := by
  simp [exec, execMotorStall, hr, energised, hp, hc, hk, hb, stallSamples, hn]

theorem execMotorOpen_of_full {s : State} {r : Drive} (hr : s.drive.record = some r) (hp : s.drive.phase = .energised)
    (hc : r.columns ≠ []) (hb : s.drive.blankLeft = 0) (hn : 30 ≤ s.drive.openRun + 1) :
    exec .motorOpen s = act s (pump (driveFault .motorOpen r.energised r s)) := by
  simp [exec, execMotorOpen, hr, energised, hp, hc, hb, openSamples, hn]

/-- The timer of a turn of the drive under way, and any other. -/
theorem execTurnTimerExpiry_of_running {s : State} {r : Drive} {x : TurnTimer} (hr : s.drive.record = some r)
    (hp : s.drive.phase = .energised) :
    exec (.turnTimerExpiry x) s = act s (pump
      (if r.tag = x.tag ∧ r.turnsDone = x.turn ∧ (r.turn x.motor).on = true ∧ (r.turn x.motor).turn ≠ .ended then
        driveFault .motorHomeLost [r.motorAt x.motor] r s else s)) := by
  simp [exec, execTurnTimerExpiry, hr, energised, hp, and_assoc]

theorem mem_columns_ne {r : Drive} (h : r.energised ≠ []) : r.columns ≠ [] := fun h0 => h (by rw [Drive.energised, h0]; rfl)

/-- Settles O28. -/
theorem currentChecksAndDriveFaults : Obligations.CurrentChecksAndDriveFaults := by
  refine ⟨fun s b hs => ⟨fun r hr hp hc => ?_, fun h => ?_⟩, fun s r m hs hr hp => ?_⟩
  · have hexec (u : State) (hu : sampleCurrent b r s = u) : exec (.currentSample b) s = act s (pump u) := by
      rw [execCurrentSample_of_on hr hp hc, hu]
    refine ⟨fun hb => ?_, fun hb hstall => ?_, fun hb hno hopen => ?_, fun hb hno hopen => ?_⟩
    · rw [hexec _ (if_pos hb)]
      exact act_silent hs _
    · rw [hexec _ ((sampleCurrent_of_judged hb).trans (if_pos hstall))]
      exact act_of_high hs _
    · rw [hexec _ ((sampleCurrent_of_judged hb).trans ((if_neg hno).trans (if_pos hopen)))]
      exact act_of_high hs _
    · rw [hexec _ ((sampleCurrent_of_judged hb).trans ((if_neg hno).trans (if_neg (Nat.not_le.mpr hopen))))]
      exact act_silent hs _
  · rw [execCurrentSample_of_off h]
    exact act_silent hs s
  · intro q off after on turn own
    have hturn : r.turn m = turn := by cases m <;> rfl
    have hown : r.motorAt m = own := by cases m <;> rfl
    refine ⟨fun hk hon hb hn => ?_, fun hon hb hn => ?_, fun ht hne => ?_, fun x hx => ?_⟩
    · rw [execMotorStall_of_full hr hp (mem_columns_ne hon) hk hb hn]
      exact act_of_high hs _
    · rw [execMotorOpen_of_full hr hp (mem_columns_ne hon) hb hn]
      exact act_of_high hs _
    · rw [execTurnTimerExpiry_of_running hr hp, if_pos ⟨rfl, rfl, by rw [hturn]; exact ht, by rw [hturn]; exact hne⟩, hown]
      exact act_of_high hs _
    · rw [execTurnTimerExpiry_of_running hr hp, if_neg]
      · exact act_silent hs s
      · rintro ⟨htag, hdone, hon, hrun⟩
        rcases hx with hx | hx | ⟨rfl, hx | hx⟩
        · exact hx htag.symm
        · exact hx hdone.symm
        · rw [hturn, hx] at hon; cases hon
        · exact hrun (by rw [hturn, hx])

/-! ## Turns and home switches (R76 to R80) -/

theorem execSwitchSeenOpen_of_running {s : State} {r : Drive} {x : DriveMotor} (hr : s.drive.record = some r)
    (hp : s.drive.phase = .energised) :
    exec (.switchSeenOpen x) s = act s (pump
      (if r.tag = x.tag ∧ (r.turn x.motor).on = true ∧ (r.turn x.motor).turn = .leaving then
        s.mapDrive fun d => { d with record := some (r.setTurn x.motor { r.turn x.motor with turn := .away }) }
      else s)) := by
  simp [exec, execSwitchSeenOpen, hr, energised, hp, and_assoc]

theorem execMotorTurnEnd_of_running {s : State} {r : Drive} {m : TurnEnd} (hr : s.drive.record = some r)
    (hp : s.drive.phase = .energised) : exec (.motorTurnEnd m) s = act s (pump (switchesClose m r s)) := by
  simp [exec, execMotorTurnEnd, hr, energised, hp]

theorem turnEnded_of_last {r : Drive} {s : State} (h : r.turns ≤ r.turnsDone + 1) :
    turnEnded r s = endOfLastTurn { r with turnsDone := r.turnsDone + 1 } s := if_neg (Nat.not_lt.mpr h)

theorem turnEnded_of_paused {r : Drive} {s : State} (h : r.turnsDone + 1 < r.turns) (hc : r.continuous = false) :
    turnEnded r s = s.mapDrive fun d =>
      { d with phase := .paused, stallRun := 0, openRun := 0, blankLeft := 0
               record := some { ({ r with turnsDone := r.turnsDone + 1 } : Drive).switchOff with phaseMs := 250 } } :=
  (if_pos h).trans (if_neg (by simp [hc]))

theorem turnEnded_of_continuous {r : Drive} {s : State} (h : r.turnsDone + 1 < r.turns) (hc : r.continuous = true) :
    turnEnded r s = nextContinuous { r with turnsDone := r.turnsDone + 1 } s := (if_pos h).trans (if_pos hc)

/-- Settles O29. -/
theorem homeSwitchTurns : Obligations.HomeSwitchTurns := by
  refine ⟨fun s r m hs hr hp => ?_, fun s r m hs hr hp => ?_⟩
  · intro turn away q
    have hturn : r.turn m = turn := by cases m <;> rfl
    have hset : r.setTurn m away = q := by cases m <;> rfl
    refine ⟨fun hon hl => ?_, fun x hx => ?_⟩
    · rw [execSwitchSeenOpen_of_running hr hp,
        if_pos ⟨rfl, (congrArg MotorTurn.on hturn).trans hon, (congrArg MotorTurn.turn hturn).trans hl⟩]
      simp only [hturn]
      rw [hset]
      exact act_silent hs _
    · rw [execSwitchSeenOpen_of_running hr hp, if_neg]
      · exact act_silent hs s
      · rintro ⟨htag, hon, hl⟩
        rcases hx with hx | ⟨rfl, hx | hx⟩
        · exact hx htag.symm
        · rw [hturn, hx] at hon; cases hon
        · exact hx (by rw [← hturn]; exact hl)
  · intro d endsA endsB a b q leads one paused blank
    have hleads {u : State} (h : switchesClose m r s = u) : leads u := by
      obtain ⟨t, ht, hact⟩ := act_silent hs u
      exact ⟨t, ht, by rw [execMotorTurnEnd_of_running hr hp, h, hact]⟩
    refine ⟨fun h => hleads (if_pos h), fun h => ?_⟩
    have hsome : ¬ (endsA = false ∧ endsB = false) := by
      rintro ⟨hA, hB⟩
      rcases h with h | h
      · rw [hA] at h; cases h
      · rw [hB] at h; cases h
    refine ⟨fun hrest => hleads ((if_neg hsome).trans (if_neg ?_)), fun hA hB => ?_⟩
    · rintro ⟨hA, hB⟩
      exact hrest.elim (fun k => k hA) fun k => k hB
    · have hended : switchesClose m r s = turnEnded { r with a := a, b := b } s :=
        (if_neg hsome).trans (if_pos ⟨hA, hB⟩)
      refine ⟨fun hlast => ?_, fun hmore hc => hleads ?_, fun hmore hc => hleads ?_⟩
      · rw [execMotorTurnEnd_of_running hr hp, hended, (@turnEnded_of_last { r with a := a, b := b }) hlast]
        exact act_of_high hs _
      · rw [hended, (@turnEnded_of_paused { r with a := a, b := b }) hmore hc]
        rfl
      · rw [hended, (@turnEnded_of_continuous { r with a := a, b := b }) hmore hc]
        have hblank : (r.kind = .twinSpiral ∧ (a.on && b.on) = false) ↔ blank = true := by
          simp only [blank, Bool.and_eq_true, decide_eq_true_eq, Bool.not_eq_true']
        show (s.mapDrive fun d => { d with
          record := some q.switchOn
          stallRun := if r.kind = .twinSpiral ∧ (a.on && b.on) = false then 0 else d.stallRun
          openRun := if r.kind = .twinSpiral ∧ (a.on && b.on) = false then 0 else d.openRun
          blankLeft := if r.kind = .twinSpiral ∧ (a.on && b.on) = false then 20 else d.blankLeft }) = _
        simp only [hblank]
        rfl

/-- Settles O30. -/
theorem pauseRunAndTailEnd : Obligations.PauseRunAndTailEnd := by
  intro s r hs hr d turn tail inTail idle ends
  have hexec (c : Instr) (u : State) (h : exec c s = act s (pump u)) : ∃ t, Becomes u [] t ∧ exec c s = .next t := by
    rw [h]; exact act_silent hs u
  have htail (h : d.phase = .tail) : exec .tailEnd s = act s (pump (tailEnds r s)) := by
    simp [exec, execTailEnd, hr, show s.drive.phase = .tail from h]
  have hends (o : VendOutcome) (h : d.phase = .tail) (ho : tailEnds r s = endDrive r o s) : ends o := by
    show exec .tailEnd s = _
    rw [htail h, ho]
    exact act_of_high hs _
  refine ⟨fun h => hexec _ _ ?_, fun h => hexec _ _ ?_, fun h hk => ?_, fun h => hexec _ _ ?_, fun hv hd => ?_,
    fun h => ?_, fun h => ⟨fun hv => ?_, fun hv hd => ?_, fun hv hd h0 => ?_, fun hv hd h1 => hexec _ _ ?_⟩,
    fun h => hexec _ _ ?_⟩
  · simp only [exec, execPauseEnd, hr, show s.drive.phase = .paused from h, if_true]
    rfl
  · simp only [exec, execPauseEnd, hr]
    rw [if_neg h]
  · have hrun : exec .timedRunEnd s = act s (pump (endOfLastTurn r s)) := by
      simp [exec, execTimedRunEnd, hr, energised, show s.drive.phase = .energised from h, hk]
    rw [hrun]
    exact act_of_high hs _
  · simp only [exec, execTimedRunEnd, hr]
    rw [if_neg]
    unfold energised
    simpa only [Bool.and_eq_true, decide_eq_true_eq, not_and_or] using h
  · exact if_pos ⟨hv, hd⟩
  · refine if_neg ?_
    rintro ⟨hv, hd⟩
    rcases h with h | h
    · rw [h] at hv; cases hv
    · omega
  · exact hends _ h (if_pos hv)
  · exact hends _ h ((if_neg (by simp [hv])).trans (if_pos hd))
  · exact hends _ h ((if_neg (by simp [hv])).trans ((if_neg (by omega)).trans (if_pos h0)))
  · rw [htail h]
    have hretry : tailEnds r s = s.mapDrive fun d => d.energise { r with retriesLeft := r.retriesLeft - 1 } :=
      (if_neg (by simp [hv])).trans ((if_neg (by omega)).trans (if_neg (by omega)))
    rw [hretry]
    rfl
  · simp only [exec, execTailEnd, hr]
    rw [if_neg h]

/-! ## The drop curtain (R87, R88, R91) -/

theorem countDrop_of_none {s : State} (h : s.drive.record = none) :
    countDrop s = raise .strayDrop s.drive.lastTag 0 s := by
  simp only [countDrop, h]

theorem countDrop_of_drive {s : State} {r : Drive} (h : s.drive.record = some r) :
    countDrop s =
      let q := { r with drops := min 255 (r.drops + 1) }
      let t := s.mapDrive fun d => { d with record := some q }
      if r.drops = 0 then
        if r.verify = true ∧ s.drive.phase = .tail then endDrive q .delivered t else t
      else raise .extraDrop r.tag (amount q.drops) t := by
  simp only [countDrop, h, saturate]

/-- Settles O31. -/
theorem beamAndDrops : Obligations.BeamAndDrops := by
  intro s hs d broken clear lost counted
  have hsilent (c : Instr) (u : State) (h : exec c s = act s (pump u)) : ∃ t, Becomes u [] t ∧ exec c s = .next t := by
    rw [h]; exact act_silent hs u
  have hclear (h : d.monitor = .clear) : exec .beamBroken s = act s (pump (countDrop (broken d.record))) := by
    simp only [exec, execBeamBroken, show s.drive.monitor = .clear from h]
    rfl
  refine ⟨fun h => ⟨fun hr => ?_, fun r hr hd => ?_, fun r hr h0 => ⟨fun hv ht => ?_, fun hn => hsilent _ _ ?_⟩⟩,
    fun h => hsilent _ _ ?_, fun h => hsilent _ _ ?_, fun h => ?_, fun h => hsilent _ _ ?_, fun h => ?_,
    fun h => hsilent _ _ ?_⟩
  · rw [hclear h, hr, countDrop_of_none rfl]
    exact act_becomes hs (becomes_raised _ _ _ _)
  · have hcount : countDrop (broken d.record) =
        raise .extraDrop r.tag (amount (min 255 (r.drops + 1))) (broken (some (counted r))) := by
      rw [(@countDrop_of_drive (broken d.record)) hr]
      exact if_neg (by omega)
    rw [hclear h, hcount]
    exact act_becomes hs (becomes_raised _ _ _ _)
  · have hcount : countDrop (broken d.record) = endDrive (counted r) .delivered (broken (some (counted r))) := by
      rw [(@countDrop_of_drive (broken d.record)) hr]
      exact (if_pos h0).trans (if_pos ⟨hv, ht⟩)
    rw [hclear h, hcount]
    exact act_of_high hs _
  · have hcount : countDrop (broken d.record) = broken (some (counted r)) := by
      rw [(@countDrop_of_drive (broken d.record)) hr]
      refine (if_pos h0).trans (if_neg ?_)
      rintro ⟨hv, ht⟩
      rcases hn with hn | hn
      · rw [hn] at hv; cases hv
      · exact hn ht
    rw [hclear h, hcount]
  · simp only [exec, execBeamBroken, show s.drive.monitor = .unknown from h]
    rfl
  · rcases h with h | h <;> simp only [exec, execBeamBroken, show s.drive.monitor = _ from h]
  · have hend : exec .beamClear s = act s (pump (conditionEnded .dropBlocked 0 clear)) := by
      simp only [exec, execBeamClear, show s.drive.monitor = .blocked from h]
      rfl
    rw [hend]
    exact act_of_high hs _
  · simp only [exec, execBeamClear]
    cases hm : s.drive.monitor with
    | blocked => exact absurd hm h
    | unknown => rfl
    | clear => rfl
    | broken => rfl
  · have hblock : exec .dropBlocked s = act s (pump (report .dropBlocked 0 (s.mapDrive fun d =>
        blockDrive { d with monitor := .blocked, brokenMs := max d.brokenMs 2000 }))) := by
      simp only [exec, execDropBlocked, show s.drive.monitor = .broken from h, if_true]
      rfl
    rw [hblock]
    exact act_of_high hs _
  · simp only [exec, execDropBlocked]
    rw [if_neg h]

/-! ## The trace buffer (R93 to R95) -/

/-- Settles O32. -/
theorem traceFillsAndIsReleased : Obligations.TraceFillsAndIsReleased := by
  intro s b src hs t value more
  refine ⟨fun h => ?_, fun h => ?_, fun hp => request_done hs hp rfl rfl (by simp)⟩
  · have hexec : exec (.traceSample b) s = act s (pump (s.mapDrive fun d => { d with trace := more })) := by
      simp only [exec, execTraceSample]
      rw [if_pos h]
      congr 2
      simp [State.mapDrive, more, value, t]
    rw [hexec]
    exact act_silent hs _
  · have hexec : exec (.traceSample b) s = act s (pump s) := by
      simp only [exec, execTraceSample]
      rw [if_neg h]
    rw [hexec]
    exact act_silent hs s

end Sys2Proof.Machine
end

section
/-! PROOFS. The supply budget (chapter 5): a consideration, the claims' placement, withdrawal and release, and the
writes of the supply and refrigeration settings. -/

namespace Sys2Proof.Machine

/-! ## What each try of a consideration does (R101, R102) -/

/-- What a consideration makes of a claim. -/
structure Considered (a b : Claim) : Prop where
  still : a.state ≠ .waiting → b = a
  granted : a.state = .waiting → b = a ∨ (b.state = .granted ∧ b.held = a.cost)

theorem considered_same (c : Claim) : Considered c c := ⟨fun _ => rfl, fun _ => .inl rfl⟩

theorem considered_granted {c : Claim} (h : c.state = .waiting) : Considered c c.granted :=
  ⟨fun k => absurd h k, fun _ => .inr ⟨rfl, rfl⟩⟩

theorem freePoints_grant_le {p q : Supply} (hb : q.budget = p.budget) (h : pointsGranted p ≤ pointsGranted q) :
    freePoints q ≤ freePoints p := by
  unfold freePoints
  omega

theorem lt_of_not_fits {c : Claim} {p : Supply} (h : ¬ c.fits p = true) (hw : c.state = .waiting) :
    freePoints p < c.cost := Nat.lt_of_not_le fun hle => h (Claim.fits_iff.mpr ⟨hw, hle⟩)

/-- The compressor claim's turn in a consideration. -/
structure CompressorTried (s t : State) : Prop where
  vend : t.supply.vend = s.supply.vend
  heater : t.supply.heater = s.supply.heater
  budget : t.supply.budget = s.supply.budget
  vendTag : t.supply.vendTag = s.supply.vendTag
  claim : Considered s.supply.compressor t.supply.compressor
  waits : t.supply.compressor.state = .waiting → freePoints t.supply < t.supply.compressor.cost
  free : freePoints t.supply ≤ freePoints s.supply
  starts : s.supply.compressor.state = .waiting → t.supply.compressor.state = .granted →
    t.cooling.compressor.relay = true ∧ t.cooling.compressor.state = .starting ∧ t.supply.deferring = false

theorem tryCompressor_tried (s : State) : CompressorTried s (tryCompressor s) := by
  unfold tryCompressor
  split
  · rename_i hfits
    obtain ⟨hw, _⟩ := Claim.fits_iff.mp hfits
    refine ⟨rfl, rfl, rfl, rfl, considered_granted hw, nofun, freePoints_grant_le rfl ?_, fun _ _ => ⟨rfl, rfl, rfl⟩⟩
    have hnone : s.supply.compressor.points = 0 := points_of_not_granted (by rw [hw]; decide)
    show s.supply.vend.points + s.supply.compressor.points + s.supply.heater.points ≤
      s.supply.vend.points + s.supply.compressor.cost + s.supply.heater.points
    omega
  · rename_i hno
    exact ⟨rfl, rfl, rfl, rfl, considered_same _, lt_of_not_fits hno, le_rfl,
      fun hw hg => absurd (hw.symm.trans hg) nofun⟩

/-- The heater claim's turn in a consideration. -/
structure HeaterTried (s t : State) : Prop where
  vend : t.supply.vend = s.supply.vend
  compressor : t.supply.compressor = s.supply.compressor
  budget : t.supply.budget = s.supply.budget
  deferring : t.supply.deferring = s.supply.deferring
  record : t.cooling.compressor = s.cooling.compressor
  claim : Considered s.supply.heater t.supply.heater
  waits : t.supply.heater.state = .waiting → freePoints t.supply < t.supply.heater.cost
  free : freePoints t.supply ≤ freePoints s.supply
  starts : s.supply.heater.state = .waiting → t.supply.heater.state = .granted → t.cooling.defrost.heater = true

theorem tryHeater_tried (s : State) : HeaterTried s (tryHeater s) := by
  unfold tryHeater
  split
  · rename_i hfits
    obtain ⟨hw, _⟩ := Claim.fits_iff.mp hfits
    refine ⟨rfl, rfl, rfl, rfl, rfl, considered_granted hw, nofun, freePoints_grant_le rfl ?_, fun _ _ => rfl⟩
    have hnone : s.supply.heater.points = 0 := points_of_not_granted (by rw [hw]; decide)
    show s.supply.vend.points + s.supply.compressor.points + s.supply.heater.points ≤
      s.supply.vend.points + s.supply.compressor.points + s.supply.heater.cost
    omega
  · rename_i hno
    exact ⟨rfl, rfl, rfl, rfl, rfl, considered_same _, lt_of_not_fits hno, le_rfl,
      fun hw hg => absurd (hw.symm.trans hg) nofun⟩

/-- What a grant of the vend claim does (R69, R75). -/
def VendBegun (s t : State) : Prop :=
  ∃ e es r, s.vend.queue = e :: es ∧ e.driving = false ∧
    heldBlocks s.vend.selections[e.selection] s = false ∧ faultBlocks s.vend.selections[e.selection] s = false ∧
    t.vend.queue = { e with driving := true } :: es ∧ t.drive.record = some r ∧ r.tag = e.tag

/-- The vend claim's turn in a consideration. -/
structure VendTried (s t : State) : Prop where
  compressor : t.supply.compressor = s.supply.compressor
  heater : t.supply.heater = s.supply.heater
  budget : t.supply.budget = s.supply.budget
  deferring : t.supply.deferring = s.supply.deferring
  cooling : t.cooling = s.cooling
  claim : Considered s.supply.vend t.supply.vend
  waits : ∀ e es, s.vend.queue = e :: es → vendReady e s = true → t.supply.vend.state = .waiting →
    freePoints t.supply < t.supply.vend.cost
  free : freePoints t.supply ≤ freePoints s.supply
  starts : s.supply.vend.state = .waiting → t.supply.vend.state = .granted → VendBegun s t

theorem vendTried_of_same {s : State}
    (h : ∀ e es, s.vend.queue = e :: es → ¬ (s.supply.vend.fits s.supply = true ∧ vendReady e s = true)) :
    VendTried s s :=
  ⟨rfl, rfl, rfl, rfl, rfl, considered_same _,
    fun e es hq hr hw => lt_of_not_fits (fun hf => h e es hq ⟨hf, hr⟩) hw, le_rfl,
    fun hw hg => absurd (hw.symm.trans hg) nofun⟩

/-- A first energising leaves the supply arbiter and the refrigeration controller as they are. -/
theorem firstEnergise_sides (tag : Byte) (x : Selection) (s : State) :
    (firstEnergise tag x s).supply = s.supply ∧ (firstEnergise tag x s).cooling = s.cooling ∧
      (firstEnergise tag x s).vend = s.vend := by
  rw [firstEnergise_eq]
  split
  · simp [energisedFirst]
  · exact ⟨rfl, rfl, rfl⟩

theorem tryVend_tried (s : State) : VendTried s (tryVend s) := by
  unfold tryVend
  split
  · rename_i hq
    exact vendTried_of_same fun e es h => by rw [hq] at h; cases h
  · rename_i e es hq
    split
    · rename_i h
      obtain ⟨hfits, hready⟩ := h
      obtain ⟨hw, _⟩ := Claim.fits_iff.mp hfits
      obtain ⟨hdriving, _, _, hheld, hfault⟩ := (vendReady_iff e s).mp hready
      generalize hu : ((s.mapSupply fun p => { p with vend := p.vend.granted }).mapVend fun v =>
        { v with queue := { e with driving := true } :: es }) = u
      obtain ⟨hsupply, hcooling, hvend⟩ := firstEnergise_sides e.tag s.vend.selections[e.selection] u
      obtain ⟨tr, htr⟩ := firstEnergise_drive e.tag s.vend.selections[e.selection] u
      subst hu
      refine ⟨by rw [hsupply]; rfl, by rw [hsupply]; rfl, by rw [hsupply]; rfl, by rw [hsupply]; rfl, by rw [hcooling]; rfl,
        ?_, fun _ _ _ _ hwait => ?_, ?_, fun _ _ => ?_⟩
      · rw [hsupply]; exact considered_granted hw
      · rw [hsupply] at hwait; cases hwait
      · rw [hsupply]
        refine freePoints_grant_le rfl ?_
        have hnone : s.supply.vend.points = 0 := points_of_not_granted (by rw [hw]; decide)
        show s.supply.vend.points + s.supply.compressor.points + s.supply.heater.points ≤
          s.supply.vend.cost + s.supply.compressor.points + s.supply.heater.points
        omega
      · refine ⟨e, es, (newDrive e.tag s.vend.selections[e.selection] s.drive.monitor).switchOn, hq, hdriving, hheld,
          hfault, by rw [hvend]; rfl, by rw [htr]; rfl, by simp [newDrive]⟩
    · rename_i h
      refine vendTried_of_same fun e' es' hq' => ?_
      rw [hq] at hq'
      cases hq'
      exact h

/-- The vend claim in the deferring order: passed over, or tried. -/
theorem tryVendBehind_of_waiting {s : State} (h : s.supply.compressor.state = .waiting) : tryVendBehind s = s := if_pos h

theorem tryVendBehind_of_free {s : State} (h : s.supply.compressor.state ≠ .waiting) : tryVendBehind s = tryVend s :=
  if_neg h

theorem Considered.waiting {a b : Claim} (h : Considered a b) (hb : b.state = .waiting) : b = a := by
  by_cases ha : a.state = .waiting
  · rcases h.granted ha with h | ⟨hg, _⟩
    · exact h
    · rw [hb] at hg; cases hg
  · exact h.still ha

/-- Settles O34. -/
theorem considerationGrantsWhatFits : Obligations.ConsiderationGrantsWhatFits := by
  intro s t kept p q
  have hwithin : pointsGranted p ≤ p.budget → pointsGranted q ≤ q.budget := ((@consider_keeps {}) s rfl).budget
  have hkept {a b : Claim} (h : Considered a b) : kept a b := ⟨h.still, h.granted⟩
  have hpast {u : State} (h : SuppliedOnly u t) (hv : VendBegun s u) : VendBegun s t := by
    obtain ⟨e, es, r, hq, hd, hheld, hfault, hqueue, hrecord, htag⟩ := hv
    exact ⟨e, es, r, hq, hd, hheld, hfault, by rw [h.vend, hqueue], by rw [h.drive, hrecord], htag⟩
  cases hdefer : p.deferring with
  | false =>
    have ht : t = tryHeater (tryCompressor (tryVend s)) := if_neg (by rw [show s.supply.deferring = false from hdefer]; decide)
    have hv := tryVend_tried s
    have hc := tryCompressor_tried (tryVend s)
    have hh := tryHeater_tried (tryCompressor (tryVend s))
    have hside := (tryCompressor_suppliedOnly (tryVend s)).trans (tryHeater_suppliedOnly _)
    rw [← ht] at hh hside
    have hvend : q.vend = (tryVend s).supply.vend := hh.vend.trans hc.vend
    have hfree := hh.free.trans hc.free
    refine ⟨hwithin, hh.budget.trans (hc.budget.trans hv.budget), hkept ?_, hkept ?_, hkept ?_, hh.waits, fun hw => ?_,
      nofun, fun e es hq hr hw _ => ?_, fun hw hg => ?_, fun hw hg => hh.starts ?_ hg, fun hw hg => hpast hside ?_⟩
    · rw [hvend]; exact hv.claim
    · have := hc.claim
      rwa [← hh.compressor, hv.compressor] at this
    · have := hh.claim
      rwa [hc.heater, hv.heater] at this
    · have hlt := hc.waits (by rw [← hh.compressor]; exact hw)
      rw [← hh.compressor] at hlt
      exact Nat.lt_of_le_of_lt hh.free hlt
    · have hlt := hv.waits e es hq hr (by rw [← hvend]; exact hw)
      rw [← hvend] at hlt
      exact Nat.lt_of_le_of_lt hfree hlt
    · rw [hh.record]
      have hstart := hc.starts (by rw [hv.compressor]; exact hw) (by rw [← hh.compressor]; exact hg)
      exact ⟨hstart.1, hstart.2.1, hh.deferring.trans hstart.2.2⟩
    · rw [hc.heater, hv.heater]; exact hw
    · exact hv.starts hw (by rw [← hvend]; exact hg)
  | true =>
    have ht : t = tryHeater (tryVendBehind (tryCompressor s)) := if_pos hdefer
    have hc := tryCompressor_tried s
    have hcside := tryCompressor_suppliedOnly s
    by_cases hpass : (tryCompressor s).supply.compressor.state = .waiting
    · rw [tryVendBehind_of_waiting hpass] at ht
      have hh := tryHeater_tried (tryCompressor s)
      rw [← ht] at hh
      have hvend : q.vend = p.vend := hh.vend.trans hc.vend
      have hcomp : q.compressor.state = .waiting := by rw [show q.compressor = _ from hh.compressor]; exact hpass
      have hstay : q.compressor = p.compressor := hh.compressor.trans (hc.claim.waiting hpass)
      refine ⟨hwithin, hh.budget.trans hc.budget, hkept ?_, hkept ?_, hkept ?_, hh.waits, fun _ => ?_,
        fun _ _ => hvend, fun e es hq hr hw hor => ?_, fun hw hg => ?_, fun hw hg => hh.starts ?_ hg, fun hw hg => ?_⟩
      · rw [hvend]; exact considered_same _
      · rw [hstay]; exact considered_same _
      · have := hh.claim
        rwa [hc.heater] at this
      · have hlt := hc.waits hpass
        rw [← hh.compressor] at hlt
        exact Nat.lt_of_le_of_lt hh.free hlt
      · rcases hor with hor | hor
        · cases hor
        · exact absurd hcomp hor
      · rw [hcomp] at hg; cases hg
      · rw [hc.heater]; exact hw
      · rw [hvend, hw] at hg; cases hg
    · rw [tryVendBehind_of_free hpass] at ht
      have hv := tryVend_tried (tryCompressor s)
      have hh := tryHeater_tried (tryVend (tryCompressor s))
      have hside := tryHeater_suppliedOnly (tryVend (tryCompressor s))
      rw [← ht] at hh hside
      have hcomp : q.compressor = (tryCompressor s).supply.compressor := hh.compressor.trans hv.compressor
      have hready (e : Entry) (h : vendReady e s = true) : vendReady e (tryCompressor s) = true := by
        rw [vendReady_iff] at h ⊢
        rw [hc.vendTag, hcside.drive, hcside.vend]
        have hheld (x : Selection) : heldBlocks x (tryCompressor s) = heldBlocks x s := by
          simp only [heldBlocks, hcside.cabinet]
        have hfault (x : Selection) : faultBlocks x (tryCompressor s) = faultBlocks x s := by
          simp only [faultBlocks, hcside.faults]
        rw [hheld, hfault]
        exact h
      refine ⟨hwithin, hh.budget.trans (hv.budget.trans hc.budget), hkept ?_, hkept ?_, hkept ?_, hh.waits,
        fun hw => absurd (by rw [← hcomp]; exact hw) hpass, fun _ hw => absurd (by rw [← hcomp]; exact hw) hpass,
        fun e es hq hr hw _ => ?_, fun hw hg => ?_, fun hw hg => hh.starts ?_ hg, fun hw hg => hpast hside ?_⟩
      · have := hv.claim
        rwa [← hh.vend, hc.vend] at this
      · rw [hcomp]; exact hc.claim
      · have := hh.claim
        rwa [hv.heater, hc.heater] at this
      · have hlt := hv.waits e es (by rw [hcside.vend]; exact hq) (hready e hr) (by rw [← hh.vend]; exact hw)
        rw [← hh.vend] at hlt
        exact Nat.lt_of_le_of_lt hh.free hlt
      · rw [hh.record, hv.cooling]
        have hstart := hc.starts hw (by rw [← hcomp]; exact hg)
        exact ⟨hstart.1, hstart.2.1, hh.deferring.trans (hv.deferring.trans hstart.2.2)⟩
      · rw [hv.heater, hc.heater]; exact hw
      · obtain ⟨e, es, r, hq, hd, hheld, hfault, hqueue, hrecord, htag⟩ :=
          hv.starts (by rw [hc.vend]; exact hw) (by rw [← hh.vend]; exact hg)
        rw [hcside.vend] at hq
        refine ⟨e, es, r, hq, hd, ?_, ?_, hqueue, hrecord, htag⟩
        · simpa only [heldBlocks, hcside.cabinet, hcside.vend] using hheld
        · simpa only [faultBlocks, hcside.faults, hcside.vend] using hfault

/-! ## Placement, withdrawal and release (R68, R100 to R105) -/

theorem motorCount_eq (x : Selection) : x.motorCount = if x.kind = .twinSpiral then 2 else 1 := by
  unfold Selection.motorCount
  cases x.kind <;> rfl

/-- R68: when the head places its vend claim. -/
theorem startHead_of_head {s : State} {e : Entry} {es : List Entry} (hq : s.vend.queue = e :: es) :
    startHead s = if e.driving = false ∧ s.supply.vend.state = .absent ∧ s.vend.sales = .selling ∧
        s.drive.record = none then
      placeVend (s.vend.selections[e.selection].motorCount * s.supply.motorCost) e.tag s else s := by
  simp only [startHead, hq]

/-- Settles O35. -/
theorem claimsPlacedWithdrawnReleased : Obligations.ClaimsPlacedWithdrawnReleased := by
  refine ⟨fun s cost tag => ⟨rfl, rfl, rfl, rfl, rfl, rfl, rfl, rfl, rfl, rfl⟩, fun s e es hq => ⟨fun h1 h2 h3 h4 => ?_,
    fun h => ?_⟩, fun s hs => ⟨fun hw hd hn => ?_, fun h => ?_⟩⟩
  · rw [startHead_of_head hq, if_pos ⟨h1, h2, h3, h4⟩, motorCount_eq]
  · rw [startHead_of_head hq, if_neg]
    rintro ⟨h1, h2, h3, h4⟩
    rcases h with h | h | h | h
    · rw [h1] at h; cases h
    · exact h h2
    · exact h h3
    · exact h h4
  · have hexec : exec .supplyDefer s = act s (pump (raise .supplyDefer 0 (amount (freePoints s.supply))
        (s.mapSupply fun p => { p with waitMs := max p.waitMs deferMs, deferring := true }))) := by
      simp only [exec, execSupplyDefer]
      rw [if_pos ⟨hw, hd, risesTo_iff.mpr (by simp only [deferMs]; omega)⟩]
    rw [hexec]
    exact act_becomes hs (becomes_raised _ _ _ _)
  · have hexec : exec .supplyDefer s = act s (pump s) := by
      simp only [exec, execSupplyDefer]
      rw [if_neg]
      rintro ⟨hw, hd, hn⟩
      have hn := risesTo_iff.mp hn
      simp only [deferMs] at hn
      rcases h with h | h | h
      · exact h hw
      · rw [hd] at h; cases h
      · omega
    rw [hexec]
    exact act_silent hs s

/-! ## Writes of the supply and refrigeration settings (R98, R110, R123) -/

theorem restricted_iff {s : State} : restricted s = false ↔ s.vend.sales = .offline ∨ s.vend.sales = .service := by
  unfold restricted
  cases s.vend.sales <;> simp

theorem readZero_of_eq {b : Byte} (h : b = 0) : readZero b = some () := if_pos h

theorem readZero_eq_some {b : Byte} {u : Unit} : readZero b = some u ↔ b = 0 := by
  by_cases h : b = 0 <;> simp [readZero, h]

theorem readSigned_eq_some {lo hi i : Int} {h : Half} :
    readSigned lo hi h = some i ↔ i = h.toInt ∧ lo ≤ h.toInt ∧ h.toInt ≤ hi := by
  unfold readSigned
  split <;> simp [*, eq_comm]

theorem readSigned_of_le {lo hi : Int} {h : Half} (h1 : lo ≤ h.toInt) (h2 : h.toInt ≤ hi) :
    readSigned lo hi h = some h.toInt := if_pos ⟨h1, h2⟩

/-- What the fields of a supply settings write must be (R97, R98). -/
structure SupplyRanges (index budget motor start run heater : Byte) : Prop where
  indexZero : index = 0
  budgetIn : 1 ≤ budget.toNat ∧ budget.toNat ≤ 31
  motorIn : 1 ≤ motor.toNat ∧ motor.toNat ≤ 15
  startIn : 1 ≤ start.toNat ∧ start.toNat ≤ 31
  runIn : 1 ≤ run.toNat ∧ run.toNat ≤ start.toNat
  heaterIn : 1 ≤ heater.toNat ∧ heater.toNat ≤ 31
  costs : 2 * motor.toNat ≤ budget.toNat ∧ start.toNat ≤ budget.toNat ∧ heater.toNat ≤ budget.toNat

theorem writeSupply_of_ranges {index budget motor start run heater : Byte} {s : State} (hm : restricted s = false)
    (h : SupplyRanges index budget motor start run heater) :
    writeSupply index budget motor start run heater s =
      if budget.toNat < pointsGranted s.supply then refused .busy s
      else done [0x09, 0] (repriceSupply budget.toNat motor.toNat start.toNat run.toNat heater.toNat s) := by
  obtain ⟨rfl, hb, hmo, hst, hr, hh, hc⟩ := h
  unfold writeSupply
  rw [if_neg (by rw [hm]; exact Bool.false_ne_true)]
  simp only [readZero_of_eq, readRange_of_le hb.1 hb.2, readRange_of_le hmo.1 hmo.2, readRange_of_le hst.1 hst.2,
    readRange_of_le hr.1 (hr.2.trans hst.2), readRange_of_le hh.1 hh.2]
  rw [if_neg]
  simp only [largestCost]
  omega

theorem writeSupply_of_not_ranges {index budget motor start run heater : Byte} {s : State} (hm : restricted s = false)
    (h : ¬ SupplyRanges index budget motor start run heater) :
    writeSupply index budget motor start run heater s = refused .range s := by
  unfold writeSupply
  rw [if_neg (by rw [hm]; exact Bool.false_ne_true)]
  split
  · rename_i hi hb hmo hst hr hh
    rw [readRange_eq_some] at hb hmo hst hr hh
    rw [if_pos]
    simp only [largestCost]
    by_contra hc
    refine h ⟨readZero_eq_some.mp hi, ?_, ?_, ?_, ?_, ?_, ?_⟩ <;> omega
  · rfl

/-- The zone table takes a setpoint from −5.0 to 20.0 °C and a differential from 0.5 to 5.0 °C (R110). -/
theorem writeZone_of_range {z : ZoneId} {h : Half} {diff : Byte} {s : State} (h1 : -50 ≤ h.toInt) (h2 : h.toInt ≤ 200)
    (h3 : 5 ≤ diff.toNat) (h4 : diff.toNat ≤ 50) :
    writeZone (byteOf z) h diff s = done [0x0C, byteOf z]
      (formSetpoint z (s.mapZone z fun x => { x with setpoint := h.toInt, differential := diff.toNat })) := by
  simp [writeZone, readFin_byteOf, readSigned_of_le h1 h2, readRange_of_le h3 h4, written]

theorem writeZone_of_not_range {index diff : Byte} {h : Half} {s : State}
    (hn : 2 ≤ index.toNat ∨ ¬ (-50 ≤ h.toInt ∧ h.toInt ≤ 200 ∧ 5 ≤ diff.toNat ∧ diff.toNat ≤ 50)) :
    writeZone index h diff s = refused .range s := by
  unfold writeZone
  cases hi : readFin 2 index with
  | none => rfl
  | some z =>
    cases hp : readSigned (-50) 200 h with
    | none => rfl
    | some p =>
      cases hd : readRange 5 50 diff.toNat with
      | none => rfl
      | some d =>
        have hlt : index.toNat < 2 := by
          rw [(readFin_eq_some (by omega)).mp hi, byteOf_toNat (by omega)]
          exact z.isLt
        obtain ⟨_, hp⟩ := readSigned_eq_some.mp hp
        obtain ⟨_, hd⟩ := readRange_eq_some.mp hd
        rcases hn with hn | hn
        · omega
        · exact absurd ⟨hp.1, hp.2, hd.1, hd.2⟩ hn

theorem writeRefrigeration_of_range {index on off hours : Byte} {h : Half} {s : State} (h0 : index = 0)
    (hon : 1 ≤ on.toNat ∧ on.toNat ≤ 30) (hoff : 1 ≤ off.toNat ∧ off.toNat ≤ 30)
    (hh : 1 ≤ hours.toNat ∧ hours.toNat ≤ 24) (ht : 0 ≤ h.toInt ∧ h.toInt ≤ 300) :
    writeRefrigeration index on off hours h s =
      done [0x0D, 0] (setRefrigeration on.toNat off.toNat hours.toNat h.toInt s) := by
  subst h0
  simp [writeRefrigeration, readZero_of_eq, readRange_of_le hon.1 hon.2, readRange_of_le hoff.1 hoff.2,
    readRange_of_le hh.1 hh.2, readSigned_of_le ht.1 ht.2, written]

theorem writeRefrigeration_of_not_range {index on off hours : Byte} {h : Half} {s : State}
    (hn : ¬ (index = 0 ∧ 1 ≤ on.toNat ∧ on.toNat ≤ 30 ∧ 1 ≤ off.toNat ∧ off.toNat ≤ 30 ∧ 1 ≤ hours.toNat ∧
      hours.toNat ≤ 24 ∧ 0 ≤ h.toInt ∧ h.toInt ≤ 300)) :
    writeRefrigeration index on off hours h s = refused .range s := by
  unfold writeRefrigeration
  cases hi : readZero index with
  | none => rfl
  | some u =>
    cases ha : readRange 1 30 on.toNat with
    | none => rfl
    | some a =>
      cases hb : readRange 1 30 off.toNat with
      | none => rfl
      | some b =>
        cases hc : readRange 1 24 hours.toNat with
        | none => rfl
        | some c =>
          cases ht : readSigned 0 300 h with
          | none => rfl
          | some t =>
            obtain ⟨_, ha⟩ := readRange_eq_some.mp ha
            obtain ⟨_, hb⟩ := readRange_eq_some.mp hb
            obtain ⟨_, hc⟩ := readRange_eq_some.mp hc
            obtain ⟨_, ht⟩ := readSigned_eq_some.mp ht
            exact absurd ⟨readZero_eq_some.mp hi, ha.1, ha.2, hb.1, hb.2, hc.1, hc.2, ht.1, ht.2⟩ hn

theorem headMotors_eq (s : State) : headMotors s =
    match s.vend.queue with
    | [] => 1
    | e :: _ => if s.vend.selections[e.selection].kind = .twinSpiral then 2 else 1 := by
  unfold headMotors
  cases s.vend.queue with
  | nil => rfl
  | cons e es => exact motorCount_eq _

/-- Settles O36. -/
theorem supplyAndRefrigerationWrites : Obligations.SupplyAndRefrigerationWrites := by
  refine ⟨fun s src index budget motor start run heater hs hp => ?_, fun s src index diff on off hours h hs hp => ?_⟩
  · intro p b m c r h w service ranges priced motors
    have hranges : ranges ↔ SupplyRanges index budget motor start run heater :=
      ⟨fun ⟨h0, b1, b2, m1, m2, c1, c2, r1, r2, h1, h2, hc⟩ => ⟨h0, ⟨b1, b2⟩, ⟨m1, m2⟩, ⟨c1, c2⟩, ⟨r1, r2⟩, ⟨h1, h2⟩, hc⟩,
        fun ⟨h0, ⟨b1, b2⟩, ⟨m1, m2⟩, ⟨c1, c2⟩, ⟨r1, r2⟩, ⟨h1, h2⟩, hc⟩ => ⟨h0, b1, b2, m1, m2, c1, c2, r1, r2, h1, h2, hc⟩⟩
    have hopen (h : service) : restricted s = false := restricted_iff.mpr h
    have hrefused {st : Status} (h : writeSupply index budget motor start run heater s = refused st s) :
        w = .next (answered src 0x40 st [] s) := request_refused hs hp rfl h
    refine ⟨fun hno => hrefused (if_pos ?_), fun hser hno => hrefused ?_, fun hser hr hbusy => hrefused ?_,
      fun hser hr hfree => request_done hs hp rfl ?_ (by simp)⟩
    · by_contra hr
      exact hno (restricted_iff.mp (by simpa using hr))
    · exact writeSupply_of_not_ranges (hopen hser) (mt hranges.mpr hno)
    · rw [writeSupply_of_ranges (hopen hser) (hranges.mp hr), if_pos hbusy]
    · show writeSupply index budget motor start run heater s = _
      rw [writeSupply_of_ranges (hopen hser) (hranges.mp hr), if_neg (Nat.not_lt.mpr hfree), repriceSupply, headMotors_eq]
      rfl
  · intro zone all zoneRange allRange set
    have hzone : serve 0x40 [0x0C, index, hi8 h, lo8 h, diff] s = writeZone index h diff s := by
      show writeZone index (half (hi8 h) (lo8 h)) diff s = _
      rw [half_bytes]
    have hall : serve 0x40 ([0x0D, index, on, off, hours] ++ bytes16 h) s = writeRefrigeration index on off hours h s := by
      show writeRefrigeration index on off hours (half (hi8 h) (lo8 h)) s = _
      rw [half_bytes]
    refine ⟨fun z hz hr => ?_, fun hn => ?_, fun hr => ?_, fun hn => ?_⟩
    · obtain ⟨h1, h2, h3, h4⟩ := hr
      subst hz
      exact request_done hs hp rfl (hzone.trans (writeZone_of_range h1 h2 h3 h4)) (by simp)
    · exact request_refused hs hp rfl (hzone.trans (writeZone_of_not_range hn))
    · obtain ⟨h0, on1, on2, off1, off2, hh1, hh2, h1, h2⟩ := hr
      refine request_done hs hp rfl ?_ (by simp)
      rw [hall, writeRefrigeration_of_range h0 ⟨on1, on2⟩ ⟨off1, off2⟩ ⟨hh1, hh2⟩ ⟨h1, h2⟩]
      simp only [setRefrigeration, intervalReached, decide_eq_true_eq]
      rfl
    · exact request_refused hs hp rfl (hall.trans (writeRefrigeration_of_not_range hn))

end Sys2Proof.Machine
end

section
/-! PROOFS. Refrigeration (chapter 6): the filter and the coil, the compressor and its timers, the defrost. -/

namespace Sys2Proof.Machine

/-! ## What the other units' answers leave of the cooling -/

/-- Totals, settlements, the cabinet and the beam's monitor stay, and of the refrigeration controller all but the
compressor and the defrost. -/
structure Calm (s t : State) : Prop where
  totals : t.money.totals = s.money.totals
  settlements : t.money.settlements = s.money.settlements
  cabinet : t.cabinet = s.cabinet
  cooling : t.cooling = { s.cooling with compressor := t.cooling.compressor, defrost := t.cooling.defrost }
  monitor : t.drive.monitor = s.drive.monitor

theorem Calm.of_same {s t : State} (hm : t.money = s.money) (hc : t.cooling = s.cooling) (hb : t.cabinet = s.cabinet)
    (hd : t.drive.monitor = s.drive.monitor) : Calm s t := ⟨by rw [hm], by rw [hm], hb, by rw [hc], hd⟩

theorem Calm.refl (s : State) : Calm s s := .of_same rfl rfl rfl rfl

theorem Calm.trans {s t u : State} (h : Calm s t) (k : Calm t u) : Calm s u :=
  ⟨k.totals.trans h.totals, k.settlements.trans h.settlements, k.cabinet.trans h.cabinet, by rw [k.cooling, h.cooling],
    k.monitor.trans h.monitor⟩

theorem Calm.probes {s t : State} (h : Calm s t) : t.cooling.probes = s.cooling.probes := by rw [h.cooling]

theorem Calm.zones {s t : State} (h : Calm s t) : t.cooling.zones = s.cooling.zones := by rw [h.cooling]

theorem mapSupply_calm (s : State) (f : Supply → Supply) : Calm s (s.mapSupply f) := .of_same rfl rfl rfl rfl

theorem mapCompressor_calm (s : State) (f : Compressor → Compressor) : Calm s (s.mapCompressor f) :=
  ⟨rfl, rfl, rfl, rfl, rfl⟩

theorem mapDefrost_calm (s : State) (f : Defrost → Defrost) : Calm s (s.mapDefrost f) := ⟨rfl, rfl, rfl, rfl, rfl⟩

theorem raise_calm (c : EventCode) (a : Byte) (v : Word) (s : State) : Calm s (raise c a v s) := .of_same rfl rfl rfl rfl

theorem tryCompressor_calm (s : State) : Calm s (tryCompressor s) := by
  unfold tryCompressor
  split <;> exact ⟨rfl, rfl, rfl, rfl, rfl⟩

theorem tryHeater_calm (s : State) : Calm s (tryHeater s) := by
  unfold tryHeater
  split <;> exact ⟨rfl, rfl, rfl, rfl, rfl⟩

theorem firstEnergise_monitor (tag : Byte) (x : Selection) (s : State) :
    (firstEnergise tag x s).drive.monitor = s.drive.monitor := by
  obtain ⟨tr, htr⟩ := firstEnergise_drive tag x s
  rw [htr]
  simp only [energisedFirst, State.mapDrive, Driver.energise]

theorem tryVend_monitor (s : State) : (tryVend s).drive.monitor = s.drive.monitor := by
  unfold tryVend
  split
  · rfl
  · rename_i e es _
    split
    · exact firstEnergise_monitor _ _ _
    · rfl

theorem tryVend_calm (s : State) : Calm s (tryVend s) :=
  .of_same (by simp) (tryVend_tried s).cooling (by simp) (tryVend_monitor s)

theorem tryVendBehind_calm (s : State) : Calm s (tryVendBehind s) := by
  rcases tryVendBehind_cases s with h | h <;> rw [h]
  · exact .refl s
  · exact tryVend_calm s

theorem consider_calm (s : State) : Calm s (consider s) := by
  unfold consider
  split
  · exact ((tryCompressor_calm s).trans (tryVendBehind_calm _)).trans (tryHeater_calm _)
  · exact ((tryVend_calm s).trans (tryCompressor_calm _)).trans (tryHeater_calm _)

/-- A change of the claims with its consideration. -/
theorem considered_calm (s : State) (f : Supply → Supply) : Calm s (consider (s.mapSupply f)) :=
  (mapSupply_calm s f).trans (consider_calm _)

theorem placeCompressor_calm (s : State) : Calm s (placeCompressor s) := by
  unfold placeCompressor
  split
  · exact considered_calm s _
  · exact .refl s

theorem placeHeater_calm (s : State) : Calm s (placeHeater s) := by
  unfold placeHeater
  split
  · exact considered_calm s _
  · exact .refl s

theorem withdrawCompressor_calm (s : State) : Calm s (withdrawCompressor s) := by
  unfold withdrawCompressor
  split
  · exact considered_calm s _
  · exact .refl s

theorem withdrawHeater_calm (s : State) : Calm s (withdrawHeater s) := by
  unfold withdrawHeater
  split
  · exact considered_calm s _
  · exact .refl s

theorem releaseCompressor_calm (s : State) : Calm s (releaseCompressor s) := by
  unfold releaseCompressor
  split
  · exact considered_calm s _
  · exact .refl s

theorem releaseHeater_calm (s : State) : Calm s (releaseHeater s) := by
  unfold releaseHeater
  split
  · exact considered_calm s _
  · exact .refl s

theorem withdrawVend_calm (s : State) : Calm s (withdrawVend s) := by
  unfold withdrawVend
  split
  · exact considered_calm s _
  · exact .refl s

theorem startHead_calm (s : State) : Calm s (startHead s) := by
  unfold startHead
  split
  · exact .refl s
  · split
    · unfold placeVend
      split
      · exact considered_calm s _
      · exact .refl s
    · exact .refl s

theorem mapCredit_calm (s : State) (f : Credit → Credit) : Calm s (s.mapCredit f) := ⟨rfl, rfl, rfl, rfl, rfl⟩

theorem mapVend_calm (s : State) (f : Vend → Vend) : Calm s (s.mapVend f) := .of_same rfl rfl rfl rfl

theorem cancelOne_calm (c : CancelCause) (s : State) (e : Entry) : Calm s (cancelOne c s e) := by
  have hrelease (t : State) : Calm t (releaseFunds e t) := by
    rw [releaseFunds_eq]
    refine (mapCredit_calm t (Credit.without e)).trans ?_
    unfold endSession
    split
    · exact (mapCredit_calm _ _).trans (raise_calm _ _ _ _)
    · exact .refl _
  have hfinish (t : State) : Calm t (finishEntry e .cancelled (some c) t) :=
    (mapVend_calm t _).trans (raise_calm _ _ _ _)
  unfold cancelOne
  simp only []
  refine (Calm.trans ?_ (hrelease _)).trans (hfinish _)
  split
  · exact (mapVend_calm s _).trans (withdrawVend_calm _)
  · exact mapVend_calm s _

theorem cancelAll_calm (c : CancelCause) (l : List Entry) (s : State) : Calm s (l.foldl (cancelOne c) s) := by
  induction l generalizing s with
  | nil => exact .refl s
  | cons e l ih => exact (cancelOne_calm c s e).trans (ih _)

theorem cancelWhere_calm (p : Entry → Bool) (c : CancelCause) (s : State) : Calm s (cancelWhere p c s) := by
  unfold cancelWhere
  split
  · exact .refl s
  · exact (cancelAll_calm c _ s).trans (startHead_calm _)

theorem recomputeAccept_calm (s : State) : Calm s (recomputeAccept s) := .of_same (by simp) (by simp) (by simp) (by simp)

theorem enterSales_calm (n : SalesState) (s : State) : Calm s (enterSales n s) := by
  have hraise := (mapVend_calm s fun v => { v with sales := n }).trans
    (raise_calm .salesState n.code (amount (causeCode (s.mapVend fun v => { v with sales := n }))) _)
  cases n with
  | suspended => exact (hraise.trans (withdrawVend_calm _)).trans (recomputeAccept_calm _)
  | selling => exact (hraise.trans (recomputeAccept_calm _)).trans (startHead_calm _)
  | offline => exact hraise.trans (recomputeAccept_calm _)
  | service => exact hraise.trans (recomputeAccept_calm _)

theorem suspendCheck_calm (s : State) : Calm s (suspendCheck s) := by
  cases h : s.vend.sales with
  | selling =>
    rw [suspendCheck_of_selling h]
    split
    · exact .refl s
    · exact enterSales_calm _ s
  | suspended =>
    rw [suspendCheck_of_suspended h]
    split
    · exact enterSales_calm _ s
    · exact .refl s
  | offline => rw [suspendCheck_of_closed (.inl h)]; exact .refl s
  | service => rw [suspendCheck_of_closed (.inr h)]; exact .refl s

theorem isolationBegins_calm (i : Item) (s : State) : Calm s (isolationBegins i s) := by
  unfold isolationBegins
  split
  · exact .of_same (by simp) (by simp) (by simp) (by simp)
  · exact cancelWhere_calm _ _ s
  · exact cancelWhere_calm _ _ s
  · exact cancelWhere_calm _ _ s

theorem report_calm (k : FaultKind) (n : Nat) (s : State) : Calm s (report k n s) := by
  have hput (f : FaultList → FaultList) (c : EventCode) (a : Byte) (v : Word) : Calm s (raise c a v (s.mapFaults f)) :=
    .of_same rfl rfl rfl rfl
  unfold report
  split
  · split
    · exact hput _ _ _ _
    · exact .refl s
  · split
    · unfold storeFault
      simp only []
      refine Calm.trans ?_ (suspendCheck_calm _)
      split
      · exact hput _ _ _ _
      · split
        · exact (hput _ _ _ _).trans (isolationBegins_calm _ _)
        · exact hput _ _ _ _
    · exact (hput _ _ _ _).trans (suspendCheck_calm _)

theorem conditionEnded_cooling (k : FaultKind) (n : Nat) (s : State) :
    (conditionEnded k n s).cooling = s.cooling := by
  simp

theorem conditionEnded_calm (k : FaultKind) (n : Nat) (s : State) : Calm s (conditionEnded k n s) :=
  .of_same (by simp) (conditionEnded_cooling k n s) (by simp) (by simp)

/-! ## The filter (R108, R109) -/

theorem sample_of_short {p : Probe} {raw : Int} (h : raw < -400) :
    p.sample raw = { p with raw := raw, state := .faultedShort } := by
  simp [Probe.sample, readingOf, h]

theorem sample_of_open {p : Probe} {raw : Int} (h : 850 < raw) :
    p.sample raw = { p with raw := raw, state := .faultedOpen } := by
  have h' : ¬ raw < -400 := by omega
  simp [Probe.sample, readingOf, h, h']

theorem sample_of_first {p : Probe} {raw : Int} (h1 : -400 ≤ raw) (h2 : raw ≤ 850) (hs : p.state ≠ .valid) :
    p.sample raw = { raw := raw, filtered := raw, state := .valid } := by
  have h1 : ¬ raw < -400 := by omega
  have h2 : ¬ 850 < raw := by omega
  unfold Probe.sample
  simp only [readingOf, h1, h2, if_false]
  cases hp : p.state with
  | valid => exact absurd hp hs
  | noSample => rfl
  | faultedOpen => rfl
  | faultedShort => rfl

theorem sample_of_valid {p : Probe} {raw : Int} (h1 : -400 ≤ raw) (h2 : raw ≤ 850) (hs : p.state = .valid) :
    p.sample raw = { p with raw := raw, filtered := p.filtered + filterStep (raw - p.filtered) } := by
  have h1 : ¬ raw < -400 := by omega
  have h2 : ¬ 850 < raw := by omega
  simp only [Probe.sample, readingOf, h1, h2, if_false, hs]

/-- An eighth of the difference, truncated toward zero, but at least 1 in size. -/
theorem filterStep_eq (d : Int) :
    filterStep d = if d = 0 then 0 else if 0 < d then max 1 (d / 8) else min (-1) (-(-d / 8)) := by
  have hpos (h : 0 ≤ d) : d.tdiv 8 = d / 8 := Int.tdiv_eq_ediv_of_nonneg h
  have hneg (h : d < 0) : d.tdiv 8 = -(-d / 8) := by
    have h8 : (-d).tdiv 8 = -d / 8 := Int.tdiv_eq_ediv_of_nonneg (by omega)
    rw [← h8, Int.neg_tdiv, neg_neg]
  unfold filterStep
  rcases lt_trichotomy d 0 with h | h | h
  · rw [hneg h, if_neg (show ¬ d = 0 by omega), if_neg (show ¬ 0 < d by omega), if_neg (show ¬ 0 < d by omega)]
    split <;> omega
  · simp [h]
  · rw [hpos (by omega), if_neg (show ¬ d = 0 by omega), if_pos h, if_pos h]
    split <;> omega

theorem reportPassage_of_same {i : Fin 3} {a b : ChannelState} {s : State} (h : a.condition = b.condition) :
    reportPassage i a b s = s := if_pos h

theorem reportPassage_of_begun {i : Fin 3} {a b : ChannelState} {k : FaultKind} {s : State} (ha : a.condition = none)
    (hb : b.condition = some k) : reportPassage i a b s = report k i s := by
  simp [reportPassage, ha, hb]

theorem reportPassage_of_ended {i : Fin 3} {a b : ChannelState} {k : FaultKind} {s : State} (ha : a.condition = some k)
    (hb : b.condition = none) : reportPassage i a b s = conditionEnded k i s := by
  simp [reportPassage, ha, hb]

theorem reportPassage_of_other {i : Fin 3} {a b : ChannelState} {k l : FaultKind} {s : State}
    (ha : a.condition = some k) (hb : b.condition = some l) (hne : k ≠ l) :
    reportPassage i a b s = report l i (conditionEnded k i s) := by
  simp [reportPassage, ha, hb, hne]

theorem reportPassage_calm (i : Fin 3) (a b : ChannelState) (s : State) : Calm s (reportPassage i a b s) := by
  unfold reportPassage
  split
  · exact .refl s
  · simp only []
    have hended : Calm s (match a.condition with | none => s | some k => conditionEnded k i s) := by
      split
      · exact .refl s
      · exact conditionEnded_calm _ _ s
    split
    · exact hended
    · exact hended.trans (report_calm _ _ _)

theorem sampleProbe_probes (i : Fin 3) (raw : Int) (s : State) :
    (sampleProbe i raw s).cooling.probes = s.cooling.probes.set i (s.cooling.probes[i].sample raw) :=
  (reportPassage_calm i _ _ _).probes

theorem sampleProbe_self (i : Fin 3) (raw : Int) (s : State) :
    (sampleProbe i raw s).cooling.probes[i] = s.cooling.probes[i].sample raw := by
  rw [sampleProbe_probes]
  exact Vector.getElem_set_self _

/-- A coil sample that leaves its channel VALID reports nothing but the end of a condition. -/
theorem sampleProbe_cooling {i : Fin 3} {raw : Int} {s : State}
    (h : (s.cooling.probes[i].sample raw).state = .valid) :
    (sampleProbe i raw s).cooling = { s.cooling with
      probes := s.cooling.probes.set i (s.cooling.probes[i].sample raw) } := by
  have hvalid : (ChannelState.valid).condition = none := rfl
  unfold sampleProbe
  simp only [h]
  cases hold : s.cooling.probes[i].state.condition with
  | none => rw [reportPassage_of_same (hold.trans hvalid.symm)]; rfl
  | some k => rw [reportPassage_of_ended hold hvalid, conditionEnded_cooling]; rfl

/-- What COMPRESSOR-NOCOOL needs of the run and of the coil (R121). -/
def NoCool (f : Int) (c : Compressor) : Prop := c.state = .running ∧ 900000 ≤ c.runningMs ∧ c.noCool = false ∧ -50 < f

theorem checkNoCool_of {s : State} (h : NoCool s.cooling.probes[(2 : Fin 3)].filtered s.cooling.compressor) :
    checkNoCool s = (report .compressorNocool 0 s).mapCompressor fun c => { c with noCool := true } := if_pos h

theorem checkNoCool_of_not {s : State} (h : ¬ NoCool s.cooling.probes[(2 : Fin 3)].filtered s.cooling.compressor) :
    checkNoCool s = s := if_neg h

/-- Settles O38. -/
theorem probeFilterAndCoil : Obligations.ProbeFilterAndCoil := by
  refine ⟨fun p raw => ?_, fun s i raw => ?_, fun s raw => ?_⟩
  · intro q d step
    have hstep : filterStep (raw - p.filtered) = step := filterStep_eq d
    refine ⟨?_, fun h => ?_, fun h => ?_, fun h1 h2 => ⟨?_, fun hs => ?_, fun hs => ?_⟩⟩
    · show (p.sample raw).raw = raw
      unfold Probe.sample
      split <;> (try split) <;> rfl
    · rw [show q = _ from sample_of_short h]
      exact ⟨rfl, rfl⟩
    · rw [show q = _ from sample_of_open h]
      exact ⟨rfl, rfl⟩
    · by_cases hs : p.state = .valid
      · rw [show q = _ from sample_of_valid h1 h2 hs]; exact hs
      · rw [show q = _ from sample_of_first h1 h2 hs]
    · rw [show q = _ from sample_of_first h1 h2 hs]
    · have hq : q.filtered = p.filtered + step := by
        rw [show q = _ from sample_of_valid h1 h2 hs, ← hstep]
      have hsplit : step = if d = 0 then 0 else if 0 < d then max 1 (d / 8) else min (-1) (-(-d / 8)) := rfl
      have hd : d = raw - p.filtered := rfl
      refine ⟨hq, ?_, ?_⟩
      · rw [hq, hsplit]
        split
        · omega
        · split <;> omega
      · rw [hq, hsplit]
        split
        · omega
        · split <;> omega
  · intro old q u t
    have ht : t = reportPassage i old q.state u := rfl
    refine ⟨fun h => ?_, fun h => ⟨fun hq => ?_, fun hq => ?_⟩, fun h => ⟨fun hq => ?_, fun hq => ?_⟩,
      fun h => ⟨fun hq => ?_, fun hq => ?_⟩⟩
    · rw [ht]
      rcases h with h | ⟨h, hq⟩
      · exact reportPassage_of_same (by rw [h])
      · exact reportPassage_of_same (by rw [h, hq]; rfl)
    · rw [ht, hq]
      rcases h with h | h <;> rw [h] <;> exact reportPassage_of_begun rfl rfl
    · rw [ht, hq]
      rcases h with h | h <;> rw [h] <;> exact reportPassage_of_begun rfl rfl
    · rw [ht, h, hq]; exact reportPassage_of_ended rfl rfl
    · rw [ht, h, hq]; exact reportPassage_of_other rfl rfl (by decide)
    · rw [ht, h, hq]; exact reportPassage_of_ended rfl rfl
    · rw [ht, h, hq]; exact reportPassage_of_other rfl rfl (by decide)
  · intro u f c noCool recorded
    have hvalid (h : u.cooling.probes[(2 : Fin 3)].state = .valid) :
        sampleCoil raw s = checkCoil (checkNoCool u) := if_pos h
    have hstays (h : u.cooling.probes[(2 : Fin 3)].state = .valid) : u.cooling =
        { s.cooling with probes := s.cooling.probes.set 2 (s.cooling.probes[(2 : Fin 3)].sample raw) } := by
      refine sampleProbe_cooling ?_
      rw [← sampleProbe_self]
      exact h
    have hcheck (h : u.cooling.probes[(2 : Fin 3)].state = .valid) : noCool ↔
        NoCool u.cooling.probes[(2 : Fin 3)].filtered u.cooling.compressor := by
      rw [show u.cooling.compressor = s.cooling.compressor by rw [hstays h]]
      exact Iff.rfl
    have hterminate (h : u.cooling.probes[(2 : Fin 3)].state = .valid) : u.cooling.terminate = s.cooling.terminate ∧
        u.cooling.defrost = s.cooling.defrost := by
      rw [hstays h]; exact ⟨rfl, rfl⟩
    refine ⟨fun h => if_neg h, fun h hheat hf hno => ?_, fun h hheat hno => ?_, fun hend hno => ?_⟩
    · rw [hvalid h, checkNoCool_of_not (mt (hcheck h).mpr hno)]
      obtain ⟨ht, hd⟩ := hterminate h
      exact if_pos ⟨by rw [hd]; exact hheat, by rw [ht]; exact hf⟩
    · rw [hvalid h, checkNoCool_of ((hcheck h).mp hno)]
      refine if_neg fun k => hheat ?_
      rw [← k.1]
      refine Eq.symm ((report_undisturbed .compressorNocool 0 u).defrost.trans ?_)
      rw [(hterminate h).2]
    · by_cases h : u.cooling.probes[(2 : Fin 3)].state = .valid
      · rw [hvalid h, checkNoCool_of_not (mt (hcheck h).mpr hno)]
        obtain ⟨ht, hd⟩ := hterminate h
        refine if_neg fun k => ?_
        rw [hd, ht] at k
        rcases hend with hend | hend
        · exact hend k.1
        · exact absurd k.2 (by omega)
      · exact if_neg h

end Sys2Proof.Machine
end

section
/-! PROOFS. The compressor, its timers and outputs, and the defrost (R113 to R127). -/

namespace Sys2Proof.Machine

/-! ## The compressor's demand (R116, R118, R120) -/

/-- What the compressor demand asks for: no defrost, and a zone that wants cold. -/
structure Wanted (c : Cooling) : Prop where
  undefrosted : c.defrost.state = .none
  zone : ∃ z : ZoneId, c.zones[z].demand = true

theorem compressorDemand_iff {c : Cooling} : compressorDemand c = true ↔ Wanted c := by
  have h2 : (∃ z : ZoneId, c.zones[z].demand = true) ↔
      c.zones[(0 : ZoneId)].demand = true ∨ c.zones[(1 : ZoneId)].demand = true := Fin.exists_fin_two
  constructor
  · intro h
    simp only [compressorDemand, Bool.and_eq_true, decide_eq_true_eq, Bool.or_eq_true] at h
    exact ⟨h.1, h2.mpr h.2⟩
  · rintro ⟨hd, hz⟩
    simp only [compressorDemand, Bool.and_eq_true, decide_eq_true_eq, Bool.or_eq_true]
    exact ⟨hd, h2.mp hz⟩

theorem compressorDemand_of_not {c : Cooling} (h : ¬ Wanted c) : compressorDemand c = false := by
  simpa using mt compressorDemand_iff.mp h

theorem reactCompressor_of_ready {s : State} (h : s.cooling.compressor.state = .ready) :
    reactCompressor s = if compressorDemand s.cooling = true then
      placeCompressor (s.mapCompressor fun c => { c with state := .waitingPower }) else s := by
  unfold reactCompressor
  cases hd : compressorDemand s.cooling <;> simp [h]

theorem reactCompressor_of_waiting {s : State} (h : s.cooling.compressor.state = .waitingPower) :
    reactCompressor s = if compressorDemand s.cooling = true then s else
      withdrawCompressor (s.mapCompressor fun c => { c with state := .ready }) := by
  unfold reactCompressor
  cases hd : compressorDemand s.cooling <;> simp [h]

theorem reactCompressor_of_running {s : State} (h : s.cooling.compressor.state = .running) :
    reactCompressor s = if compressorDemand s.cooling = true then s else
      if 60000 ≤ s.cooling.compressor.onMs then stopCompressor s else s := by
  unfold reactCompressor
  simp only [h]
  cases hd : compressorDemand s.cooling with
  | true => simp
  | false => rfl

theorem reactCompressor_of_other {s : State} (h : s.cooling.compressor.state = .locked ∨ s.cooling.compressor.state = .starting) :
    reactCompressor s = s := by
  unfold reactCompressor
  rcases h with h | h <;> simp [h]

/-- Settles O40. -/
theorem compressorDemandTimersAndStop : Obligations.CompressorDemandTimersAndStop := by
  have hsilent {s : State} {c : Instr} (hs : s.resetLow = false) (h : exec c s = act s (pump s)) :
      ∃ t, Becomes s [] t ∧ exec c s = .next t := by
    rw [h]; exact act_silent hs s
  refine ⟨fun s z on => ?_, fun s z hs => ?_, fun s hs => ?_, fun s hs => ?_⟩
  · intro c wanted with_ zone
    have hwanted : Wanted s.cooling ↔ wanted := ⟨fun ⟨h1, h2⟩ => ⟨h1, h2⟩, fun ⟨h1, h2⟩ => ⟨h1, h2⟩⟩
    have hyes (h : wanted) : compressorDemand s.cooling = true := compressorDemand_iff.mpr (hwanted.mpr h)
    have hno (h : ¬ wanted) : ¬ compressorDemand s.cooling = true := fun k => h (hwanted.mp (compressorDemand_iff.mp k))
    refine ⟨fun h hw => ?_, fun h hw => ?_, fun h hw hon => ?_, fun h => ?_, fun h => if_pos h, fun h => if_neg h⟩
    · rw [reactCompressor_of_ready h, if_pos (hyes hw)]; rfl
    · rw [reactCompressor_of_waiting h, if_neg (hno hw)]; rfl
    · rw [reactCompressor_of_running h, if_neg (hno hw), if_pos hon]
    · rcases h with ⟨h, hw⟩ | ⟨h, hw⟩ | h | h | ⟨h, hw⟩
      · rw [reactCompressor_of_ready h, if_neg (hno hw)]
      · rw [reactCompressor_of_waiting h, if_pos (hyes hw)]
      · exact reactCompressor_of_other (.inl h)
      · exact reactCompressor_of_other (.inr h)
      · rw [reactCompressor_of_running h]
        rcases hw with hw | hw
        · rw [if_pos (hyes hw)]
        · rw [if_neg (Nat.not_le.mpr hw), ite_self]
  · intro c with_
    refine ⟨fun l hl => ?_, fun hl => hsilent hs ?_, fun h => ?_, fun h => hsilent hs ?_, fun h => ?_,
      fun h => hsilent hs ?_, ?_⟩
    · have hexec : exec (.limpPhaseEnd z) s = act s (pump (setDemand z (!l.on) (s.mapZone z fun x =>
          { x with limp := some { on := !l.on,
                                  leftMs := (if l.on then s.cooling.limpOffMin else s.cooling.limpOnMin) * 60000 } }))) := by
        simp only [exec, execLimpPhaseEnd, hl]
      rw [hexec]
      exact act_of_high hs _
    · simp only [exec, execLimpPhaseEnd, hl]
    · have hexec : exec .offTimerExpiry s = act s (pump (reactCompressor
          (s.mapCompressor fun c => { c with state := .ready, offMs := 0 }))) := by
        simp only [exec, execOffTimerExpiry]
        rw [if_pos h]
      rw [hexec]
      exact act_of_high hs _
    · simp only [exec, execOffTimerExpiry]
      rw [if_neg h]
    · have hexec : exec .startWindowEnd s = act s (pump (shrink
          (s.mapCompressor fun c => { c with state := .running, onMs := max c.onMs 3000, runningMs := 0 }))) := by
        simp only [exec, execStartWindowEnd]
        rw [if_pos h]
        rfl
      rw [hexec]
      exact act_of_high hs _
    · simp only [exec, execStartWindowEnd]
      rw [if_neg h]
    · exact act_silent hs (s.mapCompressor fun c => { c with runOn := none })
  · intro c k off locked stopped
    refine ⟨rfl, fun h hd hn => ?_, fun h => hsilent hs ?_⟩
    · have hexec : exec .compressorStop s = act s (pump (stopCompressor
          (s.mapCompressor fun c => { c with onMs := max c.onMs 60000 }))) := by
        simp only [exec, execCompressorStop]
        have hn : 59000 ≤ s.cooling.compressor.onMs := hn
        rw [if_pos ⟨h, hd, risesTo_iff.mpr (by simp only [minimumOnMs]; omega)⟩]
        rfl
      rw [hexec]
      exact act_of_high hs _
    · simp only [exec, execCompressorStop]
      rw [if_neg]
      rintro ⟨hr, hd, hn⟩
      have hn := risesTo_iff.mp hn
      simp only [minimumOnMs] at hn
      rcases h with h | h | h
      · exact h hr
      · rw [hd] at h; cases h
      · have h : s.cooling.compressor.onMs < 59000 := h
        omega
  · intro o c thaws
    have ho : o = drivenOutputs s := outputs_of_high hs
    have hthaw : thawing s.cooling = true ↔ thaws := by
      show thawing s.cooling = true ↔ s.cooling.defrost.state = .heating ∨ s.cooling.defrost.state = .dripping
      unfold thawing
      cases s.cooling.defrost.state <;> simp
    have hdamper (z : ZoneId) : damperOpen z s.cooling = true ↔ s.cooling.zones[z].demand = true ∧ ¬ thaws := by
      rw [← hthaw, damperOpen]
      simp
    have hA : o.dampA = damperOpen 0 s.cooling := by rw [ho]; rfl
    have hB : o.dampB = damperOpen 1 s.cooling := by rw [ho]; rfl
    refine ⟨by rw [hA]; exact hdamper 0, by rw [hB]; exact hdamper 1, ?_, ?_⟩
    · rw [ho]
      simp [drivenOutputs, condenserFan, Option.isSome_iff_exists, c]
    · rw [hA, hB, ho, ← hthaw]
      simp [drivenOutputs, evaporatorFan, or_assoc, c]

/-! ## The defrost (R123 to R127) -/

theorem enterPending_eq (n : Nat) (s : State) :
    enterPending n s =
      let u := reactCompressor (raiseDefrost n (s.mapDefrost fun d => { d with state := .pending }))
      if u.cooling.defrost.state = .pending ∧
          (u.cooling.compressor.state = .locked ∨ u.cooling.compressor.state = .ready) then enterHeating u
      else u := by
  unfold enterPending
  simp only []
  generalize reactCompressor (raiseDefrost n (s.mapDefrost fun d => { d with state := .pending })) = u
  generalize u.cooling.defrost.state = d
  generalize u.cooling.compressor.state = k
  cases d with
  | pending => cases k <;> rfl
  | none | heating | dripping => rfl

/-- When DEFROST_PENDING is the entry to PENDING. -/
theorem execDefrostPending_eq (s : State) :
    exec .defrostPending s = act s (pump
      (if s.cooling.defrost.state = .none ∧
          (s.cooling.compressor.state = .running ∧
              s.cooling.intervalH * 3600000 ≤ s.cooling.compressor.accumulatorMs + 1000 ∨
            s.cooling.intervalH * 3600000 ≤ s.cooling.compressor.accumulatorMs) then
        enterPending 0 (s.mapCompressor fun c =>
          { c with accumulatorMs := max c.accumulatorMs (s.cooling.intervalH * 3600000) })
      else s)) := by
  have hreached : intervalReached s.cooling = true ↔
      s.cooling.intervalH * 3600000 ≤ s.cooling.compressor.accumulatorMs := by simp [intervalReached]
  have hraised : (s.mapCooling fun k => { k with compressor := { k.compressor with
        accumulatorMs := max k.compressor.accumulatorMs (k.intervalH * 3600000) } }) =
      s.mapCompressor fun c => { c with accumulatorMs := max c.accumulatorMs (s.cooling.intervalH * 3600000) } := by
    simp only [State.mapCompressor, State.mapCooling]
  simp only [exec, execDefrostPending, hraised, hreached, risesTo_iff]

/-- Settles O41. -/
theorem defrostBeginsAndEnds : Obligations.DefrostBeginsAndEnds := by
  refine ⟨fun s src n hs => ?_, fun s hs => ?_⟩
  · intro d with_ reached run
    refine ⟨⟨_, becomes_raised _ _ _ _, enterPending_eq n s⟩, ⟨_, becomes_raised _ _ _ _, rfl⟩, fun hd hn => ?_,
      fun h => ?_, fun hp => ⟨fun hd => ?_, fun hd => ?_⟩⟩
    · rw [execDefrostPending_eq, if_pos ⟨hd, hn⟩]
      exact act_of_high hs _
    · rw [execDefrostPending_eq, if_neg]
      · exact act_silent hs s
      · rintro ⟨hd, hn⟩
        rcases h with h | h | ⟨hr, h⟩
        · exact h hd
        · rcases hn with hn | hn <;> omega
        · rcases hn with ⟨hn, _⟩ | hn
          · exact hr hn
          · omega
    · exact request_done hs hp rfl (if_pos hd) (by simp)
    · exact request_refused hs hp rfl (if_neg hd)
  · intro d cold e dripping ended
    refine ⟨⟨_, becomes_raised _ _ _ _, rfl⟩, fun h => ?_, fun h => ?_, fun h => ⟨_, becomes_raised _ _ _ _, ?_⟩, fun h => ?_⟩
    · have hexec : exec .heatTimerExpiry s = act s (pump (endHeating (report .defrostTimeout 0 s))) := by
        simp only [exec, execHeatTimerExpiry]
        rw [if_pos h]
      rw [hexec]
      exact act_of_high hs _
    · have hexec : exec .heatTimerExpiry s = act s (pump s) := by
        simp only [exec, execHeatTimerExpiry]
        rw [if_neg h]
      rw [hexec]
      exact act_silent hs s
    · have hexec : exec .dripTimerExpiry s = act s (pump (endDripping s)) := by
        simp only [exec, execDripTimerExpiry]
        rw [if_pos h]
      rw [hexec]
      exact act_of_high hs _
    · have hexec : exec .dripTimerExpiry s = act s (pump s) := by
        simp only [exec, execDripTimerExpiry]
        rw [if_neg h]
      rw [hexec]
      exact act_silent hs s

end Sys2Proof.Machine
end

section
/-! PROOFS. Zones, sale hold and economy (chapters 6 and 7): what a sample or a forming leaves of a zone, and the hold
accumulation with its release. -/

namespace Sys2Proof.Machine

/-! ## What the compressor's answers leave of the cooling -/

theorem stopCompressor_calm (s : State) : Calm s (stopCompressor s) := by
  have hstop := ((mapCompressor_calm s fun c => { c with relay := false }).trans (releaseCompressor_calm _)).trans
    (mapCompressor_calm _ fun c =>
      { c with state := .locked, offMs := offTimerMs, onMs := 0, runningMs := 0, runOn := some runOnMs })
  unfold stopCompressor
  simp only []
  split
  · exact ((hstop.trans (mapDefrost_calm _ _)).trans (raise_calm _ _ _ _)).trans (placeHeater_calm _)
  · exact hstop

theorem reactCompressor_calm (s : State) : Calm s (reactCompressor s) := by
  cases h : s.cooling.compressor.state with
  | ready =>
    rw [reactCompressor_of_ready h]
    split
    · exact (mapCompressor_calm s _).trans (placeCompressor_calm _)
    · exact .refl s
  | waitingPower =>
    rw [reactCompressor_of_waiting h]
    split
    · exact .refl s
    · exact (mapCompressor_calm s _).trans (withdrawCompressor_calm _)
  | running =>
    rw [reactCompressor_of_running h]
    split
    · exact .refl s
    · split
      · exact stopCompressor_calm s
      · exact .refl s
  | locked => rw [reactCompressor_of_other (.inl h)]; exact .refl s
  | starting => rw [reactCompressor_of_other (.inr h)]; exact .refl s

theorem endHeating_calm (s : State) : Calm s (endHeating s) := by
  have hoff : Calm s (heaterOff s) :=
    ((mapDefrost_calm s _).trans (releaseHeater_calm _)).trans (withdrawHeater_calm _)
  have hdrip (t : State) (e : Defrost) (c : Compressor) :
      Calm t (t.mapCooling fun k => { k with defrost := e, compressor := c }) := ⟨rfl, rfl, rfl, rfl, rfl⟩
  exact (hoff.trans (hdrip _ _ _)).trans (raise_calm _ _ _ _)

theorem pump_calm (s : State) : Calm s (pump s) := .of_same (by simp) (by simp) (by simp) (by simp)

/-! ## The record of one zone -/

theorem zone_mapZone (s : State) (z y : ZoneId) (f : Zone → Zone) :
    (s.mapZone z f).cooling.zones[y] = if z = y then f s.cooling.zones[y] else s.cooling.zones[y] := by
  simp only [State.mapZone, State.mapCooling_cooling, Fin.getElem_fin, Vector.getElem_set]
  by_cases h : z = y
  · subst h; simp
  · simp [h, Fin.val_ne_of_ne h]

theorem mapZone_congr {s : State} {z : ZoneId} {f g : Zone → Zone} (h : f s.cooling.zones[z] = g s.cooling.zones[z]) :
    s.mapZone z f = s.mapZone z g := by
  simp only [State.mapZone, State.mapCooling, h]

theorem mapZone_of_fixed {s : State} {z : ZoneId} {f : Zone → Zone} (h : f s.cooling.zones[z] = s.cooling.zones[z]) :
    s.mapZone z f = s := by
  have hset : s.cooling.zones.set z (f s.cooling.zones[z]) = s.cooling.zones := by
    rw [h]
    exact Vector.set_getElem_self _
  simp only [State.mapZone, State.mapCooling, hset]

theorem mapZone_mapZone (s : State) (z : ZoneId) (f g : Zone → Zone) :
    (s.mapZone z f).mapZone z g = s.mapZone z fun x => g (f x) := by
  simp only [State.mapZone, State.mapCooling, Fin.getElem_fin, Vector.getElem_set_self, Vector.set_set]

theorem Calm.mapZone {s t : State} (h : Calm s t) (z : ZoneId) (f : Zone → Zone) :
    Calm (s.mapZone z f) (t.mapZone z f) :=
  ⟨h.totals, h.settlements, h.cabinet, congrArg (fun c : Cooling => { c with zones := c.zones.set z (f c.zones[z]) }) h.cooling,
    h.monitor⟩

theorem Calm.mapProbe {s t : State} (h : Calm s t) (i : Fin 3) (f : Probe → Probe) :
    Calm (s.mapProbe i f) (t.mapProbe i f) :=
  ⟨h.totals, h.settlements, h.cabinet, congrArg (fun c : Cooling => { c with probes := c.probes.set i (f c.probes[i]) }) h.cooling,
    h.monitor⟩

/-- The zone after its demand is evaluated at its probe (R112). -/
def Zone.judged (p : Probe) (x : Zone) : Zone :=
  { x with demand := match p.state with
      | .valid => demandOf x p.filtered
      | .noSample => false
      | .faultedOpen | .faultedShort => x.demand }

/-- The zone after its effective setpoint is formed (R111). -/
def Zone.formed (limit : Int) (e : Economy) (x : Zone) : Zone :=
  { x with effective := effectiveOf x.setpoint limit e.offset e.state }

theorem demandOf_of_above {x : Zone} {f : Int} (h : x.effective + x.differential ≤ f) : demandOf x f = true := if_pos h

theorem demandOf_of_below {x : Zone} {f : Int} (h : f < x.effective + x.differential) (hf : f ≤ x.effective) :
    demandOf x f = false := by
  rw [demandOf, if_neg (not_le.mpr h), if_pos hf]

theorem demandOf_of_between {x : Zone} {f : Int} (h : f < x.effective + x.differential) (hf : x.effective < f) :
    demandOf x f = x.demand := by
  rw [demandOf, if_neg (not_le.mpr h), if_neg (not_le.mpr hf)]

theorem judged_of_valid {p : Probe} (x : Zone) (h : p.state = .valid) :
    x.judged p = { x with demand := demandOf x p.filtered } := by
  simp [Zone.judged, h]

theorem judged_of_noSample {p : Probe} (x : Zone) (h : p.state = .noSample) : x.judged p = { x with demand := false } := by
  simp [Zone.judged, h]

theorem judged_of_faulted {p : Probe} (x : Zone) (h : p.state = .faultedOpen ∨ p.state = .faultedShort) :
    x.judged p = x := by
  rcases h with h | h <;> simp [Zone.judged, h]

theorem setDemand_calm (z : ZoneId) (on : Bool) (s : State) :
    Calm (s.mapZone z fun x => { x with demand := on }) (setDemand z on s) := by
  unfold setDemand
  split
  · rename_i h
    rw [mapZone_of_fixed (by rw [← h])]
    exact .refl s
  · exact reactCompressor_calm _

theorem evalDemand_calm (z : ZoneId) (s : State) :
    Calm (s.mapZone z (Zone.judged s.cooling.probes[airProbe z])) (evalDemand z s) := by
  have hsame (h : s.cooling.zones[z].judged s.cooling.probes[airProbe z] = s.cooling.zones[z]) :
      Calm (s.mapZone z (Zone.judged s.cooling.probes[airProbe z])) s := by
    rw [mapZone_of_fixed h]
    exact .refl s
  have hset {b : Bool} (h : s.cooling.zones[z].judged s.cooling.probes[airProbe z] = { s.cooling.zones[z] with demand := b }) :
      Calm (s.mapZone z (Zone.judged s.cooling.probes[airProbe z])) (setDemand z b s) := by
    rw [(@mapZone_congr _ _ _ (fun x => { x with demand := b })) h]
    exact setDemand_calm z b s
  unfold evalDemand
  simp only []
  cases hp : s.cooling.probes[airProbe z].state with
  | valid => exact hset (judged_of_valid _ hp)
  | noSample => exact hset (judged_of_noSample _ hp)
  | faultedOpen => exact hsame (judged_of_faulted _ (.inl hp))
  | faultedShort => exact hsame (judged_of_faulted _ (.inr hp))

theorem formSetpoint_calm (z : ZoneId) (s : State) :
    Calm (s.mapZone z fun x => (x.formed s.cabinet.holds[z].limit s.cabinet.economy).judged s.cooling.probes[airProbe z])
      (formSetpoint z s) := by
  rw [← mapZone_mapZone]
  exact evalDemand_calm z _

/-- Settles O44. -/
theorem setpointFormedAndDemandJudged : Obligations.SetpointFormedAndDemandJudged := by
  intro s z x y p cap
  have hzone (o : ZoneId) : (formSetpoint z s).cooling.zones[o] =
      if z = o then (s.cooling.zones[o].formed s.cabinet.holds[z].limit s.cabinet.economy).judged p else s.cooling.zones[o] := by
    rw [(formSetpoint_calm z s).zones]
    exact zone_mapZone s z o _
  have hy : y = (x.formed s.cabinet.holds[z].limit s.cabinet.economy).judged p := by
    rw [show y = _ from hzone z, if_pos rfl]
  have heffective : y.effective = effectiveOf x.setpoint s.cabinet.holds[z].limit s.cabinet.economy.offset s.cabinet.economy.state := by
    rw [hy]; rfl
  have hdemand (h : p.state = .valid) : y.demand = demandOf (x.formed s.cabinet.holds[z].limit s.cabinet.economy) p.filtered := by
    rw [hy, judged_of_valid _ h]
  have hband : (x.formed s.cabinet.holds[z].limit s.cabinet.economy).effective = y.effective := by rw [hy]; rfl
  refine ⟨fun h => ?_, fun h => ?_, fun hv h => ?_, fun hv h1 h2 => ?_, fun hv h1 h2 => ?_, fun h => ?_, fun h => ?_,
    by rw [hy]; rfl, by rw [hy]; rfl, by rw [hy]; rfl, fun o ho => by rw [hzone o, if_neg (Ne.symm ho)]⟩
  · rw [heffective, h]; rfl
  · rw [heffective]
    cases he : s.cabinet.economy.state with
    | economy => exact absurd he h
    | active | dim => rfl
  · rw [hdemand hv]
    exact demandOf_of_above (by rw [hband]; exact h)
  · rw [hdemand hv]
    exact demandOf_of_below (by rw [hband]; exact h1) (by rw [hband]; exact h2)
  · rw [hdemand hv]
    exact demandOf_of_between (by rw [hband]; exact h1) (by rw [hband]; exact h2)
  · rw [hy, judged_of_noSample _ h]
  · rw [hy, judged_of_faulted _ h]; rfl

/-! ## One second's samples -/

/-- The zone after its air channel went from `old` to its present state (R112, R113). -/
def Zone.aired (old : ChannelState) (p : Probe) (onMin : Nat) (x : Zone) : Zone :=
  match old.condition, p.state.condition with
  | none, some _ => { x with limp := some { on := true, leftMs := onMin * 60000 }, demand := true }
  | some _, none => Zone.judged p { x with limp := none }
  | none, none => x.judged p
  | some _, some _ => x

theorem condition_isSome_iff (c : ChannelState) : (∃ k, c.condition = some k) ↔ c = .faultedOpen ∨ c = .faultedShort := by
  cases c <;> simp [ChannelState.condition]

theorem condition_eq_none_iff (c : ChannelState) : c.condition = none ↔ ¬ (c = .faultedOpen ∨ c = .faultedShort) := by
  cases c <;> simp [ChannelState.condition]

theorem airTaken_calm (z : ZoneId) (old : ChannelState) (s : State) :
    Calm (s.mapZone z (Zone.aired old s.cooling.probes[airProbe z] s.cooling.limpOnMin)) (airTaken z old s) := by
  unfold airTaken Zone.aired
  simp only []
  cases old.condition with
  | none =>
    cases s.cooling.probes[airProbe z].state.condition with
    | none => exact evalDemand_calm z s
    | some k =>
      have hlimp := setDemand_calm z true (s.mapZone z fun x =>
        { x with limp := some { on := true, leftMs := s.cooling.limpOnMin * 60000 } })
      rw [mapZone_mapZone] at hlimp
      exact hlimp
  | some l =>
    cases s.cooling.probes[airProbe z].state.condition with
    | none =>
      have hleft := evalDemand_calm z (s.mapZone z fun x => { x with limp := none })
      rw [mapZone_mapZone] at hleft
      exact hleft
    | some k => 
      rw [(@mapZone_of_fixed s z) rfl]
      exact .refl s

theorem sampleProbe_calm (i : Fin 3) (raw : Int) (s : State) :
    Calm (s.mapProbe i fun p => p.sample raw) (sampleProbe i raw s) := reportPassage_calm i _ _ _

/-- What a sample of a zone's air channel leaves, the compressor and the defrost apart. -/
def aired (z : ZoneId) (raw : Int) (s : State) : State :=
  (s.mapProbe (airProbe z) fun p => p.sample raw).mapZone z
    (Zone.aired s.cooling.probes[airProbe z].state (s.cooling.probes[airProbe z].sample raw) s.cooling.limpOnMin)

theorem Calm.aired {s t : State} (h : Calm s t) (z : ZoneId) (raw : Int) : Calm (aired z raw s) (aired z raw t) := by
  have hlimp : t.cooling.limpOnMin = s.cooling.limpOnMin := by rw [h.cooling]
  unfold Machine.aired
  rw [h.probes, hlimp]
  exact (h.mapProbe _ _).mapZone z _

theorem sampleAir_calm (z : ZoneId) (raw : Int) (s : State) : Calm (aired z raw s) (sampleAir z raw s) := by
  have hprobe := sampleProbe_calm (airProbe z) raw s
  have hlimp : (sampleProbe (airProbe z) raw s).cooling.limpOnMin = s.cooling.limpOnMin := by rw [hprobe.cooling]; rfl
  have htaken := airTaken_calm z s.cooling.probes[airProbe z].state (sampleProbe (airProbe z) raw s)
  rw [sampleProbe_self, hlimp] at htaken
  exact (hprobe.mapZone z _).trans htaken

theorem checkNoCool_calm (s : State) : Calm s (checkNoCool s) := by
  unfold checkNoCool
  simp only []
  split
  · exact (report_calm _ _ s).trans (mapCompressor_calm _ _)
  · exact .refl s

theorem sampleCoil_calm (raw : Int) (s : State) : Calm (s.mapProbe 2 fun p => p.sample raw) (sampleCoil raw s) := by
  have hprobe := sampleProbe_calm 2 raw s
  unfold sampleCoil
  simp only []
  split
  · refine (hprobe.trans (checkNoCool_calm _)).trans ?_
    unfold checkCoil
    split
    · exact endHeating_calm _
    · exact .refl _
  · exact hprobe

/-! ## The hold accumulation -/

/-- The hold record after a second's accumulation step (R130, R131). -/
def Hold.stepped (p : Probe) (h : Hold) : Hold :=
  if h.enabled = false then h
  else { h.count p with
    held := h.held || ((holdStep h p).isSome && decide ((h.count p).accumulator = h.delay)) }

theorem count_held (h : Hold) (p : Probe) : (h.count p).held = h.held := by
  unfold Hold.count
  split <;> rfl

theorem mapHold_congr {s : State} {z : ZoneId} {f g : Hold → Hold} (h : f s.cabinet.holds[z] = g s.cabinet.holds[z]) :
    s.mapHold z f = s.mapHold z g := by
  simp only [State.mapHold, State.mapCabinet, h]

theorem mapHold_of_fixed {s : State} {z : ZoneId} {f : Hold → Hold} (h : f s.cabinet.holds[z] = s.cabinet.holds[z]) :
    s.mapHold z f = s := by
  have hset : s.cabinet.holds.set z (f s.cabinet.holds[z]) = s.cabinet.holds := by
    rw [h]
    exact Vector.set_getElem_self _
  simp only [State.mapHold, State.mapCabinet, hset]

theorem mapHold_mapHold (s : State) (z : ZoneId) (f g : Hold → Hold) :
    (s.mapHold z f).mapHold z g = s.mapHold z fun x => g (f x) := by
  simp only [State.mapHold, State.mapCabinet, Fin.getElem_fin, Vector.getElem_set_self, Vector.set_set]

theorem enterHeld_calm (z : ZoneId) (s : State) : Calm (s.mapHold z fun h => { h with held := true }) (enterHeld z s) :=
  (raise_calm _ _ _ _).trans (cancelWhere_calm _ _ _)

theorem Calm.mapHold {s t : State} (h : Calm s t) (z : ZoneId) (f : Hold → Hold) : Calm (s.mapHold z f) (t.mapHold z f) :=
  ⟨h.totals, h.settlements, congrArg (fun c : Cabinet => { c with holds := c.holds.set z (f c.holds[z]) }) h.cabinet, h.cooling,
    h.monitor⟩

theorem accumulate_calm (z : ZoneId) (s : State) :
    Calm (s.mapHold z (Hold.stepped s.cooling.probes[airProbe z])) (accumulate z s) := by
  unfold accumulate
  simp only []
  split
  · rename_i h
    rw [(@mapHold_of_fixed _ _ (Hold.stepped _)) (if_pos h)]
    exact .refl s
  · rename_i he
    split
    · rename_i h
      obtain ⟨hs, hh, ha⟩ := h
      have hheld := enterHeld_calm z (s.mapHold z fun h => h.count s.cooling.probes[airProbe z])
      rw [mapHold_mapHold, (@mapHold_congr _ _ _ (Hold.stepped s.cooling.probes[airProbe z]))] at hheld
      · exact hheld
      · rw [Hold.stepped, if_neg he, hs, decide_eq_true ha, Bool.and_self, Bool.or_true]
    · rename_i h
      rw [(@mapHold_congr _ _ _ (fun h => h.count s.cooling.probes[airProbe z]))]
      · exact .refl _
      · rw [Hold.stepped, if_neg he]
        have hheld : (s.cabinet.holds[z].held || ((holdStep s.cabinet.holds[z] s.cooling.probes[airProbe z]).isSome &&
            decide ((s.cabinet.holds[z].count s.cooling.probes[airProbe z]).accumulator = s.cabinet.holds[z].delay)))
            = (s.cabinet.holds[z].count s.cooling.probes[airProbe z]).held := by
          rw [count_held]
          cases hh : s.cabinet.holds[z].held with
          | true => rfl
          | false =>
            rw [Bool.false_or, Bool.and_eq_false_iff]
            by_contra hc
            push Not at hc
            exact h ⟨Bool.of_not_eq_false hc.1, hh, by simpa using hc.2⟩
        rw [hheld]

theorem sample_ne_noSample (p : Probe) (raw : Int) : (p.sample raw).state ≠ .noSample := by
  unfold Probe.sample
  cases readingOf raw with
  | inRange =>
    cases hp : p.state with
    | valid => simp
    | noSample | faultedOpen | faultedShort => simp
  | open_ => simp
  | short => simp

/-- The zone of a sampled channel, in the cases of R112 and R113. -/
theorem aired_cases (x : Zone) (old : ChannelState) (p : Probe) (n : Nat) :
    (p.state = .valid → (x.aired old p n).demand = demandOf x p.filtered ∧
      (old = .faultedOpen ∨ old = .faultedShort → (x.aired old p n).limp = none)) ∧
    (p.state = .faultedOpen ∨ p.state = .faultedShort → ¬ (old = .faultedOpen ∨ old = .faultedShort) →
      (x.aired old p n).demand = true ∧ (x.aired old p n).limp = some { on := true, leftMs := n * 60000 }) ∧
    (p.state = .faultedOpen ∨ p.state = .faultedShort → old = .faultedOpen ∨ old = .faultedShort →
      x.aired old p n = x) := by
  refine ⟨fun hv => ?_, fun hf hn => ?_, fun hf ho => ?_⟩
  · have hnone : p.state.condition = none := by rw [hv]; rfl
    unfold Zone.aired
    rw [hnone]
    cases hold : old.condition with
    | none =>
      have hnot := (condition_eq_none_iff old).mp hold
      exact ⟨by simp only [judged_of_valid x hv], fun h => absurd h hnot⟩
    | some k =>
      simp only [judged_of_valid _ hv]
      exact ⟨rfl, fun _ => trivial⟩
  · obtain ⟨k, hk⟩ := (condition_isSome_iff _).mpr hf
    unfold Zone.aired
    rw [hk, (condition_eq_none_iff old).mpr hn]
    exact ⟨rfl, rfl⟩
  · obtain ⟨k, hk⟩ := (condition_isSome_iff _).mpr hf
    obtain ⟨l, hl⟩ := (condition_isSome_iff _).mpr ho
    unfold Zone.aired
    rw [hk, hl]

theorem aired_kept (x : Zone) (old : ChannelState) (p : Probe) (n : Nat) :
    (x.aired old p n).setpoint = x.setpoint ∧ (x.aired old p n).differential = x.differential ∧
      (x.aired old p n).effective = x.effective := by
  unfold Zone.aired
  split <;> exact ⟨rfl, rfl, rfl⟩

/-- The direction of a sampled channel's step (R130). -/
theorem holdStep_of_faulted {h : Hold} {p : Probe} (hf : p.state = .faultedOpen ∨ p.state = .faultedShort) :
    holdStep h p = some .probe := by
  rcases hf with hf | hf <;> simp [holdStep, hf]

theorem holdStep_of_above {h : Hold} {p : Probe} (hv : p.state = .valid) (hl : h.limit < p.filtered) :
    holdStep h p = some .temperature := by
  simp [holdStep, hv, hl]

theorem holdStep_of_not {h : Hold} {p : Probe} (hf : ¬ (p.state = .faultedOpen ∨ p.state = .faultedShort))
    (hl : ¬ (p.state = .valid ∧ h.limit < p.filtered)) : holdStep h p = none := by
  push Not at hf hl
  unfold holdStep
  cases hp : p.state with
  | valid => simp only [if_neg (not_lt.mpr (hl hp))]
  | noSample => rfl
  | faultedOpen => exact absurd hp hf.1
  | faultedShort => exact absurd hp hf.2

theorem count_of_rising {h : Hold} {p : Probe} {c : HoldCause} (hc : holdStep h p = some c) :
    h.count p = { h with accumulator := min h.delay (h.accumulator + 1), cause := c } := by
  simp only [Hold.count, hc]

theorem count_of_falling {h : Hold} {p : Probe} (hc : holdStep h p = none) :
    h.count p = { h with accumulator := h.accumulator - 1 } := by
  simp only [Hold.count, hc]

theorem stepped_of_rising {h : Hold} {p : Probe} {c : HoldCause} (he : h.enabled = true) (hc : holdStep h p = some c) :
    h.stepped p = { h with accumulator := min h.delay (h.accumulator + 1), cause := c,
                           held := h.held || decide (min h.delay (h.accumulator + 1) = h.delay) } := by
  unfold Hold.stepped
  rw [if_neg (by rw [he]; decide), count_of_rising hc, hc]
  rfl

theorem stepped_of_falling {h : Hold} {p : Probe} (he : h.enabled = true) (hc : holdStep h p = none) :
    h.stepped p = { h with accumulator := h.accumulator - 1 } := by
  unfold Hold.stepped
  rw [if_neg (by rw [he]; decide), count_of_falling hc, hc]
  simp

theorem stepped_kept (h : Hold) (p : Probe) :
    (h.stepped p).enabled = h.enabled ∧ (h.stepped p).limit = h.limit ∧ (h.stepped p).delay = h.delay := by
  unfold Hold.stepped
  split
  · exact ⟨rfl, rfl, rfl⟩
  · unfold Hold.count
    split <;> exact ⟨rfl, rfl, rfl⟩

/-- What an accumulation step of a zone leaves, the vend queue and the arbiter apart. -/
def holdStepped (z : ZoneId) (s : State) : State := s.mapHold z (Hold.stepped s.cooling.probes[airProbe z])

theorem Calm.accumulate {s t : State} (h : Calm s t) (z : ZoneId) : Calm (holdStepped z s) (accumulate z t) := by
  have hstep := (h.mapHold z (Hold.stepped t.cooling.probes[airProbe z])).trans (accumulate_calm z t)
  rw [h.probes] at hstep
  exact hstep

/-- What one second's samples leave, the compressor and the defrost apart. -/
def secondSampled (a b c : Int) (s : State) : State :=
  holdStepped 1 (holdStepped 0
    ((aired 1 b (aired 0 a (s.mapCooling fun k => { k with sampleMs := 0 }))).mapProbe 2 fun p => p.sample c))

theorem probeSample_calm (a b c : Int) (s : State) :
    Calm (secondSampled a b c s) (accumulate 1 (accumulate 0 (sampleCoil c (sampleAir 1 b (sampleAir 0 a
        (s.mapCooling fun k => { k with sampleMs := 0 })))))) := by
  have hair := ((sampleAir_calm 0 a (s.mapCooling fun k => { k with sampleMs := 0 })).aired 1 b).trans
    (sampleAir_calm 1 b _)
  have hcoil := (hair.mapProbe 2 fun p => p.sample c).trans (sampleCoil_calm c _)
  exact (hcoil.accumulate 0).accumulate 1

theorem secondSampled_probes (a b c : Int) (s : State) :
    (secondSampled a b c s).cooling.probes = #v[s.cooling.probes[(0 : Fin 3)].sample a,
      s.cooling.probes[(1 : Fin 3)].sample b, s.cooling.probes[(2 : Fin 3)].sample c] := by
  have hprobes : (secondSampled a b c s).cooling.probes =
      ((s.cooling.probes.set 0 (s.cooling.probes[0].sample a)).set 1
        ((s.cooling.probes.set 0 (s.cooling.probes[0].sample a))[1].sample b)).set 2
          (((s.cooling.probes.set 0 (s.cooling.probes[0].sample a)).set 1
            ((s.cooling.probes.set 0 (s.cooling.probes[0].sample a))[1].sample b))[2].sample c) := rfl
  rw [hprobes]
  ext i hi
  interval_cases i <;> simp

theorem secondSampled_zone (a b c : Int) (s : State) (z : ZoneId) :
    (secondSampled a b c s).cooling.zones[z] = s.cooling.zones[z].aired s.cooling.probes[airProbe z].state
      (secondSampled a b c s).cooling.probes[airProbe z] s.cooling.limpOnMin := by
  have hzones : (secondSampled a b c s).cooling.zones =
      (s.cooling.zones.set 0 (s.cooling.zones[0].aired s.cooling.probes[0].state (s.cooling.probes[0].sample a)
        s.cooling.limpOnMin)).set 1
          ((s.cooling.zones.set 0 (s.cooling.zones[0].aired s.cooling.probes[0].state (s.cooling.probes[0].sample a)
            s.cooling.limpOnMin))[1].aired (s.cooling.probes.set 0 (s.cooling.probes[0].sample a))[1].state
              ((s.cooling.probes.set 0 (s.cooling.probes[0].sample a))[1].sample b) s.cooling.limpOnMin) := rfl
  rw [hzones, secondSampled_probes]
  fin_cases z <;> simp [airProbe]

theorem secondSampled_hold (a b c : Int) (s : State) (z : ZoneId) :
    (secondSampled a b c s).cabinet.holds[z] =
      s.cabinet.holds[z].stepped (secondSampled a b c s).cooling.probes[airProbe z] := by
  unfold secondSampled holdStepped
  rw [hold_mapHold, hold_mapHold]
  fin_cases z
  · rfl
  · rfl

/-- Settles O39. -/
theorem probeSampleDrivesZonesAndHolds : Obligations.ProbeSampleDrivesZonesAndHolds := by
  intro s a b c hs
  have hcalm := (probeSample_calm a.toInt b.toInt c.toInt s).trans (pump_calm _)
  refine ⟨_, act_of_high hs _, ?_⟩
  generalize pump _ = t at hcalm
  have hprobes := hcalm.probes.trans (secondSampled_probes _ _ _ s)
  refine ⟨hprobes, by rw [hcalm.cooling]; rfl, hcalm.totals, hcalm.settlements, by rw [hcalm.cabinet]; rfl,
    by rw [hcalm.cabinet]; rfl, fun z => ?_⟩
  intro old p x y h k faulted rises
  have hp : p.state ≠ .noSample := by
    have hsampled : ∃ raw, p = s.cooling.probes[airProbe z].sample raw := by
      fin_cases z
      · exact ⟨a.toInt, by simp only [p, hprobes]; rfl⟩
      · exact ⟨b.toInt, by simp only [p, hprobes]; rfl⟩
    obtain ⟨raw, hraw⟩ := hsampled
    rw [hraw]
    exact sample_ne_noSample _ _
  have hy : y = x.aired old p s.cooling.limpOnMin := by
    have hzone := secondSampled_zone a.toInt b.toInt c.toInt s z
    rw [← hcalm.probes, ← hcalm.zones] at hzone
    exact hzone
  have hk : k = h.stepped p := by
    have hhold := secondSampled_hold a.toInt b.toInt c.toInt s z
    rw [← hcalm.probes, ← hcalm.cabinet] at hhold
    exact hhold
  obtain ⟨hsetpoint, hdiff, heffective⟩ := aired_kept x old p s.cooling.limpOnMin
  obtain ⟨hvalid, hbegun, hstays⟩ := aired_cases x old p s.cooling.limpOnMin
  obtain ⟨henabled, hlimit, hdelay⟩ := stepped_kept h p
  rw [hy, hk]
  refine ⟨hsetpoint, hdiff, heffective, fun hv => ?_, hbegun, fun hf ho => by rw [hstays hf ho]; exact ⟨rfl, rfl⟩,
    henabled, hlimit, hdelay, fun he => if_pos he, fun he hr => ?_, fun he hr => ?_⟩
  · obtain ⟨hdemand, hlimp⟩ := hvalid hv
    rw [hdemand]
    exact ⟨demandOf_of_above, demandOf_of_below, demandOf_of_between, hlimp⟩
  · by_cases hf : faulted p.state
    · rw [stepped_of_rising he (holdStep_of_faulted hf)]
      refine ⟨rfl, iff_of_true rfl hf, by simp⟩
    · rw [stepped_of_rising he (holdStep_of_above (by
        cases hv : p.state with
        | valid => rfl
        | noSample => exact absurd hv hp
        | faultedOpen => exact absurd (.inl hv) hf
        | faultedShort => exact absurd (.inr hv) hf) (hr.resolve_left hf))]
      refine ⟨rfl, iff_of_false (by simp) hf, by simp⟩
  · rw [stepped_of_falling he (holdStep_of_not (fun hf => hr (.inl hf)) fun hv => hr (.inr hv.2))]
    exact ⟨rfl, rfl, rfl⟩

/-! ## HELD and its release (R131 to R133) -/

theorem holdStep_isSome_iff (h : Hold) (p : Probe) : (holdStep h p).isSome = true ↔
    (p.state = .faultedOpen ∨ p.state = .faultedShort) ∨ (p.state = .valid ∧ h.limit < p.filtered) := by
  by_cases hf : p.state = .faultedOpen ∨ p.state = .faultedShort
  · rw [holdStep_of_faulted hf]
    exact iff_of_true rfl (.inl hf)
  · by_cases hv : p.state = .valid ∧ h.limit < p.filtered
    · rw [holdStep_of_above hv.1 hv.2]
      exact iff_of_true rfl (.inr hv)
    · rw [holdStep_of_not hf hv]
      exact iff_of_false (by simp) (not_or.mpr ⟨hf, hv⟩)

/-- When ZONE_HELD is the step that completes the count. -/
theorem execZoneHeld_eq (z : ZoneId) (s : State) :
    exec (.zoneHeld z) s = act s (pump (
      if s.cabinet.holds[z].enabled = true ∧ s.cabinet.holds[z].held = false ∧
          (holdStep s.cabinet.holds[z] s.cooling.probes[airProbe z]).isSome = true ∧
          s.cabinet.holds[z].delay ≤ s.cabinet.holds[z].accumulator + 1 then accumulate z s else s)) := by
  simp only [exec, execZoneHeld, Bool.and_eq_true, Bool.not_eq_true', decide_eq_true_eq, and_assoc]

theorem accumulate_of_completed {z : ZoneId} {s : State} {c : HoldCause} (he : s.cabinet.holds[z].enabled = true)
    (hh : s.cabinet.holds[z].held = false) (hc : holdStep s.cabinet.holds[z] s.cooling.probes[airProbe z] = some c)
    (ha : s.cabinet.holds[z].delay ≤ s.cabinet.holds[z].accumulator + 1) :
    accumulate z s = cancelWhere (fun e => decide (s.vend.selections[e.selection].zone = some z)) .held
      (raise .zoneHeld (byteOf z) (amount c.code.toNat)
        (s.mapHold z fun h => { h with accumulator := h.delay, held := true, cause := c })) := by
  have hmin : min s.cabinet.holds[z].delay (s.cabinet.holds[z].accumulator + 1) = s.cabinet.holds[z].delay := min_eq_left ha
  have hcount := count_of_rising hc
  rw [hmin] at hcount
  have hheld : (s.mapHold z fun h => h.count s.cooling.probes[airProbe z]).mapHold z (fun h => { h with held := true }) =
      s.mapHold z fun h => { h with accumulator := h.delay, held := true, cause := c } := by
    rw [mapHold_mapHold]
    exact mapHold_congr (by rw [hcount])
  unfold accumulate
  simp only []
  rw [if_neg (by rw [he]; decide), if_pos ⟨by rw [hc]; rfl, hh, by rw [hcount]⟩]
  unfold enterHeld
  simp only []
  rw [hheld, hold_mapHold, if_pos rfl]
  rfl

theorem readYesNo_eq_some {b : Byte} {v : Bool} : readYesNo b = some v ↔ b = if v then 1 else 0 := by
  have hb (n : Nat) (hn : n < 256) : b.toNat = n ↔ b = BitVec.ofNat 8 n := by
    rw [← BitVec.toNat_inj, BitVec.toNat_ofNat, Nat.mod_eq_of_lt hn]
  unfold readYesNo
  split
  · rename_i h
    rw [(hb 0 (by omega)).mp h]
    cases v <;> decide
  · rename_i h
    rw [(hb 1 (by omega)).mp h]
    cases v <;> decide
  · rename_i h0 h1
    refine iff_of_false (by simp) fun h => ?_
    cases v
    · exact h0 ((hb 0 (by omega)).mpr h)
    · exact h1 ((hb 1 (by omega)).mpr h)

theorem readYesNo_eq_none {b : Byte} (h : 2 ≤ b.toNat) : readYesNo b = none := by
  cases hv : readYesNo b with
  | none => rfl
  | some v =>
    rw [readYesNo_eq_some.mp hv] at h
    cases v <;> exact absurd h (by decide)

theorem releaseSale_byteOf (z : ZoneId) (s : State) :
    releaseSale (byteOf z) s =
      if s.cabinet.holds[z].held = false then refused .conflict s
      else if s.cooling.probes[airProbe z].state ≠ .valid ∨
          s.cabinet.holds[z].limit < s.cooling.probes[airProbe z].filtered then
        { state := s, status := .notReady, kind := .reply
          data := s.cooling.probes[airProbe z].state.code :: signedOf s.cooling.probes[airProbe z].filtered }
      else done [] (raise .zoneReleased (byteOf z) 0
        (s.mapHold z fun h => { h with held := false, accumulator := 0 })) := by
  rw [releaseSale, readFin_byteOf (by omega)]

/-- The ranges of the sale hold table (R129). -/
def HoldRanges (en : Byte) (limit delay : Half) : Prop :=
  en.toNat ≤ 1 ∧ -50 ≤ limit.toInt ∧ limit.toInt ≤ 300 ∧ 60 ≤ delay.toNat ∧ delay.toNat ≤ 7200

theorem writeHold_of_ranges {z : ZoneId} {en : Byte} {limit delay : Half} {s : State} {v : Bool}
    (hen : en = if v then 1 else 0) (h : HoldRanges en limit delay) :
    writeHold (byteOf z) en limit delay s = done [0x0E, byteOf z] (setHold z v limit.toInt delay.toNat s) := by
  obtain ⟨_, hl1, hl2, hd1, hd2⟩ := h
  simp [writeHold, (@readFin_byteOf 2) (by omega), readYesNo_eq_some.mpr hen, readSigned_of_le hl1 hl2, readRange_of_le hd1 hd2, written]

theorem writeHold_of_not_ranges {zone en : Byte} {limit delay : Half} {s : State}
    (h : 2 ≤ zone.toNat ∨ ¬ HoldRanges en limit delay) : writeHold zone en limit delay s = refused .range s := by
  unfold writeHold
  cases hi : readFin 2 zone with
  | none => rfl
  | some z =>
    cases he : readYesNo en with
    | none => rfl
    | some v =>
      cases hl : readSigned (-50) 300 limit with
      | none => rfl
      | some l =>
        cases hd : readRange 60 7200 delay.toNat with
        | none => rfl
        | some d =>
          have hz : zone.toNat < 2 := by
            rw [(readFin_eq_some (by omega)).mp hi, byteOf_toNat (by omega)]
            exact z.isLt
          have hen : en.toNat ≤ 1 := by
            rw [readYesNo_eq_some.mp he]
            cases v <;> decide
          obtain ⟨_, hl⟩ := readSigned_eq_some.mp hl
          obtain ⟨_, hd⟩ := readRange_eq_some.mp hd
          rcases h with h | h
          · omega
          · exact absurd ⟨hen, hl.1, hl.2, hd.1, hd.2⟩ h

/-- Settles O43. -/
theorem zoneHeldReleasedAndHoldWrite : Obligations.ZoneHeldReleasedAndHoldWrite := by
  refine ⟨fun s z hs => ?_, fun s src zone en limit delay hs hp => ?_⟩
  · intro h p faulted rises new
    have hrises : (holdStep h p).isSome = true ↔ rises := by
      rw [holdStep_isSome_iff]
      simp only [rises, faulted, decide_eq_true_eq]
    refine ⟨fun he hh hr ha => ?_, fun hno => ?_⟩
    · have hcause : holdStep h p = some new.cause := by
        by_cases hf : p.state = .faultedOpen ∨ p.state = .faultedShort
        · rw [holdStep_of_faulted hf]
          simp only [new, faulted, decide_eq_true hf, if_true]
        · have hv : p.state = .valid ∧ h.limit < p.filtered := by
            refine hr.resolve_left ?_
            simpa only [faulted, decide_eq_true_eq] using hf
          rw [holdStep_of_above hv.1 hv.2]
          simp [new, faulted, hf]
      have hvalue : amount new.cause.code.toNat = if faulted then 1 else 0 := by
        simp only [new]
        cases faulted <;> rfl
      refine ⟨_, becomes_raised _ _ _ _, ?_⟩
      have hstep : s.cabinet.holds[z].enabled = true ∧ s.cabinet.holds[z].held = false ∧
          (holdStep s.cabinet.holds[z] s.cooling.probes[airProbe z]).isSome = true ∧
          s.cabinet.holds[z].delay ≤ s.cabinet.holds[z].accumulator + 1 := ⟨he, hh, hrises.mpr hr, ha⟩
      rw [execZoneHeld_eq, if_pos hstep, accumulate_of_completed he hh hcause ha, hvalue]
      exact act_of_high hs _
    · rw [execZoneHeld_eq, if_neg]
      · exact act_silent hs s
      · rintro ⟨he, hh, hr, ha⟩
        rcases hno with hno | hno | hno | hno
        · exact absurd (he.symm.trans hno) (by simp)
        · exact absurd (hh.symm.trans hno) (by simp)
        · exact hno (hrises.mp hr)
        · exact absurd ha (Nat.not_le.mpr hno)
  · intro set release write ranges d
    have hwrite : serve 0x40 ([0x0E, zone, en] ++ bytes16 limit ++ bytes16 delay) s = writeHold zone en limit delay s := by
      show writeHold zone en (half (hi8 limit) (lo8 limit)) (half (hi8 delay) (lo8 delay)) s = _
      rw [half_bytes, half_bytes]
    refine ⟨fun hz => ⟨request_refused hs hp rfl ?_, request_refused hs hp rfl ?_⟩,
      fun hr => request_refused hs hp rfl (hwrite.trans (writeHold_of_not_ranges (.inr hr))), fun z hz => ?_⟩
    · show releaseSale zone s = _
      rw [releaseSale, readFin_eq_none.mpr hz]
    · exact hwrite.trans (writeHold_of_not_ranges (.inl hz))
    · subst hz
      intro h p off stays
      have hrelease : serve 0x47 [byteOf z] s = releaseSale (byteOf z) s := rfl
      have hdone (v : Bool) {t : State} (hen : en = if v then 1 else 0) (hr : ranges)
          (ht : setHold z v limit.toInt delay.toNat s = formSetpoint z t) :
          write = .next (answered src 0x40 .done [0x0E, byteOf z] (formSetpoint z t)) := by
        refine request_done hs hp rfl ?_ (by simp)
        rw [hwrite, writeHold_of_ranges hen hr, ht]
      refine ⟨fun hh => request_refused hs hp rfl ?_, fun hh hno => ?_, fun hh hv hl => ?_, fun hr hen => ?_,
        fun hr hen he => ?_, fun hr hen he => ?_⟩
      · rw [hrelease, releaseSale_byteOf]
        exact if_pos hh
      · have hserve : serve 0x47 [byteOf z] s =
            { state := s, status := .notReady, data := p.state.code :: signedOf p.filtered, kind := .reply } := by
          rw [hrelease, releaseSale_byteOf, if_neg (by rw [show s.cabinet.holds[z].held = true from hh]; decide)]
          exact if_pos hno
        have hanswer := (@request_answered _ src) hs hp rfl hserve rfl
        rw [fitted_of_short (by simp [signedOf, bytes16])] at hanswer
        exact hanswer
      · refine ⟨_, becomes_raised _ _ _ _, request_done hs hp rfl ?_ (by simp)⟩
        rw [hrelease, releaseSale_byteOf, if_neg (by rw [show s.cabinet.holds[z].held = true from hh]; decide), if_neg]
        · rfl
        · rintro (hn | hn)
          · exact hn hv
          · exact absurd hl (not_le.mpr hn)
      · have hnew : h.rewritten false limit.toInt delay.toNat = off := if_neg (by simp)
        have hset : (s.mapHold z fun h => h.rewritten false limit.toInt delay.toNat) = set z off := by
          rw [← hnew]; rfl
        by_cases hh : h.held = true
        · rw [if_pos hh]
          exact ⟨_, becomes_raised _ _ _ _, hdone false hen hr (by
            unfold setHold; simp only []; rw [if_pos ⟨trivial, hh⟩, hset])⟩
        · rw [if_neg hh]
          exact ⟨_, becomes_self _, hdone false hen hr (by
            unfold setHold; simp only []; rw [if_neg (fun hk => hh hk.2), hset])⟩
      · have hnew : h.rewritten true limit.toInt delay.toNat = { off with enabled := true } :=
          if_neg (by rw [he]; simp)
        refine hdone true hen hr ?_
        rw [← hnew]
        unfold setHold
        simp only []
        rw [if_neg (by simp)]
        rfl
      · have hnew : h.rewritten true limit.toInt delay.toNat = stays := if_pos ⟨rfl, he⟩
        refine hdone true hen hr ?_
        rw [← hnew]
        unfold setHold
        simp only []
        rw [if_neg (by simp)]
        rfl

end Sys2Proof.Machine
end

section
/-! PROOFS. Economy (chapter 7): the wake by an activity, the passages forward, the windows and the time of week. -/

namespace Sys2Proof.Machine

/-! ## A change of the economy state -/

/-- What a change of the economy state leaves of the cabinet. -/
structure EconomyChanged (new : EconomyState) (s t : State) : Prop where
  clock : t.cabinet.clock = s.cabinet.clock
  economy : t.cabinet.economy =
    { s.cabinet.economy with state := new, lamp := lampOf new s.cabinet.economy.dimLevel }

theorem changeEconomy_changed (new : EconomyState) (n : Nat) (s : State) :
    EconomyChanged new s (changeEconomy new n s) := by
  constructor <;> simp [changeEconomy, State.mapEconomy]

theorem becomes_changeEconomy (new : EconomyState) (n : Nat) (s : State) :
    Becomes (formSetpoint 1 (formSetpoint 0 (s.mapEconomy fun e =>
      { e with state := new, lamp := lampOf new e.dimLevel }))) [(.economy, new.code, amount n)] (changeEconomy new n s) :=
  becomes_raised _ _ _ _

theorem dimIfQuiet_of {s : State} (h : s.cabinet.economy.state = .active)
    (hq : s.cabinet.economy.dimDelay * 1000 ≤ s.cabinet.economy.quietMs) :
    dimIfQuiet s = changeEconomy .dim 0 s := if_pos ⟨h, hq⟩

theorem dimIfQuiet_of_not {s : State} (h : s.cabinet.economy.state = .active →
    s.cabinet.economy.quietMs < s.cabinet.economy.dimDelay * 1000) : dimIfQuiet s = s :=
  if_neg fun hk => absurd hk.2 (Nat.not_le.mpr (h hk.1))

/-- The passage from DIM is open: past both delays, the counter valid and in window (R136). -/
def EconomyOpen (s : State) : Prop :=
  (s.cabinet.clock.valid = true ∧ s.cabinet.economy.inWindow = true) ∧
    (s.cabinet.economy.dimDelay + s.cabinet.economy.economyDelay) * 1000 ≤ s.cabinet.economy.quietMs

theorem economyIfQuiet_of {s : State} (h : s.cabinet.economy.state = .dim) (ho : EconomyOpen s) :
    economyIfQuiet s = changeEconomy .economy 0 s := if_pos ⟨h, ho.2, ho.1⟩

theorem economyIfQuiet_of_not {s : State} (h : s.cabinet.economy.state = .dim → ¬ EconomyOpen s) :
    economyIfQuiet s = s := if_neg fun hk => h hk.1 ⟨hk.2.2, hk.2.1⟩

theorem EconomyChanged.open_iff {new : EconomyState} {s t : State} (h : EconomyChanged new s t) :
    EconomyOpen t ↔ EconomyOpen s := by
  unfold EconomyOpen
  rw [h.clock, h.economy]

theorem judgeEconomy_of_active {s : State} (h : s.cabinet.economy.state = .active)
    (hq : s.cabinet.economy.dimDelay * 1000 ≤ s.cabinet.economy.quietMs) (ho : ¬ EconomyOpen s) :
    judgeEconomy s = changeEconomy .dim 0 s := by
  have hchanged := changeEconomy_changed .dim 0 s
  rw [judgeEconomy_eq, dimIfQuiet_of h hq, economyIfQuiet_of_not fun _ => mt hchanged.open_iff.mp ho]

theorem judgeEconomy_of_both {s : State} (h : s.cabinet.economy.state = .active)
    (hq : s.cabinet.economy.dimDelay * 1000 ≤ s.cabinet.economy.quietMs) (ho : EconomyOpen s) :
    judgeEconomy s = changeEconomy .economy 0 (changeEconomy .dim 0 s) := by
  have hchanged := changeEconomy_changed .dim 0 s
  rw [judgeEconomy_eq, dimIfQuiet_of h hq, economyIfQuiet_of (by rw [hchanged.economy]) (hchanged.open_iff.mpr ho)]

theorem judgeEconomy_of_dim {s : State} (h : s.cabinet.economy.state = .dim) (ho : EconomyOpen s) :
    judgeEconomy s = changeEconomy .economy 0 s := by
  rw [judgeEconomy_eq, dimIfQuiet_of_not (by rw [h]; simp), economyIfQuiet_of h ho]

theorem judgeEconomy_of_stays {s : State}
    (hq : s.cabinet.economy.state = .active → s.cabinet.economy.quietMs < s.cabinet.economy.dimDelay * 1000)
    (ho : s.cabinet.economy.state = .dim → ¬ EconomyOpen s) : judgeEconomy s = s := by
  rw [judgeEconomy_eq, dimIfQuiet_of_not hq, economyIfQuiet_of_not ho]

theorem activity_of_unmasked {k : Activity} {s : State} (h : s.cabinet.economy.mask.getLsbD k.bit = false) :
    activity k s = s := if_pos h

theorem activity_of_active {k : Activity} {s : State} (h : s.cabinet.economy.mask.getLsbD k.bit = true)
    (ha : s.cabinet.economy.state = .active) : activity k s = s.mapEconomy fun e => { e with quietMs := 0 } := by
  unfold activity
  rw [if_neg (by rw [h]; decide)]
  exact if_pos ha

theorem activity_of_wake {k : Activity} {s : State} (h : s.cabinet.economy.mask.getLsbD k.bit = true)
    (ha : s.cabinet.economy.state ≠ .active) :
    activity k s = changeEconomy .active (k.bit + 1)
      (s.mapEconomy fun e => { e with quietMs := 0, wakeCause := some k, wakeTime := stamp s }) := by
  unfold activity
  rw [if_neg (by rw [h]; decide)]
  exact if_neg ha

/-- Settles O45. -/
theorem economyWakesAndPassesForward : Obligations.EconomyWakesAndPassesForward := by
  refine ⟨fun s k new n => ?_, fun s hs => ?_⟩
  · intro e with_ level
    refine ⟨fun hs => by rw [outputs_of_high hs]; rfl, activity_of_unmasked, activity_of_active, activity_of_wake, _, ?_, rfl⟩
    have hbecomes := becomes_changeEconomy new n s
    cases new <;> exact hbecomes
  · intro e quiet dim eco window
    have hopen : EconomyOpen s ↔ window ∧ eco ≤ e.quietMs := Iff.rfl
    have hquiet (n : Nat) : EconomyOpen (quiet n) ↔ window ∧ eco ≤ max e.quietMs n := Iff.rfl
    refine ⟨judgeEconomy_of_active, fun ha hd hw he => judgeEconomy_of_both ha hd ⟨hw, he⟩,
      fun hd hw he => judgeEconomy_of_dim hd ⟨hw, he⟩, fun h => ?_, fun ha hr => ?_, fun h => ?_, fun hd hw hr => ?_, fun h => ?_⟩
    · rcases h with ⟨h, hq⟩ | ⟨h, hno⟩ | h
      · exact judgeEconomy_of_stays (fun _ => hq) (fun hd => absurd (h.symm.trans hd) (by simp))
      · exact judgeEconomy_of_stays (fun ha => absurd (h.symm.trans ha) (by simp)) fun _ => hno
      · exact judgeEconomy_of_stays (fun ha => absurd (h.symm.trans ha) (by simp))
          (fun hd => absurd (h.symm.trans hd) (by simp))
    · have hexec : exec .dimEntry s = act s (pump (judgeEconomy (quiet dim))) := by
        simp only [exec, execDimEntry]
        rw [if_pos ⟨ha, risesTo_iff.mpr hr⟩]
        rfl
      have hlong : (quiet dim).cabinet.economy.dimDelay * 1000 ≤ (quiet dim).cabinet.economy.quietMs := le_max_right _ _
      rw [hexec]
      refine ⟨_, act_of_high hs _, ?_⟩
      have hdim := changeEconomy_changed .dim 0 (quiet dim)
      by_cases ho : EconomyOpen (quiet dim)
      · have heco := changeEconomy_changed .economy 0 (changeEconomy .dim 0 (quiet dim))
        rw [(@judgeEconomy_of_both (quiet dim)) ha hlong ho, (pump_calm _).cabinet, heco.economy, hdim.economy]
        refine ⟨rfl, fun _ => ⟨rfl, rfl⟩, fun hno => ?_⟩
        obtain ⟨hw, he⟩ := (hquiet dim).mp ho
        rcases hno with hno | hno
        · exact absurd hw hno
        · exact absurd he (Nat.not_le.mpr hno)
      · rw [(@judgeEconomy_of_active (quiet dim)) ha hlong ho, (pump_calm _).cabinet, hdim.economy]
        refine ⟨rfl, fun hwe => absurd ((hquiet dim).mpr ⟨hwe.1, hwe.2.trans (le_max_left _ _)⟩) ho, fun _ => ⟨rfl, rfl⟩⟩
    · have hexec : exec .dimEntry s = act s (pump s) := by
        simp only [exec, execDimEntry]
        rw [if_neg]
        rintro ⟨ha, hr⟩
        have hr : dim ≤ e.quietMs + 1000 := risesTo_iff.mp hr
        rcases h with h | h
        · exact h ha
        · exact absurd hr (Nat.not_le.mpr h)
      rw [hexec]
      exact act_silent hs s
    · have hexec : exec .economyEntry s = act s (pump (judgeEconomy (quiet eco))) := by
        simp only [exec, execEconomyEntry]
        rw [if_pos ⟨hd, hw.1, hw.2, risesTo_iff.mpr hr⟩]
        rfl
      rw [hexec, (@judgeEconomy_of_dim (quiet eco)) hd ((hquiet eco).mpr ⟨hw, le_max_right _ _⟩)]
      exact act_of_high hs _
    · have hexec : exec .economyEntry s = act s (pump s) := by
        simp only [exec, execEconomyEntry]
        rw [if_neg]
        rintro ⟨hd, hv, hi, hr⟩
        have hr : eco ≤ e.quietMs + 1000 := risesTo_iff.mp hr
        rcases h with h | h | h
        · exact h hd
        · exact h ⟨hv, hi⟩
        · exact absurd hr (Nat.not_le.mpr h)
      rw [hexec]
      exact act_silent hs s

/-! ## Windows and the time of week -/

/-- A window whose end is not above its start runs into the day after (R142). -/
theorem covers_iff (w : Window) (n : Nat) :
    w.covers n = true ↔ w.enabled = true ∧
      ((w.startMinute < w.endMinute ∧ w.days.getLsbD (n / 86400) = true ∧ w.startMinute ≤ n % 86400 / 60 ∧
          n % 86400 / 60 < w.endMinute) ∨
        (w.endMinute ≤ w.startMinute ∧
          ((w.days.getLsbD (n / 86400) = true ∧ w.startMinute ≤ n % 86400 / 60) ∨
            (w.days.getLsbD ((n / 86400 + 6) % 7) = true ∧ n % 86400 / 60 < w.endMinute)))) := by
  unfold Window.covers dayBefore
  by_cases h : w.startMinute < w.endMinute
  · have hnot : ¬ w.endMinute ≤ w.startMinute := Nat.not_le.mpr h
    simp only [h, hnot, if_true, Bool.and_eq_true, decide_eq_true_eq, true_and, false_and, or_false, and_assoc]
  · have hle : w.endMinute ≤ w.startMinute := Nat.not_lt.mp h
    simp only [h, hle, if_false, Bool.and_eq_true, Bool.or_eq_true, decide_eq_true_eq, true_and, false_and, false_or]

theorem inWindow_iff (c : Cabinet) :
    inWindow c = true ↔ c.clock.valid = true ∧ ∃ i : Fin 8, c.schedule[i].covers c.clock.second = true := by
  unfold inWindow
  rw [Bool.and_eq_true, List.any_eq_true]
  refine and_congr_right fun _ => ⟨fun ⟨w, hw, hc⟩ => ?_, fun ⟨i, hc⟩ => ⟨_, ?_, hc⟩⟩
  · obtain ⟨i, hi, rfl⟩ := Vector.mem_iff_getElem.mp (Vector.mem_toList_iff.mp hw)
    exact ⟨⟨i, hi⟩, hc⟩
  · exact Vector.mem_toList_iff.mpr (Vector.getElem_mem i.isLt)

theorem judgeWindow_of_same {s : State} (h : s.cabinet.economy.inWindow = inWindow s.cabinet) : judgeWindow s = s :=
  if_pos h

theorem judgeWindow_of_change {s : State} {b : Bool} (hw : inWindow s.cabinet = b) (h : s.cabinet.economy.inWindow ≠ b) :
    judgeWindow s = judgeEconomy (if b = false ∧ s.cabinet.economy.state = .economy then
      changeEconomy .dim 0 (s.mapEconomy fun e => { e with inWindow := b })
      else s.mapEconomy fun e => { e with inWindow := b }) := by
  subst hw
  exact if_neg h

/-- Settles O46. -/
theorem windowsAndTimeOfWeek : Obligations.WindowsAndTimeOfWeek := by
  intro s hs c day minute inside e judged next
  have hinside : inWindow s.cabinet = true ↔ inside := by
    rw [inWindow_iff]
    simp only [covers_iff]
    exact Iff.rfl
  have hnot (h : ¬ inside) : inWindow s.cabinet = false := by
    rw [← Bool.not_eq_true]
    exact mt hinside.mp h
  refine ⟨hinside, fun h => judgeWindow_of_same ?_, fun hw hi => ?_, fun hw hi he => ?_, fun hw hi he => ?_, fun hv => ?_, fun hv => ?_⟩
  · rw [Bool.eq_iff_iff, hinside]
    exact h
  · rw [judgeWindow_of_change (hinside.mpr hi) (by rw [show s.cabinet.economy.inWindow = false from hw]; decide), if_neg (by simp)]
    rfl
  · rw [judgeWindow_of_change (hnot hi) (by rw [show s.cabinet.economy.inWindow = true from hw]; decide), if_pos ⟨rfl, he⟩]
    rfl
  · rw [judgeWindow_of_change (hnot hi) (by rw [show s.cabinet.economy.inWindow = true from hw]; decide), if_neg fun h => he h.2]
    rfl
  · have hexec : exec .timeOfWeekTick s = act s (pump (judgeWindow next)) := by
      simp only [exec, execTimeOfWeekTick]
      rw [if_pos hv]
      rfl
    rw [hexec]
    exact act_of_high hs _
  · have hexec : exec .timeOfWeekTick s = act s (pump s) := by
      simp only [exec, execTimeOfWeekTick]
      rw [if_neg (by rw [show s.cabinet.clock.valid = false from hv]; decide)]
    rw [hexec]
    exact act_silent hs s

/-! ## Writes (R134, R141, R143) -/

theorem writeEconomy_of_ranges {index mask level offset : Byte} {d1 d2 : Half} {s : State} (hi : index = 0)
    (hm : mask.toNat < 64) (hd1 : 10 ≤ d1.toNat ∧ d1.toNat ≤ 3600) (hd2 : 60 ≤ d2.toNat ∧ d2.toNat ≤ 14400)
    (hl : level.toNat ≤ 100) (ho : offset.toNat ≤ 100) :
    writeEconomy index mask d1 d2 level offset s =
      done [0x0F, 0] (setEconomy (mask.setWidth 6) d1.toNat d2.toNat level.toNat offset.toNat s) := by
  subst hi
  simp [writeEconomy, readZero_of_eq, readMask, hm, readRange_of_le hd1.1 hd1.2, readRange_of_le hd2.1 hd2.2,
    readRange_of_le (Nat.zero_le _) hl, readRange_of_le (Nat.zero_le _) ho, written]

theorem writeEconomy_of_not_ranges {index mask level offset : Byte} {d1 d2 : Half} {s : State}
    (h : ¬ (index = 0 ∧ mask.toNat < 64 ∧ 10 ≤ d1.toNat ∧ d1.toNat ≤ 3600 ∧ 60 ≤ d2.toNat ∧ d2.toNat ≤ 14400 ∧
      level.toNat ≤ 100 ∧ offset.toNat ≤ 100)) :
    writeEconomy index mask d1 d2 level offset s = refused .range s := by
  unfold writeEconomy
  cases hi : readZero index with
  | none => rfl
  | some u =>
    by_cases hm : mask.toNat < 64
    · cases ha : readRange 10 3600 d1.toNat with
      | none => simp [written]
      | some a =>
        cases hb : readRange 60 14400 d2.toNat with
        | none => simp [written]
        | some b =>
          cases hl : readRange 0 100 level.toNat with
          | none => simp [written]
          | some l =>
            cases ho : readRange 0 100 offset.toNat with
            | none => simp [written]
            | some o =>
              obtain ⟨_, ha⟩ := readRange_eq_some.mp ha
              obtain ⟨_, hb⟩ := readRange_eq_some.mp hb
              obtain ⟨_, hl⟩ := readRange_eq_some.mp hl
              obtain ⟨_, ho⟩ := readRange_eq_some.mp ho
              exact absurd ⟨readZero_eq_some.mp hi, hm, ha.1, ha.2, hb.1, hb.2, hl.2, ho.2⟩ h
    · simp [readMask, hm, written]

theorem writeSchedule_of_ranges {i : Fin 8} {en days : Byte} {m1 m2 : Half} {s : State} {v : Bool}
    (hen : en = if v then 1 else 0) (hd : days.toNat < 128) (h1 : m1.toNat ≤ 1439) (h2 : m2.toNat ≤ 1439) :
    writeSchedule (byteOf i) en days m1 m2 s =
      done [0x10, byteOf i] (judgeWindow (s.mapCabinet fun c => { c with
        schedule := c.schedule.set i { enabled := v, days := days.setWidth 7, startMinute := m1.toNat, endMinute := m2.toNat } })) := by
  simp [writeSchedule, (@readFin_byteOf 8) (by omega), readYesNo_eq_some.mpr hen, readDays, hd,
    readRange_of_le (Nat.zero_le _) h1, readRange_of_le (Nat.zero_le _) h2, written]

theorem writeSchedule_of_not_ranges {index en days : Byte} {m1 m2 : Half} {s : State}
    (h : 8 ≤ index.toNat ∨ ¬ (en.toNat ≤ 1 ∧ days.toNat < 128 ∧ m1.toNat ≤ 1439 ∧ m2.toNat ≤ 1439)) :
    writeSchedule index en days m1 m2 s = refused .range s := by
  unfold writeSchedule
  cases hi : readFin 8 index with
  | none => rfl
  | some i =>
    cases he : readYesNo en with
    | none => rfl
    | some v =>
      by_cases hd : days.toNat < 128
      · cases ha : readRange 0 1439 m1.toNat with
        | none => simp [written]
        | some a =>
          cases hb : readRange 0 1439 m2.toNat with
          | none => simp [written]
          | some b =>
            have hlt : index.toNat < 8 := by
              rw [(readFin_eq_some (by omega)).mp hi, byteOf_toNat (by omega)]
              exact i.isLt
            have hen : en.toNat ≤ 1 := by
              rw [readYesNo_eq_some.mp he]
              cases v <;> decide
            obtain ⟨_, ha⟩ := readRange_eq_some.mp ha
            obtain ⟨_, hb⟩ := readRange_eq_some.mp hb
            rcases h with h | h
            · omega
            · exact absurd ⟨hen, hd, ha.2, hb.2⟩ h
      · simp [readDays, hd, written]

/-- Settles O47. -/
theorem economyScheduleAndTimeWrites : Obligations.EconomyScheduleAndTimeWrites := by
  intro s src index mask level offset en days d1 d2 m1 m2 second hs hp e cab eco plan time new ecoRange planRange window
  have heco : serve 0x40 ([0x0F, index, mask] ++ bytes16 d1 ++ bytes16 d2 ++ [level, offset]) s =
      writeEconomy index mask d1 d2 level offset s := by
    show writeEconomy index mask (half (hi8 d1) (lo8 d1)) (half (hi8 d2) (lo8 d2)) level offset s = _
    rw [half_bytes, half_bytes]
  have hplan : serve 0x40 ([0x10, index, en, days] ++ bytes16 m1 ++ bytes16 m2) s = writeSchedule index en days m1 m2 s := by
    show writeSchedule index en days (half (hi8 m1) (lo8 m1)) (half (hi8 m2) (lo8 m2)) s = _
    rw [half_bytes, half_bytes]
  have htime : serve 0x4A (bytes32 second) s = setTime second s := by
    show setTime (word _ _ _ _) s = _
    rw [word_bytes]
  refine ⟨fun ⟨hi, hm, ha, hb, hc, hd, hl, ho⟩ => ?_, fun hn => ?_, fun i hi hr => ?_, fun hn => ?_, fun hw => ?_, fun hw => ?_⟩
  · exact request_done hs hp rfl (heco.trans (writeEconomy_of_ranges hi hm ⟨ha, hb⟩ ⟨hc, hd⟩ hl ho)) (by simp)
  · exact request_refused hs hp rfl (heco.trans (writeEconomy_of_not_ranges hn))
  · obtain ⟨he, hd, h1, h2⟩ := hr
    subst hi
    have hen : en = if decide (en = 1) then 1 else 0 := by
      by_cases h : en = 1
      · simp [h]
      · have hzero : en = 0 := by
          have hne : en.toNat ≠ 1 := fun hk => h (BitVec.eq_of_toNat_eq hk)
          exact BitVec.eq_of_toNat_eq (show en.toNat = 0 by omega)
        simp [hzero]
    exact request_done hs hp rfl (hplan.trans (writeSchedule_of_ranges hen hd h1 h2)) (by simp)
  · exact request_refused hs hp rfl (hplan.trans (writeSchedule_of_not_ranges hn))
  · exact request_done hs hp rfl (htime.trans (if_neg (Nat.not_le.mpr hw))) (by simp)
  · exact request_refused hs hp rfl (htime.trans (if_pos hw))

end Sys2Proof.Machine
end

section
/-! PROOFS. Framing of a port (section 8.1): what is sent comes back as it was. -/

namespace Sys2Proof.Machine

theorem escapeByte_ne_start {b c : Byte} (h : c ∈ escapeByte b) : c ≠ 0xA5 := by
  unfold escapeByte at h
  split at h
  · simp only [List.mem_cons, List.not_mem_nil, or_false] at h
    rcases h with rfl | rfl <;> decide
  · split at h
    · simp only [List.mem_cons, List.not_mem_nil, or_false] at h
      rcases h with rfl | rfl <;> decide
    · rename_i hb _
      obtain rfl := List.mem_singleton.mp h
      exact hb

/-- What the bytes after `r` bring about is added to what `r` brought. -/
def Assembly.thenBytes (r : Assembly × Received) (bs : List Byte) : Assembly × List Received :=
  ((receiveBytes r.1 bs).1, if r.2 = .more then (receiveBytes r.1 bs).2 else r.2 :: (receiveBytes r.1 bs).2)

theorem receiveBytes_cons (a : Assembly) (b : Byte) (bs : List Byte) :
    receiveBytes a (b :: bs) = Assembly.thenBytes (receiveByte a b) bs := rfl

theorem thenBytes_more (a : Assembly) (bs : List Byte) : Assembly.thenBytes (a, .more) bs = receiveBytes a bs := by
  simp [Assembly.thenBytes]

/-- Outside a frame every byte but the start byte is passed over. -/
theorem receiveBytes_noise {noise : List Byte} (h : ∀ b ∈ noise, b ≠ 0xA5) (bs : List Byte) :
    receiveBytes .outside (noise ++ bs) = receiveBytes .outside bs := by
  induction noise with
  | nil => rfl
  | cons b noise ih =>
    obtain ⟨hb, hrest⟩ := List.forall_mem_cons.mp h
    have hpassed : receiveByte .outside b = (.outside, .more) := if_neg hb
    rw [List.cons_append, receiveBytes_cons, hpassed, thenBytes_more]
    exact ih hrest

/-- The escapes of a content byte are taken as the byte itself. -/
theorem receiveBytes_escapeByte (c : List Byte) (b : Byte) (bs : List Byte) :
    receiveBytes (.inside c false) (escapeByte b ++ bs) = Assembly.thenBytes (takeContent c b) bs := by
  have hescaped (x : Byte) : receiveBytes (.inside c false) (0xA6 :: x :: bs) =
      Assembly.thenBytes (receiveByte (.inside c true) x) bs := by
    rw [receiveBytes_cons, show receiveByte (.inside c false) 0xA6 = (.inside c true, .more) from rfl, thenBytes_more,
      receiveBytes_cons]
  unfold escapeByte
  split
  · subst_vars
    exact hescaped 0x05
  · split
    · subst_vars
      exact hescaped 0x06
    · rename_i h5 h6
      have hplain : receiveByte (.inside c false) b = takeContent c b := by
        simp only [receiveByte, if_neg h5, if_neg h6]
        rfl
      rw [List.singleton_append, receiveBytes_cons, hplain]

/-! ## The content of a frame -/

theorem content_length (f : Frame) : f.content.length = 4 + f.payload.length + 2 := by
  simp [Frame.content, Frame.header, bytes16]
  omega

theorem checkFrame_content {f : Frame} (h : f.payload.length ≤ 40) : checkFrame f.content = .good f := by
  have hlen : (byteOf f.payload.length).toNat = f.payload.length := byteOf_toNat (by omega)
  have hcontent : f.content =
      f.dest :: f.src :: f.type :: byteOf f.payload.length :: (f.payload ++ bytes16 (crc f.header)) := rfl
  rw [hcontent]
  simp only [checkFrame, hlen, List.take_left, List.drop_left]
  exact if_pos rfl

/-- The length byte of the bytes assembled so far. -/
theorem lengthOf_take (f : Frame) (h : f.payload.length ≤ 40) (n : Nat) (hn : n ≤ f.content.length) :
    lengthOf (f.content.take n) = if n < 4 then none else some f.payload.length := by
  have hlen : (byteOf f.payload.length).toNat = f.payload.length := byteOf_toNat (by omega)
  unfold lengthOf
  rw [List.getElem?_take]
  split
  · rw [if_neg (by omega)]
    show some (byteOf f.payload.length).toNat = _
    rw [hlen]
  · rw [if_pos (by omega)]
    rfl

/-- A content byte that joins a frame in its course: the last one completes it. -/
theorem takeContent_of_frame {f : Frame} {c rest : List Byte} {b : Byte} (h : f.payload.length ≤ 40)
    (hc : f.content = c ++ b :: rest) :
    takeContent c b = if rest = [] then (.outside, .good f) else (.inside (c ++ [b]) false, .more) := by
  have hlen := content_length f
  have hsplit : f.content = (c ++ [b]) ++ rest := by rw [hc, List.append_assoc]; rfl
  have htake : f.content.take (c ++ [b]).length = c ++ [b] := by rw [hsplit, List.take_left]
  have htotal : f.content.length = (c ++ [b]).length + rest.length := by rw [hsplit, List.length_append]
  have hlength := lengthOf_take f h (c ++ [b]).length (by omega)
  rw [htake] at hlength
  unfold takeContent
  simp only [hlength]
  by_cases hfew : (c ++ [b]).length < 4
  · have hrest : rest ≠ [] := by
      rintro rfl
      simp only [List.length_nil] at htotal
      omega
    rw [if_pos hfew, if_neg hrest]
  · rw [if_neg hfew]
    simp only []
    rw [if_neg (by omega)]
    by_cases hrest : rest = []
    · subst hrest
      rw [List.append_nil] at hsplit
      rw [if_pos rfl, ← hsplit, if_pos hlen, checkFrame_content h]
    · have hpos := List.length_pos_iff.mpr hrest
      rw [if_neg (by omega), if_neg hrest]

/-- The rest of a frame's content, taken byte by byte, completes it. -/
theorem receiveBytes_rest {f : Frame} (h : f.payload.length ≤ 40) (rest c : List Byte) (hc : f.content = c ++ rest)
    (hrest : rest ≠ []) :
    receiveBytes (.inside c false) (rest.flatMap escapeByte) = (.outside, [.good f]) := by
  induction rest generalizing c with
  | nil => exact absurd rfl hrest
  | cons b rest ih =>
    rw [List.flatMap_cons, receiveBytes_escapeByte, takeContent_of_frame h hc]
    by_cases hlast : rest = []
    · subst hlast
      rfl
    · rw [if_neg hlast, thenBytes_more]
      exact ih (c ++ [b]) (by rw [hc, List.append_assoc]; rfl) hlast

/-- The bytes of a frame after its start byte. -/
theorem receiveBytes_content {f : Frame} (h : f.payload.length ≤ 40) :
    receiveBytes (.inside [] false) (f.content.flatMap escapeByte) = (.outside, [.good f]) :=
  receiveBytes_rest h f.content [] rfl (List.cons_ne_nil _ _)

/-- Settles O48. -/
theorem sentFrameIsReceived : Obligations.SentFrameIsReceived := by
  intro f h
  refine ⟨fun noise hnoise => ?_, fun content escape => ?_, f.content.flatMap escapeByte, rfl, fun b hb => ?_⟩
  · have hstart : receiveByte .outside 0xA5 = (.inside [] false, .more) := rfl
    rw [receiveBytes_noise hnoise, lineBytes, receiveBytes_cons, hstart, thenBytes_more]
    exact receiveBytes_content h
  · have hstart : receiveByte (.inside content escape) 0xA5 = (.inside [] false, .bad .start) := rfl
    rw [lineBytes, receiveBytes_cons, hstart, Assembly.thenBytes, receiveBytes_content h]
    rfl
  · obtain ⟨c, -, hbc⟩ := List.mem_flatMap.mp hb
    exact escapeByte_ne_start hbc

end Sys2Proof.Machine
end

section
/-! PROOFS. Link ports (sections 8.1 and 8.2): what the units' answers bring into the transmit queues, bad frames,
QUIET and the way back. -/

namespace Sys2Proof.Machine

/-! ## What the units' answers bring into the transmit queues -/

/-- What units that only report and issue the accept set may add to a port's queue. -/
def Enqueueable (p : PortId) (f : TxFrame) : Prop :=
  (f.kind = .own ∧ f.frame.type = typeAcceptSet) ∨ (p = 0 ∧ f.kind = .event)

/-- A port that has taken EVENT frames and ACCEPT-SET only; in QUIET it takes none. -/
structure PortEnqueued (p : PortId) (q r : Port) : Prop where
  rest : r = { q with tx := r.tx, waiting := r.waiting }
  tx : ∃ l, r.tx = q.tx ++ l ∧ ∀ f ∈ l, Enqueueable p f
  quiet : q.state = .quiet → r.tx = q.tx

/-- The ports have taken EVENT frames and ACCEPT-SET only, and nothing else of the link has changed. -/
structure Enqueued (s t : State) : Prop where
  ports : ∀ p, PortEnqueued p (s.port p) (t.port p)
  link : t.link = { s.link with ports := t.link.ports }

theorem PortEnqueued.refl (p : PortId) (q : Port) : PortEnqueued p q q := ⟨rfl, ⟨[], by simp, by simp⟩, fun _ => rfl⟩

theorem PortEnqueued.state {p : PortId} {q r : Port} (h : PortEnqueued p q r) : r.state = q.state := by rw [h.rest]

theorem PortEnqueued.trans {p : PortId} {q r x : Port} (h : PortEnqueued p q r) (k : PortEnqueued p r x) :
    PortEnqueued p q x := by
  obtain ⟨a, ha, hfa⟩ := h.tx
  obtain ⟨b, hb, hfb⟩ := k.tx
  refine ⟨by rw [k.rest, h.rest], ⟨a ++ b, by rw [hb, ha, List.append_assoc], fun f hf => ?_⟩, fun hq => ?_⟩
  · exact (List.mem_append.mp hf).elim (hfa f) (hfb f)
  · exact (k.quiet (h.state.trans hq)).trans (h.quiet hq)

theorem Enqueued.of_link {s t : State} (h : t.link = s.link) : Enqueued s t :=
  ⟨fun p => by rw [State.port, State.port, h]; exact .refl p _, by rw [h]⟩

theorem Enqueued.refl (s : State) : Enqueued s s := .of_link rfl

theorem Enqueued.trans {s t u : State} (h : Enqueued s t) (k : Enqueued t u) : Enqueued s u :=
  ⟨fun p => (h.ports p).trans (k.ports p), by rw [k.link, h.link]⟩

/-- The way there may begin with a change of anything but the link. -/
theorem Enqueued.before {s t u : State} (k : Enqueued t u) (h : t.link = s.link) : Enqueued s u := (Enqueued.of_link h).trans k

theorem enqueued_mapPort {s : State} {p : PortId} {f : Port → Port} (h : PortEnqueued p (s.port p) (f (s.port p))) :
    Enqueued s (s.mapPort p f) := by
  refine ⟨fun o => ?_, rfl⟩
  rw [port_mapPort]
  split
  · subst_vars; exact h
  · exact .refl o _

theorem drain_quiet (own c : Byte) (es : List Event) (lost : Nat) {q : Port} (h : q.state = .quiet) :
    (drain own c es lost q).2.2 = q := by
  cases es with
  | nil => rfl
  | cons e es => simp [drain, h]

theorem pump_enqueued (s : State) : Enqueued s (pump s) := by
  obtain ⟨sent, hsent, hport, -⟩ := drain_spec s.link.ownNode (controllerNode s.link) s.events.queue s.events.lost (s.port 0)
  have hpump : Enqueued (s.mapEvents fun _ => (pump s).events) (pump s) := by
    refine (@enqueued_mapPort _ _ (fun _ => (drain s.link.ownNode (controllerNode s.link) s.events.queue s.events.lost
      (s.port 0)).2.2)) ⟨by rw [hport]; rfl, ⟨sent, by rw [hport]; rfl, fun f hf => .inr ⟨rfl, hsent f hf⟩⟩, fun hq => ?_⟩
    have hq : (s.port 0).state = .quiet := hq
    rw [drain_quiet _ _ _ _ hq]
    rfl
  exact hpump.before rfl

theorem raise_enqueued (c : EventCode) (a : Byte) (v : Word) (s : State) : Enqueued s (raise c a v s) :=
  (pump_enqueued _).before rfl

theorem issue_enqueued (p : PortId) (q : Port) {f : Frame} (hf : f.type = typeAcceptSet) : PortEnqueued p q (q.issue p f) := by
  unfold Port.issue
  split
  · rename_i h
    refine ⟨rfl, ⟨[{ frame := f, kind := .own }], rfl, fun x hx => ?_⟩, fun hq => absurd hq h.1⟩
    rw [List.mem_singleton.mp hx]
    exact .inl ⟨rfl, hf⟩
  · split <;> exact ⟨rfl, ⟨[], by simp, by simp⟩, fun _ => rfl⟩

theorem issueAccept_enqueued (s : State) : Enqueued s (issueAccept s) := by
  have hmap (t : State) : Enqueued t (sendOwn .coinValidator typeAcceptSet (bytes16 (acceptSet s)) t) := by
    rcases sendOwn_cases .coinValidator typeAcceptSet (bytes16 (acceptSet s)) t with ⟨_, h⟩ | ⟨n, _, h⟩ <;> rw [h]
    · exact .refl t
    · exact enqueued_mapPort (issue_enqueued n.port _ rfl)
  exact (hmap _).before rfl

theorem recomputeAccept_enqueued (s : State) : Enqueued s (recomputeAccept s) := by
  unfold recomputeAccept
  split
  · exact issueAccept_enqueued s
  · exact .refl s

theorem evaluateAssurance_enqueued (s : State) : Enqueued s (evaluateAssurance s) := by
  unfold evaluateAssurance
  simp only []
  split
  · exact .refl s
  · exact ((raise_enqueued _ _ _ _).trans (recomputeAccept_enqueued _)).before rfl

theorem tubeChanged_enqueued (t : TubeId) (s : State) : Enqueued s (tubeChanged t s) :=
  (Enqueued.of_link (by simp)).trans (evaluateAssurance_enqueued _)

theorem takeTrace_enqueued (tag : Byte) (m : Motor) (s : State) : Enqueued s (takeTrace tag m s) := by
  unfold takeTrace
  split
  · exact .of_link rfl
  · exact raise_enqueued _ _ _ s
  · exact raise_enqueued _ _ _ s

theorem tryVend_enqueued (s : State) : Enqueued s (tryVend s) := by
  unfold tryVend
  split
  · exact .refl s
  · rename_i e es _
    split
    · have hgrant : Enqueued s (vendGranted e es s) := .of_link rfl
      unfold firstEnergise
      simp only []
      split
      · exact hgrant.trans (takeTrace_enqueued _ _ _)
      · exact hgrant
    · exact .refl s

theorem consider_enqueued (s : State) : Enqueued s (consider s) := by
  have hcompressor (t : State) : Enqueued t (tryCompressor t) := .of_link (tryCompressor_suppliedOnly t).link
  have hheater (t : State) : Enqueued t (tryHeater t) := .of_link (tryHeater_suppliedOnly t).link
  unfold consider
  split
  · refine ((hcompressor s).trans ?_).trans (hheater _)
    rcases tryVendBehind_cases (tryCompressor s) with h | h <;> rw [h]
    · exact .refl _
    · exact tryVend_enqueued _
  · exact ((tryVend_enqueued s).trans (hcompressor _)).trans (hheater _)

theorem startHead_enqueued (s : State) : Enqueued s (startHead s) := by
  unfold startHead
  split
  · exact .refl s
  · split
    · unfold placeVend
      split
      · exact (consider_enqueued _).before rfl
      · exact .refl s
    · exact .refl s

theorem cancelOne_enqueued (c : CancelCause) (s : State) {e : Entry} (h : e.driving = false) :
    Enqueued s (cancelOne c s e) := by
  obtain ⟨u, hu⟩ := cancelOne_cancelled c s h
  rw [hu.raised]
  exact (Enqueued.of_link hu.link).trans (raise_enqueued _ _ _ u)

theorem cancelAll_enqueued (c : CancelCause) {l : List Entry} (hl : ∀ e ∈ l, e.driving = false) (s : State) :
    Enqueued s (l.foldl (cancelOne c) s) := by
  induction l generalizing s with
  | nil => exact .refl s
  | cons e l ih =>
    exact (cancelOne_enqueued c s (hl e List.mem_cons_self)).trans (ih (fun x hx => hl x (List.mem_cons_of_mem e hx)) _)

theorem cancelWhere_enqueued (p : Entry → Bool) (c : CancelCause) (s : State) : Enqueued s (cancelWhere p c s) := by
  unfold cancelWhere
  split
  · exact .refl s
  · exact (cancelAll_enqueued c victims_driving s).trans (startHead_enqueued _)

theorem enterSales_enqueued (n : SalesState) (s : State) : Enqueued s (enterSales n s) := by
  have hraise := ((@Enqueued.of_link s (s.mapVend fun v => { v with sales := n })) rfl).trans
    (raise_enqueued .salesState n.code (amount (causeCode (s.mapVend fun v => { v with sales := n }))) _)
  cases n with
  | suspended =>
    exact (hraise.trans (.of_link (withdrawVend_suppliedOnly _).link)).trans (recomputeAccept_enqueued _)
  | selling => exact (hraise.trans (recomputeAccept_enqueued _)).trans (startHead_enqueued _)
  | offline => exact hraise.trans (recomputeAccept_enqueued _)
  | service => exact hraise.trans (recomputeAccept_enqueued _)

theorem suspendCheck_enqueued (s : State) : Enqueued s (suspendCheck s) := by
  cases h : s.vend.sales with
  | selling =>
    rw [suspendCheck_of_selling h]
    split
    · exact .refl s
    · exact enterSales_enqueued _ s
  | suspended =>
    rw [suspendCheck_of_suspended h]
    split
    · exact enterSales_enqueued _ s
    · exact .refl s
  | offline => rw [suspendCheck_of_closed (.inl h)]; exact .refl s
  | service => rw [suspendCheck_of_closed (.inr h)]; exact .refl s

theorem isolationBegins_enqueued (i : Item) (s : State) : Enqueued s (isolationBegins i s) := by
  unfold isolationBegins
  split
  · exact tubeChanged_enqueued _ s
  · exact cancelWhere_enqueued _ _ s
  · exact cancelWhere_enqueued _ _ s
  · exact cancelWhere_enqueued _ _ s

theorem report_enqueued (k : FaultKind) (n : Nat) (s : State) : Enqueued s (report k n s) := by
  have hput (f : FaultList → FaultList) (c : EventCode) (a : Byte) (v : Word) :
      Enqueued s (raise c a v (s.mapFaults f)) :=
    (raise_enqueued _ _ _ _).before rfl
  unfold report
  split
  · split
    · exact hput _ _ _ _
    · exact .refl s
  · split
    · unfold storeFault
      simp only []
      refine Enqueued.trans ?_ (suspendCheck_enqueued _)
      split
      · exact hput _ _ _ _
      · split
        · exact (hput _ _ _ _).trans (isolationBegins_enqueued _ _)
        · exact hput _ _ _ _
    · exact (hput _ _ _ _).trans (suspendCheck_enqueued _)

/-! ## Bad frames and QUIET (R145, R147, R148) -/

theorem PortEnqueued.holdsRestart {p : PortId} {q r : Port} (h : PortEnqueued p q r) :
    holdsRestart r = Machine.holdsRestart q := by
  obtain ⟨l, hl, hf⟩ := h.tx
  have hnone : (l.any fun f => decide (f.kind = .restartReply)) = false := by
    rw [List.any_eq_false]
    intro f hfl
    rcases hf f hfl with ⟨hk, _⟩ | ⟨_, hk⟩ <;> simp [hk]
  unfold Machine.holdsRestart
  rw [hl, List.any_append, hnone, Bool.or_false]

theorem mapPort_mapPort (s : State) (p : PortId) (f g : Port → Port) :
    (s.mapPort p f).mapPort p g = s.mapPort p fun q => g (f q) := by
  simp only [State.mapPort, State.mapLink, Fin.getElem_fin, Vector.getElem_set_self, Vector.set_set]

theorem badFrame_eq {p : PortId} {a : Assembly} {s t : State} (h : scoreBad p (setAssembly p a s) = t) :
    badFrame p a s = if restartDiscarded s t then warmRestart t else pump t := by
  rw [← h]
  rfl

/-- Without a restart that the step discards, a bad frame is its score alone. -/
theorem badFrame_of_kept {p : PortId} {a : Assembly} {s : State}
    (h : holdsRestart ((scoreBad p (setAssembly p a s)).port 0) = holdsRestart (s.port 0)) :
    badFrame p a s = pump (scoreBad p (setAssembly p a s)) := by
  rw [badFrame_eq rfl, if_neg]
  simp [restartDiscarded, h, Bool.and_assoc]

theorem holdsRestart_mapPort {s : State} {p : PortId} {f : Port → Port} (h : (f (s.port p)).tx = (s.port p).tx) :
    holdsRestart ((s.mapPort p f).port 0) = holdsRestart (s.port 0) := by
  rw [port_mapPort]
  split
  · subst_vars
    simp only [holdsRestart, h]
  · rfl

theorem scoreBad_of_quiet {p : PortId} {s : State} (h : (s.port p).state = .quiet) :
    scoreBad p s = s.mapPort p fun q => { q with recovery := 0 } := by
  simp only [scoreBad, h]

theorem scoreBad_of_active {p : PortId} {s : State} (h : (s.port p).state = .active) :
    scoreBad p s =
      if 64 ≤ min 255 ((s.port p).score + 8) ∧ min 255 ((s.port p).score + 8) ≤ 191 then
        raise .portWarn (byteOf p) (amount (min 255 ((s.port p).score + 8)))
          ((s.mapPort p fun q => { q with score := min 255 ((s.port p).score + 8) }).mapPort p fun q =>
            { q with state := .warned })
      else s.mapPort p fun q => { q with score := min 255 ((s.port p).score + 8) } := by
  simp only [scoreBad, h]

theorem scoreBad_of_warned {p : PortId} {s : State} (h : (s.port p).state = .warned) :
    scoreBad p s =
      if 192 ≤ min 255 ((s.port p).score + 8) then
        enterQuiet p (s.mapPort p fun q => { q with score := min 255 ((s.port p).score + 8) })
      else s.mapPort p fun q => { q with score := min 255 ((s.port p).score + 8) } := by
  simp only [scoreBad, h]

theorem enterQuiet_enqueued (p : PortId) (s : State) : Enqueued (quieted p s) (enterQuiet p s) := by
  rw [enterQuiet_eq]
  split
  · exact (report_enqueued _ _ _).trans (issueAccept_enqueued _)
  · exact report_enqueued _ _ _

theorem quieted_port (p o : PortId) (s : State) :
    (quieted p s).port o = if p = o then (s.port o).quieten else s.port o := by
  unfold quieted
  split <;> exact port_mapPort s p o _

theorem quieted_restartPending (p : PortId) (s : State) : (quieted p s).link.restartPending = s.link.restartPending := by
  unfold quieted
  split <;> rfl

/-- The entry to QUIET discards the REPLY to RESTART when it is U's and holds it. -/
theorem restartDiscarded_enterQuiet {p : PortId} {s t : State} (hother : p ≠ 0 → s.port 0 = t.port 0)
    (hpending : t.link.restartPending = s.link.restartPending) :
    restartDiscarded s (enterQuiet p t) = true ↔
      p = 0 ∧ s.link.restartPending = true ∧ holdsRestart (s.port p) = true := by
  have henqueued := enterQuiet_enqueued p t
  have hlink : (enterQuiet p t).link.restartPending = s.link.restartPending := by
    rw [henqueued.link, ← hpending]
    exact quieted_restartPending p t
  have hafter : holdsRestart ((enterQuiet p t).port 0) = if p = 0 then false else holdsRestart (s.port 0) := by
    rw [(henqueued.ports 0).holdsRestart, quieted_port]
    split
    · rfl
    · rename_i hp
      rw [hother hp]
  unfold restartDiscarded
  rw [hlink, hafter]
  by_cases hp : p = 0
  · subst hp
    simp
  · simp [hp]

theorem recover_set (p : PortId) (x : Port) (s : State) :
    recover p (s.mapPort p fun _ => x) =
      let e := conditionEnded .portQuiet p (s.mapPort p fun _ => x.revive)
      let u := if carriesValidator p e.link then recomputeAccept e else e
      u.mapPort p fun q => q.fillPending p := by
  unfold recover
  rw [mapPort_mapPort]

/-- Settles O49. -/
theorem portScoresQuietAndRecovery : Obligations.PortScoresQuietAndRecovery := by
  intro s p hs q with_ score quiet back bad
  have hassembly (a : Assembly) : (setAssembly p a s).port p = { q with assembly := a } := by
    simp [setAssembly, q, State.port]
  have hmap (x : Port) (f : Port → Port) : (with_ x).mapPort p f = with_ (f x) := mapPort_mapPort s p (fun _ => x) f
  have hother (x : Port) (hp : p ≠ 0) : (with_ x).port 0 = s.port 0 := State.port_mapPort_ne s p 0 (fun _ => x) hp
  have hrestart (x : Port) (hx : x.tx = q.tx) : holdsRestart ((with_ x).port 0) = holdsRestart (s.port 0) :=
    (@holdsRestart_mapPort _ _ (fun _ => x)) hx
  have hbad (a : Assembly) : bad a (act s (badFrame p a s)) := by
    have hscored : ((setAssembly p a s).mapPort p fun r => { r with score := score }) =
        with_ { q with assembly := a, score := score } := mapPort_mapPort s p _ _
    have hsilent (x : Port) (hx : x.tx = q.tx) (h : scoreBad p (setAssembly p a s) = with_ x) :
        ∃ t, Becomes (with_ x) [] t ∧ act s (badFrame p a s) = .next t := by
      rw [badFrame_of_kept (by rw [h]; exact hrestart x hx), h]
      exact act_silent hs _
    have hactive (h : q.state = .active) := (@scoreBad_of_active p (setAssembly p a s)) (by rw [hassembly]; exact h)
    have hwarned (h : q.state = .warned) := (@scoreBad_of_warned p (setAssembly p a s)) (by rw [hassembly]; exact h)
    simp only [hassembly] at hactive hwarned
    have hdiscard := (@restartDiscarded_enterQuiet p s (with_ { q with assembly := a, score := score }))
      (fun hp => (hother _ hp).symm) rfl
    have hquiet : enterQuiet p (with_ { q with assembly := a, score := score }) = quiet { q with assembly := a, score := score } := by
      have hquieted : quieted p (with_ { q with assembly := a, score := score }) = { s with link := { s.link with
          ports := s.link.ports.set p { q with assembly := a, score := score, state := .quiet, tx := [], recovery := 0 }
          hold := if p = 0 then none else s.link.hold } } := by
        have hset := mapPort_mapPort s p (fun _ => { q with assembly := a, score := score }) Port.quieten
        unfold quieted
        split
        · exact congrArg (fun t : State => t.mapLink fun l => { l with hold := none }) hset
        · exact hset
      rw [enterQuiet_eq, hquieted]
    dsimp only [bad]
    refine ⟨fun h => hsilent _ rfl ?_, fun h hl => hsilent _ rfl ?_, fun h hl hu => ?_, fun h hl => hsilent _ rfl ?_,
      fun h hl hr => ?_, fun h hl hr => ?_⟩
    · rw [scoreBad_of_quiet (by rw [hassembly]; exact h)]
      exact mapPort_mapPort s p _ _
    · rw [hactive h, if_neg (fun hk => absurd hk.1 (Nat.not_le.mpr hl))]
      exact hscored
    · have hscore : scoreBad p (setAssembly p a s) =
          raise .portWarn (byteOf p) (amount score) (with_ { q with assembly := a, score := score, state := .warned }) := by
        rw [hactive h, if_pos ⟨hl, hu⟩]
        rw [hscored, hmap]
      have hrest := ((raise_enqueued .portWarn (byteOf p) (amount score)
        (with_ { q with assembly := a, score := score, state := .warned })).ports 0).holdsRestart
      rw [badFrame_of_kept (by rw [hscore, hrest]; exact hrestart _ rfl), hscore]
      exact act_becomes hs (becomes_raised _ _ _ _)
    · rw [hwarned h, if_neg (Nat.not_le.mpr hl)]
      exact hscored
    · have hscore : scoreBad p (setAssembly p a s) = enterQuiet p (with_ { q with assembly := a, score := score }) := by
        rw [hwarned h, if_pos hl]
        exact congrArg (enterQuiet p) hscored
      have hnot : restartDiscarded s (enterQuiet p (with_ { q with assembly := a, score := score })) ≠ true := by
        rw [Ne, hdiscard]
        exact hr
      rw [badFrame_eq hscore, if_neg hnot, hquiet]
      exact act_of_high hs _
    · have hscore : scoreBad p (setAssembly p a s) = enterQuiet p (with_ { q with assembly := a, score := score }) := by
        rw [hwarned h, if_pos hl]
        exact congrArg (enterQuiet p) hscored
      rw [badFrame_eq hscore, if_pos (hdiscard.mpr hr), hquiet]
      exact act_of_high hs _
  have hback (x : Port) : recover p (with_ x) = back x := recover_set p x s
  refine ⟨fun cause => ?_, hbad .outside, fun dest src type payload hlen hq => ?_, fun src port hp => ?_⟩
  · have hafter : afterBad cause = if cause = .start then .inside [] false else .outside := by
      cases cause <;> rfl
    rw [← hafter]
    exact hbad _
  · intro good
    have hgood : good = act s (pump (recoveryFrame p (with_ { q with assembly := .outside }))) := by
      simp only [good, exec, execGoodFrame, goodFrame]
      rw [if_neg (Nat.not_lt.mpr hlen), if_pos hq]
      rfl
    have hport : (with_ { q with assembly := .outside }).port p = { q with assembly := .outside } := hassembly .outside
    refine ⟨fun hr => ?_, fun hr hp => ?_, fun hr hp => ?_⟩
    · have hr : ¬ 32 ≤ q.recovery + 1 := by omega
      rw [hgood, recoveryFrame, hport, if_neg hr, hmap]
      exact act_silent hs _
    · have hr : 32 ≤ q.recovery + 1 := by omega
      rw [hgood, recoveryFrame, hport, if_pos hr, if_neg hp, hback]
      exact act_of_high hs _
    · have hr : 32 ≤ q.recovery + 1 := by omega
      rw [hgood, recoveryFrame, hport, if_pos hr, if_pos hp, hback]
      exact act_of_high hs _
  · intro w
    refine ⟨fun hport => request_refused hs hp rfl ?_, fun hport hne => ?_⟩
    · show portRestart port s = refused .range s
      rcases hport with rfl | hport
      · rfl
      · rw [portRestart, readFin_eq_none.mpr hport]
    · subst hport
      have hanswer {c : Byte} {t : State} (hc : q.state.code = c) (ht : restartPort p s = t) :
          w = .next (answered src 0x4C .done [c] t) := by
        refine request_done hs hp rfl ?_ (by simp)
        show portRestart (byteOf p) s = _
        rw [portRestart, readFin_byteOf (by omega), ← hc, ← ht]
        exact if_neg hne
      refine ⟨fun h => hanswer (by rw [h]; rfl) ?_, fun h => hanswer (by rw [h]; rfl) ?_, fun h => hanswer (by rw [h]; rfl) ?_⟩
      · have hstate : (s.port p).state = .quiet := h
        simp only [restartPort, hstate]
        rfl
      · have hstate : (s.port p).state = .warned := h
        simp only [restartPort, hstate]
        rfl
      · have hstate : (s.port p).state = .active := h
        have hsame : ({ q with score := 0 } : Port) = { q with state := .active, score := 0 } := by rw [← h]
        simp only [restartPort, hstate]
        rw [hsame]
        rfl

end Sys2Proof.Machine
end

section
/-! PROOFS. The frame switch (sections 8.4 to 8.6): the deciding entry, the destination, the role check and the
handling by type. -/

namespace Sys2Proof.Machine

/-! ## The deciding entry (R156) -/

/-- The type, the class and the ports of a disposition entry fit a frame at a port. -/
structure Disposition.Fits (d : Disposition) (p : PortId) (f : Frame) (own : Byte) : Prop where
  enabled : d.enabled = true
  type : d.type = f.type
  ports : d.ports.getLsbD p = true
  dest : (d.dest = .own ∧ f.dest = own) ∨ (d.dest = .other ∧ f.dest ≠ 0 ∧ f.dest ≠ own) ∨
    (d.dest = .broadcast ∧ f.dest = 0) ∨ d.dest = .any

theorem destClass_holds_iff (c : DestClass) (dest own : Byte) :
    c.holds dest own = true ↔ (c = .own ∧ dest = own) ∨ (c = .other ∧ dest ≠ 0 ∧ dest ≠ own) ∨
      (c = .broadcast ∧ dest = 0) ∨ c = .any := by
  cases c <;> simp [DestClass.holds]

theorem disposition_holds_iff (d : Disposition) (p : PortId) (f : Frame) (own : Byte) :
    d.holds p f own = true ↔ d.Fits p f own := by
  unfold Disposition.holds
  rw [Bool.and_eq_true, Bool.and_eq_true, Bool.and_eq_true, destClass_holds_iff, beq_iff_eq]
  exact ⟨fun ⟨⟨⟨h1, h2⟩, h3⟩, h4⟩ => ⟨h1, h2, h3, h4⟩, fun ⟨h1, h2, h3, h4⟩ => ⟨⟨⟨h1, h2⟩, h3⟩, h4⟩⟩

/-- The first element of a vector with a property is the one that is found. -/
theorem find?_toList_eq_some {α : Type} {n : Nat} {v : Vector α n} {p : α → Bool} {i : Fin n} (h : p v[i] = true)
    (hfirst : ∀ j < i, p v[j] = false) : v.toList.find? p = some v[i] := by
  rw [List.find?_eq_some_iff_getElem]
  refine ⟨h, i, by simp, by simp, fun j hj => ?_⟩
  have hlt : j < n := hj.trans i.isLt
  simpa using hfirst ⟨j, hlt⟩ hj

theorem find?_toList_eq_none {α : Type} {n : Nat} {v : Vector α n} {p : α → Bool} (h : ∀ i : Fin n, p v[i] = false) :
    v.toList.find? p = none := by
  rw [List.find?_eq_none]
  intro x hx
  obtain ⟨i, hi, rfl⟩ := Vector.mem_iff_getElem.mp (Vector.mem_toList_iff.mp hx)
  simpa using h ⟨i, hi⟩

/-- Types 0x40..0x4F on port U are not looked up. -/
def Exempt (p : PortId) (f : Frame) : Prop := p = 0 ∧ 0x40 ≤ f.type.toNat ∧ f.type.toNat ≤ 0x4F

theorem actionOf_of_exempt {p : PortId} {f : Frame} {l : Link} (h : Exempt p f) : actionOf p f l = .pass := if_pos h

theorem actionOf_of_none {p : PortId} {f : Frame} {l : Link} (h : ∀ i : Fin 32, ¬ l.dispositions[i].Fits p f l.ownNode) :
    actionOf p f l = .pass := by
  unfold actionOf
  rw [find?_toList_eq_none (fun i => by rw [← Bool.not_eq_true, disposition_holds_iff]; exact h i)]
  exact ite_self _

theorem actionOf_of_first {p : PortId} {f : Frame} {l : Link} {i : Fin 32} (he : ¬ Exempt p f)
    (h : l.dispositions[i].Fits p f l.ownNode) (hfirst : ∀ j < i, ¬ l.dispositions[j].Fits p f l.ownNode) :
    actionOf p f l = l.dispositions[i].action := by
  have he : ¬ (p = 0 ∧ 0x40 ≤ f.type.toNat ∧ f.type.toNat ≤ 0x4F) := he
  have hfound : (l.dispositions.toList.find? fun d => d.holds p f l.ownNode) = some l.dispositions[i] :=
    find?_toList_eq_some ((disposition_holds_iff _ _ _ _).mpr h)
      fun j hj => by rw [← Bool.not_eq_true, disposition_holds_iff]; exact hfirst j hj
  unfold actionOf
  rw [if_neg he, hfound]
  rfl

/-! ## Role check and handling by type (R155, R158) -/

/-- The sender of a frame has the role (R155). -/
def HasRole (r : Role) (p : PortId) (src : Byte) (l : Link) : Prop :=
  (∃ n, roleEntry r l = some n ∧ n.node = src ∧ n.port = p) ∨ (r = .machineController ∧ roleEntry r l = none ∧ p = 0)

theorem rolePasses_iff (r : Role) (p : PortId) (src : Byte) (l : Link) : rolePasses r p src l = true ↔ HasRole r p src l := by
  unfold rolePasses HasRole
  cases h : roleEntry r l with
  | none => simp
  | some n => simp

theorem handleByType_of_role {p : PortId} {f : Frame} {s : State} {r : Role}
    (h : senderRole f.type f.payload.length = some r) (hr : HasRole r p f.src s.link) : handleByType p f s = deliver p f s := by
  unfold handleByType
  rw [h]
  exact if_pos ((rolePasses_iff _ _ _ _).mpr hr)

theorem handleByType_of_mismatch {p : PortId} {f : Frame} {s : State} {r : Role}
    (h : senderRole f.type f.payload.length = some r) (hr : ¬ HasRole r p f.src s.link) :
    handleByType p f s = raise .roleMismatch f.src (f.type.setWidth 32) s := by
  unfold handleByType
  rw [h]
  exact if_neg fun hk => hr ((rolePasses_iff _ _ _ _).mp hk)

theorem handleByType_of_unknown {p : PortId} {f : Frame} {s : State} (h : senderRole f.type f.payload.length = none) :
    handleByType p f s = if p = 0 then request p f s else raise .badType f.type (amount p) s := by
  unfold handleByType
  rw [h]

/-! ## Routing (R157, R158) -/

theorem handle_of_own {p : PortId} {f : Frame} {s : State} (h : f.dest = s.link.ownNode) :
    handle p f s = handleByType p f s := if_pos h

theorem handle_of_broadcast {p : PortId} {f : Frame} {s : State} (h : f.dest ≠ s.link.ownNode) (h0 : f.dest = 0) :
    handle p f s = if (senderRole f.type f.payload.length).isSome then handleByType p f (broadcast p f s)
      else broadcast p f s := by
  unfold handle
  rw [if_neg h, if_pos h0]

theorem handle_of_unroutable {p : PortId} {f : Frame} {s : State} (h : f.dest ≠ s.link.ownNode) (h0 : f.dest ≠ 0)
    (hn : nodeEntry f.dest s.link = none) :
    handle p f s = s.mapPort p fun q => { q with unroutable := saturate 255 q.unroutable } := by
  unfold handle
  rw [if_neg h, if_neg h0, hn]

theorem handle_of_node {p : PortId} {f : Frame} {s : State} {n : Node} (h : f.dest ≠ s.link.ownNode) (h0 : f.dest ≠ 0)
    (hn : nodeEntry f.dest s.link = some n) : handle p f s = if n.port = p then s else forward n.port f s := by
  unfold handle
  rw [if_neg h, if_neg h0, hn]

theorem forwardsToU_iff (f : Frame) (l : Link) :
    forwardsToU f l = true ↔ f.dest ≠ l.ownNode ∧ (f.dest = 0 ∨ ∃ n, nodeEntry f.dest l = some n ∧ n.port = 0) := by
  unfold forwardsToU
  cases h : nodeEntry f.dest l <;> simp

theorem isService_ne_row {type : Byte} (h1 : 0x40 ≤ type.toNat) (h2 : type.toNat ≤ 0x4E) :
    type ∉ ([0x20, 0x22, 0x50, 0x60, 0x61, 0x62, 0x70, 0x71, 0x72] : List Byte) := by
  intro h
  simp only [List.mem_cons, List.not_mem_nil, or_false] at h
  rcases h with rfl | rfl | rfl | rfl | rfl | rfl | rfl | rfl | rfl <;> revert h1 h2 <;> decide

/-- Settles O50. -/
theorem goodFrameSwitched : Obligations.GoodFrameSwitched := by
  intro s p dest src type payload hs hlen hq q f own calmed u out inClass matched exempt action handled mine role sender row
  have hu : scoreGood p (setAssembly p .outside s) = u := by
    have hstate : (if q.state = .warned ∧ q.score - 1 < 64 then PortState.active else q.state) =
        if q.state = .warned ∧ q.score ≤ 64 then .active else q.state := by
      have hscore : q.score - 1 < 64 ↔ q.score ≤ 64 := by omega
      simp only [hscore]
    have hset := mapPort_mapPort s p (fun r => { r with assembly := .outside }) (fun r => { r with
      score := r.score - 1, state := if r.state = .warned ∧ r.score - 1 < 64 then .active else r.state })
    refine hset.trans ?_
    show s.mapPort p (fun _ => { q with assembly := .outside, score := q.score - 1
                                        state := if q.state = .warned ∧ q.score - 1 < 64 then .active else q.state }) = _
    rw [hstate]
    rfl
  have hexec : out = act s (pump (switchFrame p f u)) := by
    simp only [out, exec, execGoodFrame, goodFrame]
    rw [if_neg (Nat.not_lt.mpr hlen), if_neg hq, hu]
  have hout : out = .next (pump (switchFrame p f u)) := hexec.trans (act_of_high hs _)
  have hport : u.port p = calmed := Vector.getElem_set_self _
  have hswitch (a : Action) (h : action = a) : actionOf p f u.link = a := h
  have hmatched (i : Fin 32) : matched i ↔ s.link.dispositions[i].Fits p f s.link.ownNode :=
    ⟨fun ⟨h1, h2, h3, h4⟩ => ⟨h1, h2, h3, h4⟩, fun ⟨h1, h2, h3, h4⟩ => ⟨h1, h2, h3, h4⟩⟩
  have hmine (h : mine) : switchFrame p f u = handleByType p f u := by
    rw [switchFrame]
    rcases h with h | ⟨h, hd⟩
    · rw [hswitch _ h]
    · rw [hswitch _ h]
      exact handle_of_own hd
  have hrow {t : Byte} {l : List Byte} {r : Role} {c : Instr} {v : State} (hr : senderRole t l.length = some r)
      (hd : deliver p { dest := dest, src := src, type := t, payload := l } u = v) (hc : exec c u = act u (pump v)) :
      row t l r c := by
    intro hm ht hl hsender
    subst ht hl
    have hsender : HasRole r p src u.link := hsender
    rw [hout, hmine hm, handleByType_of_role hr hsender, hd, hc]
    exact ((@act_of_high u) hs _).symm
  refine ⟨fun h => ?_, fun i he hi hfirst => ?_, fun h => ?_, fun h => ?_, fun h => ?_, fun h hto => ?_, fun h hp hto => ?_,
    fun hown => handle_of_own hown, fun hne h0 => handle_of_broadcast hne h0, fun hne h0 hn => ?_,
    fun hne h0 n hn => ?_, fun a b => hrow rfl rfl rfl, fun a hp hown => ?_, hrow rfl rfl rfl, fun a => hrow rfl rfl rfl,
    fun a => hrow rfl rfl rfl, fun a => hrow rfl rfl rfl, fun a => hrow rfl rfl rfl, fun a b => hrow rfl rfl rfl,
    hrow rfl rfl rfl, fun a => hrow rfl rfl rfl, fun hm h1 h2 hsender => ?_, fun r hm hr hsender => ?_, fun hm hr hp => ?_,
    fun hm hr hp => ?_⟩
  · rcases h with h | h
    · exact actionOf_of_exempt h
    · exact actionOf_of_none fun i hi => h i ((hmatched i).mpr hi)
  · exact actionOf_of_first he ((hmatched i).mp hi) fun j hj hk => hfirst j hj ((hmatched j).mpr hk)
  · have hdropped : switchFrame p f u = u := by rw [switchFrame, hswitch _ h]
    rw [hexec, hdropped]
    exact act_silent hs u
  · rw [hout, switchFrame, hswitch _ h]
  · rw [hout, switchFrame, hswitch _ h]
  · rw [hout, switchFrame, hswitch _ h]
    simp only []
    rw [if_pos]
    exact hto.imp_right (forwardsToU_iff f u.link).mpr
  · rw [hout, switchFrame, hswitch _ h]
    simp only []
    rw [if_neg]
    · rfl
    · rintro (h0 | hf)
      · exact hp h0
      · obtain ⟨hown, hto'⟩ := (forwardsToU_iff f u.link).mp hf
        rcases hto with hto | ⟨h0, hto⟩
        · exact hown hto
        · rcases hto' with h0' | ⟨n, hn, hn0⟩
          · exact h0 h0'
          · exact hto n hn hn0
  · have hcount : handled = u.mapPort p fun r => { r with unroutable := saturate 255 r.unroutable } :=
      handle_of_unroutable hne h0 hn
    rw [hcount, State.mapPort, State.mapLink]
    show { u with link := { u.link with ports := u.link.ports.set p { u.port p with
      unroutable := min 255 ((u.port p).unroutable + 1) } } } = _
    rw [hport]
  · have hnode := (@handle_of_node p f u) hne h0 hn
    exact ⟨fun h => by rw [show handled = _ from hnode, if_pos h], fun h => by rw [show handled = _ from hnode, if_neg h]⟩
  · refine @hrow _ _ _ _ (fromController src typeCancel [a] u) rfl ?_ rfl
    rw [deliver_of_other (by decide), fromController, if_neg, hp, hown]
    · rfl
    · rw [← hp, hport]
      show (if q.state = .warned ∧ q.score ≤ 64 then PortState.active else q.state) ≠ .quiet
      split
      · simp
      · exact hq
  · have hservice : isService type = true := decide_eq_true ⟨h1, h2⟩
    have hrole : senderRole f.type f.payload.length = some .machineController := if_pos hservice
    have hsender : HasRole .machineController p src u.link := hsender
    rw [hout, hmine hm, handleByType_of_role hrole hsender, deliver_of_other (isService_ne_row h1 h2)]
  · rw [hexec, hmine hm, (@handleByType_of_mismatch p f u) hr hsender]
    exact act_becomes hs (becomes_raised _ _ _ _)
  · rw [hout, hmine hm, (@handleByType_of_unknown p f u) hr, if_pos hp]
  · rw [hexec, hmine hm, (@handleByType_of_unknown p f u) hr, if_neg hp]
    exact act_becomes hs (becomes_raised _ _ _ _)

end Sys2Proof.Machine
end

section
/-! PROOFS. Transmit queues and events (sections 8.3 and 10.4): forwarding, own frames, pending sends, and the way
of an event into U's queue. -/

namespace Sys2Proof.Machine

/-! ## Places (R150) -/

/-- Places for a frame other than a REPLY in a queue of this content. -/
structure Room (p : PortId) (l : List TxFrame) : Prop where
  length : l.length < 6
  general : p = 0 → (l.filter fun x => !x.kind.isReply).length < 5

theorem isReply_eq : (fun x : TxFrame => decide (x.kind = .reply) || decide (x.kind = .restartReply)) =
    fun x => x.kind.isReply := by
  funext x
  cases x.kind <;> rfl

theorem room_iff (p : PortId) (q : Port) : 0 < freePlaces p q ↔ Room p q.tx := by
  unfold freePlaces generalFree
  constructor
  · intro h
    split at h
    · exact ⟨by omega, fun _ => by omega⟩
    · rename_i hp
      exact ⟨by omega, fun h0 => absurd h0 hp⟩
  · rintro ⟨hl, hg⟩
    split
    · rename_i hp
      have := hg hp
      omega
    · omega

/-- A port takes a frame other than a REPLY: not QUIET, nothing pending, and a place free (R151, R152). -/
structure Takes (p : PortId) (q : Port) : Prop where
  state : q.state ≠ .quiet
  waiting : q.waiting = []
  room : Room p q.tx

theorem takes_iff (p : PortId) (q : Port) :
    (q.state ≠ .quiet ∧ q.waiting = [] ∧ 0 < freePlaces p q) ↔ Takes p q := by
  rw [room_iff]
  exact ⟨fun ⟨h1, h2, h3⟩ => ⟨h1, h2, h3⟩, fun ⟨h1, h2, h3⟩ => ⟨h1, h2, h3⟩⟩

theorem forward_of_takes {p : PortId} {f : Frame} {s : State} (h : Takes p (s.port p)) :
    forward p f s = s.mapPort p fun q => { q.enqueue f .forwarded with runOpen := false } :=
  if_pos ((takes_iff _ _).mpr h)

theorem forward_of_full {p : PortId} {f : Frame} {s : State} (h : ¬ Takes p (s.port p)) :
    forward p f s = overflowDrop p s := if_neg fun hk => h ((takes_iff _ _).mp hk)

theorem issue_of_takes {p : PortId} {q : Port} {f : Frame} (h : Takes p q) : q.issue p f = q.enqueue f .own :=
  if_pos ((takes_iff _ _).mpr h)

theorem issue_of_full {p : PortId} {q : Port} {f : Frame} (h : ¬ Takes p q) :
    q.issue p f = if f.type = typeAcceptSet ∧ q.waiting.any (fun g => g.type == typeAcceptSet) then
      { q with waiting := replacePending f q.waiting } else { q with waiting := q.waiting ++ [f] } :=
  if_neg fun hk => h ((takes_iff _ _).mp hk)

theorem replacePending_first {f x : Frame} {before after : List Frame} (hx : x.type = typeAcceptSet)
    (h : ∀ y ∈ before, y.type ≠ typeAcceptSet) : replacePending f (before ++ x :: after) = before ++ f :: after := by
  induction before with
  | nil => simp [replacePending, hx]
  | cons y before ih =>
    obtain ⟨hy, hrest⟩ := List.forall_mem_cons.mp h
    simp [replacePending, hy, ih hrest]

/-- As many pending sends enter as find a place, oldest first (R152). -/
theorem fill_eq (p : PortId) (fs : List Frame) (q : Port) :
    ∃ k ≤ fs.length,
      fill p fs q = { q with tx := q.tx ++ (fs.take k).map fun f => { frame := f, kind := .own }
                             waiting := fs.drop k } ∧
      (q.state = .quiet → k = 0) ∧
      (∀ j < k, Room p (q.tx ++ (fs.take j).map fun f => { frame := f, kind := .own })) ∧
      (q.state ≠ .quiet → k < fs.length → ¬ Room p (q.tx ++ (fs.take k).map fun f => { frame := f, kind := .own })) := by
  induction fs generalizing q with
  | nil => exact ⟨0, le_rfl, by simp [fill], fun _ => rfl, by simp, fun _ h => absurd h (Nat.lt_irrefl _)⟩
  | cons f fs ih =>
    by_cases h : q.state ≠ .quiet ∧ Room p q.tx
    · obtain ⟨k, hk, heq, hquiet, hroom, hfull⟩ := ih (q.enqueue f .own)
      have hstep : fill p (f :: fs) q = fill p fs (q.enqueue f .own) := if_pos ⟨h.1, (room_iff p q).mpr h.2⟩
      refine ⟨k + 1, Nat.succ_le_succ hk, ?_, fun hq => absurd hq h.1, fun j hj => ?_, fun hq hl => ?_⟩
      · rw [hstep, heq]
        simp [Port.enqueue]
      · cases j with
        | zero => simpa using h.2
        | succ j => simpa [Port.enqueue] using hroom j (by omega)
      · simpa [Port.enqueue] using hfull hq (by simpa using hl)
    · have hstep : fill p (f :: fs) q = { q with waiting := f :: fs } :=
        if_neg fun hk => h ⟨hk.1, (room_iff p q).mp hk.2⟩
      refine ⟨0, Nat.zero_le _, ?_, fun _ => rfl, by simp, fun hq _ hroom => h ⟨hq, by simpa using hroom⟩⟩
      rw [hstep]
      simp

/-! ## Replies and the request hold (R150) -/

theorem reply_of_room {dest type : Byte} {st : Status} {data : List Byte} {k : TxKind} {s : State}
    (hq : (s.port 0).state ≠ .quiet) (h : (s.port 0).tx.length < 6) :
    reply dest type st data k s = s.mapPort 0 fun q => q.enqueue { dest := dest, src := s.link.ownNode, type := 0x33
                                                                   payload := type :: statusByte st :: data } k := by
  have hyield : (s.port 0).yieldPlace = s.port 0 := if_pos h
  unfold reply
  rw [if_neg hq]
  simp only [State.mapPort, State.mapLink]
  rw [show s.link.ports[(0 : PortId)].yieldPlace = s.link.ports[(0 : PortId)] from hyield]

theorem yieldPlace_of_own {q : Port} {before : List TxFrame} {f : Frame} (hq : q.tx = before ++ [{ frame := f, kind := .own }])
    (h : 6 ≤ q.tx.length) : q.yieldPlace = { q with tx := before, waiting := putBack f q.waiting } := by
  unfold Port.yieldPlace
  rw [if_neg (by omega), hq]
  simp

theorem putBack_of_none {f : Frame} {l : List Frame} (h : f.type = typeAcceptSet → ∀ x ∈ l, x.type ≠ typeAcceptSet) :
    putBack f l = f :: l := by
  unfold putBack
  split
  · rename_i hf
    have hnone : l.find? (fun g => g.type == typeAcceptSet) = none := by
      rw [List.find?_eq_none]
      intro x hx
      simpa using h hf x hx
    rw [hnone]
  · rfl

/-! ## Events into U's queue (R153, R183) -/

theorem twoFree_iff (q : Port) :
    2 ≤ generalFree q ↔ q.tx.length ≤ 4 ∧ (q.tx.filter fun x => !x.kind.isReply).length ≤ 3 := by
  unfold generalFree
  omega

theorem pump_of_kept {s : State} (h : s.events.queue = [] ∨ ¬ ((s.port 0).state ≠ .quiet ∧ 2 ≤ generalFree (s.port 0))) :
    pump s = s := by
  have hdrain : drain s.link.ownNode (controllerNode s.link) s.events.queue s.events.lost (s.port 0) =
      (s.events.queue, s.events.lost, s.port 0) := by
    cases hq : s.events.queue with
    | nil => rfl
    | cons e es =>
      have hno := h.resolve_left (by rw [hq]; simp)
      exact if_neg hno
  have hports : s.link.ports.set 0 (s.port 0) = s.link.ports := set_port_self s (by decide)
  unfold pump
  simp only [hdrain, State.mapEvents, State.mapPort, State.mapLink]
  show { s with link := { s.link with ports := s.link.ports.set 0 (s.port 0) } } = s
  rw [hports]

theorem pump_of_event {s : State} {e : Event} {es : List Event} (hq : s.events.queue = e :: es)
    (h : (s.port 0).state ≠ .quiet ∧ 2 ≤ generalFree (s.port 0)) :
    pump s = pump ((s.mapEvents fun _ => { queue := es, lost := 0 }).mapPort 0 fun q =>
      q.enqueue (eventFrame s.link.ownNode (controllerNode s.link) e s.events.lost) .event) := by
  have hdrain : drain s.link.ownNode (controllerNode s.link) s.events.queue s.events.lost (s.port 0) =
      drain s.link.ownNode (controllerNode s.link) es 0
        ((s.port 0).enqueue (eventFrame s.link.ownNode (controllerNode s.link) e s.events.lost) .event) := by
    rw [hq]
    exact if_pos h
  conv_lhs => unfold pump
  rw [hdrain]
  unfold pump
  rw [State.port_mapPort_self]
  simp only [State.mapPort, State.mapLink, State.mapEvents, Vector.set_set]
  rfl

/-- Settles O51. -/
theorem transmitQueuesAndEvents : Obligations.TransmitQueuesAndEvents := by
  refine ⟨fun s p f hs => ?_, fun s => ?_⟩
  · intro q with_ isReply room places drops dropped own
    have hroom (l : List TxFrame) : room l ↔ Room p l := by
      simp only [room, isReply, isReply_eq]
      exact ⟨fun ⟨h1, h2⟩ => ⟨h1, h2⟩, fun ⟨h1, h2⟩ => ⟨h1, h2⟩⟩
    have hplaces : places ↔ Takes p q :=
      ⟨fun ⟨h1, h2, h3⟩ => ⟨h1, h2, (hroom _).mp h3⟩, fun ⟨h1, h2, h3⟩ => ⟨h1, h2, (hroom _).mpr h3⟩⟩
    have hport (x : Port) : (with_ x).port p = x := Vector.getElem_set_self _
    have hfull (h : ¬ places) : forward p f s = overflowDrop p s := forward_of_full fun hk => h (hplaces.mpr hk)
    refine ⟨fun h => forward_of_takes (hplaces.mp h), fun h hr => ?_, fun h hr => ?_, fun role type payload => ⟨fun hn => ?_,
      fun n hn hp => ?_⟩, fun h => ?_, fun x rest htx => ⟨fun hk hr => ?_, fun hk => ?_⟩⟩
    · rw [hfull h, overflowDrop]
      exact if_pos hr
    · rw [hfull h, overflowDrop]
      have hnot : ¬ (s.port p).runOpen = true := by
        rw [show (s.port p).runOpen = false from hr]
        decide
      have hcount : ((s.mapPort p fun q => { q with overflow := saturate 255 q.overflow, runOpen := true }).port p).overflow
          = drops := congrArg Port.overflow (hport { q with overflow := drops, runOpen := true })
      simp only [if_neg hnot, hcount]
      exact ⟨_, becomes_raised _ _ _ _, rfl⟩
    · rw [sendOwn, hn]
    · subst hp
      intro g
      have hsend : sendOwn role type payload s = with_ (q.issue n.port g) := by
        rw [sendOwn, hn]
        rfl
      have hissue (h : ¬ places) := (@issue_of_full _ _ g) fun hk => h (hplaces.mpr hk)
      refine ⟨fun h => ?_, fun h ha => ?_, fun before x after h ht hw hx hb => ?_⟩
      · rw [hsend, issue_of_takes (hplaces.mp h)]
        rfl
      · rw [hsend, hissue h, if_neg]
        rintro ⟨ht, hany⟩
        obtain ⟨y, hy, hty⟩ := List.any_eq_true.mp hany
        exact ha ht y hy (eq_of_beq hty)
      · rw [hsend, hissue h, if_pos, hw, replacePending_first hx hb]
        refine ⟨ht, List.any_eq_true.mpr ⟨x, ?_, beq_iff_eq.mpr hx⟩⟩
        rw [hw]
        simp
    · have hexec : exec (.frameSent p) s = act s (pump s) := by
        simp only [exec, execFrameSent, frameSent]
        rw [show (s.port p).tx = [] from h]
      rw [hexec]
      exact act_silent hs s
    · have hexec : exec (.frameSent p) s = act s (warmRestart (with_ { q with tx := rest })) := by
        simp only [exec, execFrameSent, frameSent]
        rw [show (s.port p).tx = x :: rest from htx]
        exact congrArg (act s) (if_pos ⟨hk, hr⟩)
      rw [hexec]
      exact act_of_high hs _
    · obtain ⟨k, hle, heq, hquiet, hbefore, hafter⟩ := fill_eq p q.waiting { q with tx := rest }
      refine ⟨k, hle, ?_⟩
      intro sent u
      refine ⟨hquiet, fun j hj => (hroom _).mpr (hbefore j hj), fun hq hl => fun hr => hafter hq hl ((hroom _).mp hr), ?_⟩
      have hfilled : (s.mapPort p fun q => { q with tx := rest }).mapPort p (fun q => q.fillPending p) = u := by
        rw [mapPort_mapPort]
        show with_ (fill p q.waiting { q with tx := rest }) = u
        rw [heq]
      have hexec : exec (.frameSent p) s = act s (pump (if p = 0 then takeHeld u else u)) := by
        simp only [exec, execFrameSent, frameSent]
        rw [show (s.port p).tx = x :: rest from htx]
        simp only [hfilled]
        refine congrArg (act s) (if_neg ?_)
        rintro ⟨hk', hr⟩
        rcases hk with hk | hk
        · exact hk hk'
        · exact absurd (hr.symm.trans hk) (by decide)
      rw [hexec]
      exact act_of_high hs _
  · intro q isReply two
    have htwo : two ↔ 2 ≤ generalFree q := by
      rw [twoFree_iff]
      simp only [two, isReply, isReply_eq]
    refine ⟨fun src type status data kind hq => ?_, fun h => ?_, fun h hh hp => ?_, fun h => pump_of_kept ?_,
      fun e es he hq ht => ?_, fun code subject value => ?_⟩
    · intro answer with_
      refine ⟨fun hl => reply_of_room hq hl, fun before f htx hl ha => ?_⟩
      have hyield := yieldPlace_of_own htx hl
      rw [putBack_of_none ha] at hyield
      unfold reply
      rw [if_neg hq]
      show with_ (q.yieldPlace.enqueue _ kind) = _
      rw [hyield]
      rfl
    · unfold takeHeld
      rcases h with h | h
      · rw [h]
      · cases s.link.hold with
        | none => rfl
        | some x =>
          simp only [h]
          rfl
    · unfold takeHeld
      rw [hh]
      exact if_pos hp
    · rcases h with h | h | h
      · exact .inl h
      · exact .inr fun hk => hk.1 h
      · exact .inr fun hk => h (htwo.mpr hk.2)
    · rw [pump_of_event he ⟨hq, htwo.mp ht⟩]
      rfl
    · intro e
      refine ⟨fun h => ?_, fun h => ?_⟩
      · have hplaced : s.events.place e = { s.events with queue := s.events.queue ++ [e] } := if_neg (Nat.not_le.mpr h)
        rw [← hplaced]
        rfl
      · have hplaced : s.events.place e = { s.events with lost := min 255 (s.events.lost + 1) } := if_pos h
        rw [← hplaced]
        rfl

end Sys2Proof.Machine
end

section
/-! PROOFS. Service requests as a whole (section 10.1): taken, held or dropped, and answered once. -/

namespace Sys2Proof.Machine

/-! ## What an answer may be -/

/-- The state of a request's answer is the one before unless it is DONE, and it is a REPLY. -/
structure Answer.Plain (s : State) (a : Answer) : Prop where
  state : a.status ≠ .done → a.state = s
  kind : a.kind = .reply ∨ a.kind = .restartReply

@[simp] theorem same_plain (st : Status) (data : List Byte) (s : State) :
    Answer.Plain s { state := s, status := st, data := data, kind := .reply } := ⟨fun _ => rfl, .inl rfl⟩

@[simp] theorem refused_plain (st : Status) (s : State) : (refused st s).Plain s := same_plain st [] s

@[simp] theorem done_plain (data : List Byte) (s t : State) : (done data t).Plain s := ⟨fun h => absurd rfl h, .inl rfl⟩

@[simp] theorem modeDone_plain (s t : State) : (modeDone t).Plain s := done_plain _ s t

@[simp] theorem written_plain (table index : Byte) (new : Option State) (s : State) : (written table index new s).Plain s := by
  unfold written
  split <;> simp

@[simp] theorem writeSelection_plain (i : Byte) (e : SelectionEntry) (s : State) : (writeSelection i e s).Plain s := by
  unfold writeSelection
  (repeat' split) <;> simp

@[simp] theorem writeCoin_plain (i : Byte) (v : Half) (p t : Byte) (s : State) : (writeCoin i v p t s).Plain s := by
  unfold writeCoin
  (repeat' split) <;> simp

@[simp] theorem writeNote_plain (i : Byte) (v : Half) (e c : Byte) (s : State) : (writeNote i v e c s).Plain s := by
  unfold writeNote
  (repeat' split) <;> simp

@[simp] theorem writeTube_plain (i k c f : Byte) (s : State) : (writeTube i k c f s).Plain s := by
  unfold writeTube
  (repeat' split) <;> simp

@[simp] theorem writeNode_plain (i v n p r : Byte) (s : State) : (writeNode i v n p r s).Plain s := by
  unfold writeNode
  (repeat' split) <;> simp

@[simp] theorem writeDisposition_plain (i e t p d a : Byte) (s : State) : (writeDisposition i e t p d a s).Plain s := written_plain _ _ _ s

@[simp] theorem writeFaultClass_plain (i c : Byte) (s : State) : (writeFaultClass i c s).Plain s := written_plain _ _ _ s

@[simp] theorem writeCreditSettings_plain (i : Byte) (l : Half) (m : Byte) (s : State) : (writeCreditSettings i l m s).Plain s := written_plain _ _ _ s

@[simp] theorem writeChangeSettings_plain (i a : Byte) (c : Half) (s : State) : (writeChangeSettings i a c s).Plain s := written_plain _ _ _ s

@[simp] theorem writeSupply_plain (i b m st r h : Byte) (s : State) : (writeSupply i b m st r h s).Plain s := by
  unfold writeSupply
  (repeat' split) <;> simp

@[simp] theorem writeDrive_plain (i : Byte) (t m : Half) (f n : Byte) (s : State) : (writeDrive i t m f n s).Plain s := by
  unfold writeDrive
  (repeat' split) <;> simp

@[simp] theorem writeZone_plain (i : Byte) (p : Half) (d : Byte) (s : State) : (writeZone i p d s).Plain s := written_plain _ _ _ s

@[simp] theorem writeRefrigeration_plain (i a b h : Byte) (t : Half) (s : State) : (writeRefrigeration i a b h t s).Plain s := written_plain _ _ _ s

@[simp] theorem writeHold_plain (i e : Byte) (l d : Half) (s : State) : (writeHold i e l d s).Plain s := written_plain _ _ _ s

@[simp] theorem writeEconomy_plain (i m : Byte) (d e : Half) (l o : Byte) (s : State) : (writeEconomy i m d e l o s).Plain s := written_plain _ _ _ s

@[simp] theorem writeSchedule_plain (i e d : Byte) (a b : Half) (s : State) : (writeSchedule i e d a b s).Plain s := written_plain _ _ _ s

@[simp] theorem tableRead_plain (t i : Byte) (s : State) : (tableRead t i s).Plain s := by
  unfold tableRead
  (repeat' split) <;> simp

@[simp] theorem recordRead_plain (r b : Byte) (s : State) : (recordRead r b s).Plain s := by
  unfold recordRead
  (repeat' split) <;> simp

@[simp] theorem modeChecked_plain (n : SalesState) (s : State) : (modeChecked n s).Plain s := by
  unfold modeChecked
  (repeat' split) <;> simp

@[simp] theorem modeService_plain (s : State) : (modeService s).Plain s := by
  unfold modeService
  (repeat' split) <;> simp

@[simp] theorem modeSelling_plain (s : State) : (modeSelling s).Plain s := by
  unfold modeSelling
  (repeat' split) <;> simp

@[simp] theorem modeSet_plain (t : Byte) (s : State) : (modeSet t s).Plain s := by
  unfold modeSet
  (repeat' split) <;> simp

@[simp] theorem setTube_plain (t n : Byte) (s : State) : (setTube t n s).Plain s := by
  unfold setTube
  (repeat' split) <;> simp

@[simp] theorem dispense_plain (t n : Byte) (s : State) : (dispense t n s).Plain s := by
  unfold dispense
  (repeat' split) <;> simp

@[simp] theorem clearCredit_plain (s : State) : (clearCredit s).Plain s := by
  unfold clearCredit
  (repeat' split) <;> simp

@[simp] theorem releaseSale_plain (z : Byte) (s : State) : (releaseSale z s).Plain s := by
  unfold releaseSale
  split
  · simp
  · simp only []
    (repeat' split) <;> simp

@[simp] theorem clearFault_plain (i : Byte) (s : State) : (clearFault i s).Plain s := by
  unfold clearFault
  (repeat' split) <;> simp

@[simp] theorem clearSettle_plain (t : Byte) (s : State) : (clearSettle t s).Plain s := by
  unfold clearSettle
  (repeat' split) <;> simp

@[simp] theorem setTime_plain (n : Word) (s : State) : (setTime n s).Plain s := by
  unfold setTime
  (repeat' split) <;> simp

@[simp] theorem portRestart_plain (p : Byte) (s : State) : (portRestart p s).Plain s := by
  unfold portRestart
  (repeat' split) <;> simp

@[simp] theorem defrostNow_plain (s : State) : (defrostNow s).Plain s := by
  unfold defrostNow
  (repeat' split) <;> simp

@[simp] theorem restartAsked_plain (s : State) : (restartAsked s).Plain s := by
  unfold restartAsked
  split
  · simp
  · exact ⟨fun h => absurd rfl h, .inr rfl⟩

@[simp] theorem tableWrite_plain (table : Byte) (rest : List Byte) (s : State) : (tableWrite table rest s).Plain s := by
  unfold tableWrite
  split <;> simp

theorem serve_plain {type : Byte} (payload : List Byte) (s : State) (h : isService type = true) :
    (serve type payload s).Plain s :=
  (@serve_cases (·.Plain s)) h (by simp) (by simp) (by simp) (by simp) (by simp) (by simp) (by simp) (by simp) (by simp)
    (by simp) (by simp) (done_plain _ s _) (by simp) (by simp) (by simp) (by simp)

theorem fitted_length (data : List Byte) : (fitted data).length ≤ 38 := by
  unfold fitted
  split
  · assumption
  · simp

/-! ## Taking, holding, dropping (R150) -/

/-- Every request row and CANCEL is the frame it stands for. -/
theorem exec_of_request {c : Instr} {s : State} {src type : Byte} {payload : List Byte}
    (h : requestOf c = some (src, type, payload)) : exec c s = act s (pump (fromController src type payload s)) := by
  cases c <;> cases h <;> rfl

theorem isService_of_request {c : Instr} {src type : Byte} {payload : List Byte}
    (h : requestOf c = some (src, type, payload)) (hc : type ≠ 0x21) : isService type = true := by
  cases c <;> cases h <;> first | exact absurd rfl hc | decide

theorem fromController_of_quiet {s : State} {src type : Byte} {payload : List Byte} (h : (s.port 0).state = .quiet) :
    fromController src type payload s = s := if_pos h

theorem fromController_of_taken {s : State} {src type : Byte} {payload : List Byte} (h : (s.port 0).state ≠ .quiet)
    (hl : (s.port 0).tx.length < 6) : fromController src type payload s =
      takeRequest { dest := s.link.ownNode, src := src, type := type, payload := payload } s := by
  rw [fromController, if_neg h, request, if_pos ((replyPlace_iff s).mpr ⟨h, hl⟩)]

theorem fromController_of_full {s : State} {src type : Byte} {payload : List Byte} (h : (s.port 0).state ≠ .quiet)
    (hl : 6 ≤ (s.port 0).tx.length) : fromController src type payload s =
      if s.link.hold.isNone then s.mapLink fun l => { l with hold := some (0,
        { dest := s.link.ownNode, src := src, type := type, payload := payload }) }
      else raise .requestDropped type (src.setWidth 32) s := by
  rw [fromController, if_neg h, request, if_neg]
  rw [replyPlace_iff]
  exact fun hk => absurd hk.2 (Nat.not_lt.mpr hl)

/-! ## Lengths (R165) -/

theorem tableWrite_of_misfit {table : Byte} {entry : List Byte} (s : State)
    (h : 17 ≤ table.toNat ∨ table.toNat = 11 ∨
      entry.length ≠ ([16, 5, 5, 4, 5, 6, 2, 4, 4, 6, 7, 0, 4, 6, 6, 8, 7] : List Nat).getD table.toNat 0) :
    tableWrite table entry s = refused .range s := by
  unfold tableWrite
  split
  all_goals first | (rename_i heq; rw [heq] at h; simp at h) | rfl

theorem serve_of_misfit {payload : List Byte} (s : State) (i : Fin 14)
    (h : payload.length ≠ ([2, 1, 2, 2, 2, 0, 1, 1, 1, 4, 0, 1, 0, 0] : List Nat).getD i 0) :
    serve (0x41 + byteOf i) payload s = refused .range s := by
  fin_cases i
  · match payload, h with
    | [_, _], h => exact absurd rfl h
    | [], _ | [_], _ | _ :: _ :: _ :: _, _ => rfl
  · match payload, h with
    | [_], h => exact absurd rfl h
    | [], _ | _ :: _ :: _, _ => rfl
  · match payload, h with
    | [_, _], h => exact absurd rfl h
    | [], _ | [_], _ | _ :: _ :: _ :: _, _ => rfl
  · match payload, h with
    | [_, _], h => exact absurd rfl h
    | [], _ | [_], _ | _ :: _ :: _ :: _, _ => rfl
  · match payload, h with
    | [_, _], h => exact absurd rfl h
    | [], _ | [_], _ | _ :: _ :: _ :: _, _ => rfl
  · match payload, h with
    | [], h => exact absurd rfl h
    | _ :: _, _ => rfl
  · match payload, h with
    | [_], h => exact absurd rfl h
    | [], _ | _ :: _ :: _, _ => rfl
  · match payload, h with
    | [_], h => exact absurd rfl h
    | [], _ | _ :: _ :: _, _ => rfl
  · match payload, h with
    | [_], h => exact absurd rfl h
    | [], _ | _ :: _ :: _, _ => rfl
  · match payload, h with
    | [_, _, _, _], h => exact absurd rfl h
    | [], _ | [_], _ | [_, _], _ | [_, _, _], _ | _ :: _ :: _ :: _ :: _ :: _, _ => rfl
  · match payload, h with
    | [], h => exact absurd rfl h
    | _ :: _, _ => rfl
  · match payload, h with
    | [_], h => exact absurd rfl h
    | [], _ | _ :: _ :: _, _ => rfl
  · match payload, h with
    | [], h => exact absurd rfl h
    | _ :: _, _ => rfl
  · match payload, h with
    | [], h => exact absurd rfl h
    | _ :: _, _ => rfl

/-- Settles O52. -/
theorem requestsHeldTakenAndAnswered : Obligations.RequestsHeldTakenAndAnswered := by
  refine ⟨fun c s src type payload hs hc => ?_, fun s src type payload i ht hl => ?_, fun s src table entry h => ?_⟩
  · intro f q held
    have hexec := (@exec_of_request _ s) hc
    refine ⟨fun h => ?_, fun h hl => ?_, fun h hl hh => ?_, fun h hl hh => ?_, fun h hl ht => ?_⟩
    · rw [hexec, fromController_of_quiet h]
      exact act_silent hs s
    · rw [hexec, fromController_of_taken h hl]
      exact act_of_high hs _
    · rw [hexec, fromController_of_full h hl, hh]
      exact act_silent hs held
    · have hnone : s.link.hold.isNone = false := by
        rw [← Bool.not_eq_true, Option.isNone_iff_eq_none]
        exact hh
      rw [hexec, fromController_of_full h hl, hnone]
      exact act_becomes hs (becomes_raised _ _ _ _)
    · have hservice := isService_of_request hc ht
      have hplain := serve_plain payload s hservice
      refine ⟨_, _, fitted (serve type payload s).data, _, hplain.state, fitted_length _, hplain.kind, ?_⟩
      rw [hexec, fromController_of_taken h hl, takeRequest, if_pos hservice]
      exact act_of_high hs _
  · have hserve : serve type payload s = refused .range s := by
      rw [ht]
      exact serve_of_misfit s i hl
    rw [takeService, hserve]
    rfl
  · have hserve : serve 0x40 (table :: entry) s = refused .range s :=
      tableWrite_of_misfit s (h.imp_right (Or.imp_left fun h => by rw [h]; rfl))
    rw [takeService, hserve]
    rfl

end Sys2Proof.Machine
end

section
/-! PROOFS. The fault list (chapter 9): where a report's record stands, what follows its report and the end of its
condition, FAULT-CLEAR, and the end of OVERFLOW. -/

namespace Sys2Proof.Machine

/-! ## Places (R169, R170) -/

theorem finRange_split {n : Nat} (i : Fin n) :
    ∃ before after, List.finRange n = before ++ i :: after ∧ (∀ j ∈ before, j < i) ∧ ∀ j ∈ after, i < j := by
  obtain ⟨before, after, h⟩ := List.append_of_mem (List.mem_finRange i)
  have hsorted := List.pairwise_lt_finRange n
  rw [h, List.pairwise_append, List.pairwise_cons] at hsorted
  exact ⟨before, after, h, fun j hj => hsorted.2.2 j hj i List.mem_cons_self, fun j hj => hsorted.2.1.1 j hj⟩

theorem find?_finRange_eq_some {n : Nat} {p : Fin n → Bool} {i : Fin n} (h : p i = true) (hfirst : ∀ j < i, p j = false) :
    (List.finRange n).find? p = some i := by
  obtain ⟨before, after, hsplit, hbefore, -⟩ := finRange_split i
  rw [hsplit, List.find?_append, List.find?_eq_none.mpr fun j hj => by rw [hfirst j (hbefore j hj)]; decide]
  simp [h]

theorem find?_finRange_eq_none {n : Nat} {p : Fin n → Bool} (h : ∀ i, p i = false) : (List.finRange n).find? p = none :=
  List.find?_eq_none.mpr fun i _ => by rw [h i]; decide

/-- The record at a place is of this kind and subject. -/
def HoldsFault (f : FaultList) (k : FaultKind) (n : Nat) (p : Fin 24) : Prop :=
  ∃ r, f.places[p] = some r ∧ r.kind = k ∧ r.subject = n

theorem holdsFault_iff (f : FaultList) (k : FaultKind) (n : Nat) (p : Fin 24) :
    (match f.places[p] with
      | none => false
      | some r => decide (r.kind = k) && decide (r.subject = n)) = true ↔ HoldsFault f k n p := by
  unfold HoldsFault
  cases f.places[p] <;> simp

theorem findPlace_of_first {f : FaultList} {k : FaultKind} {n : Nat} {p : Fin 24} (h : HoldsFault f k n p)
    (hfirst : ∀ o < p, ¬ HoldsFault f k n o) : findPlace k n f = some p :=
  find?_finRange_eq_some ((holdsFault_iff f k n p).mpr h)
    fun o ho => Bool.eq_false_iff.mpr (mt (holdsFault_iff f k n o).mp (hfirst o ho))

theorem findPlace_of_none {f : FaultList} {k : FaultKind} {n : Nat} (h : ∀ p, ¬ HoldsFault f k n p) :
    findPlace k n f = none :=
  find?_finRange_eq_none fun o => Bool.eq_false_iff.mpr (mt (holdsFault_iff f k n o).mp (h o))

theorem emptyPlace_of_first {f : FaultList} {p : Fin 24} (h : f.places[p] = none) (hfirst : ∀ o < p, f.places[o] ≠ none) :
    emptyPlace f = some p :=
  find?_finRange_eq_some (by rw [h]; rfl)
    fun o ho => by rw [← Bool.not_eq_true, Option.isNone_iff_eq_none]; exact hfirst o ho

theorem emptyPlace_of_full {f : FaultList} (h : ∀ o : Fin 24, f.places[o] ≠ none) : emptyPlace f = none :=
  find?_finRange_eq_none fun o => by rw [← Bool.not_eq_true, Option.isNone_iff_eq_none]; exact h o

theorem replaceable_iff {f : FaultList} {p : Fin 24} {r : FaultRecord} :
    replaceable p f = some r ↔ f.places[p] = some r ∧ classOf f r.kind = .note ∧ r.present = false := by
  unfold replaceable
  rw [Option.bind_eq_some_iff]
  constructor
  · rintro ⟨x, hx, h⟩
    split at h
    · cases h; exact ⟨hx, ‹_›⟩
    · cases h
  · rintro ⟨h, hc⟩
    exact ⟨r, h, if_pos hc⟩

/-- One place's turn in the search for the oldest replaceable record (R170). -/
def olderNote (f : FaultList) (best : Option (Fin 24 × Nat)) (p : Fin 24) : Option (Fin 24 × Nat) :=
  match replaceable p f, best with
  | none, _ => best
  | some r, none => some (p, r.storeOrder)
  | some r, some b => if r.storeOrder < b.2 then some (p, r.storeOrder) else best

theorem oldestNote_eq (f : FaultList) : oldestNote f = ((List.finRange 24).foldl (olderNote f) none).map (·.1) := rfl

/-- While every replaceable record met is younger than n, so is the best one. -/
theorem olderNote_younger {f : FaultList} {n : Nat} {l : List (Fin 24)}
    (h : ∀ p ∈ l, ∀ r, replaceable p f = some r → n < r.storeOrder) {best : Option (Fin 24 × Nat)}
    (hb : ∀ b, best = some b → n < b.2) : ∀ b, l.foldl (olderNote f) best = some b → n < b.2 := by
  induction l generalizing best with
  | nil => exact hb
  | cons p l ih =>
    refine ih (fun q hq => h q (List.mem_cons_of_mem p hq)) fun b hb' => ?_
    unfold olderNote at hb'
    split at hb'
    · exact hb b hb'
    · rename_i r hr
      cases hb'
      exact h p List.mem_cons_self r hr
    · rename_i r b' hr
      split at hb'
      · cases hb'
        exact h p List.mem_cons_self r hr
      · exact hb b hb'

/-- While no replaceable record met is older than n, the best one stays. -/
theorem olderNote_stays {f : FaultList} {n : Nat} {p : Fin 24} {l : List (Fin 24)}
    (h : ∀ q ∈ l, ∀ r, replaceable q f = some r → n ≤ r.storeOrder) :
    l.foldl (olderNote f) (some (p, n)) = some (p, n) := by
  induction l with
  | nil => rfl
  | cons q l ih =>
    have hstep : olderNote f (some (p, n)) q = some (p, n) := by
      unfold olderNote
      split
      · rfl
      · rename_i h'
        cases h'
      · rename_i r b hr hb
        cases hb
        exact if_neg (Nat.not_lt.mpr (h q List.mem_cons_self r hr))
    rw [List.foldl_cons, hstep]
    exact ih fun x hx => h x (List.mem_cons_of_mem q hx)

theorem oldestNote_of_oldest {f : FaultList} {p : Fin 24} {r : FaultRecord} (h : replaceable p f = some r)
    (hold : ∀ o x, replaceable o f = some x → r.storeOrder < x.storeOrder ∨ (r.storeOrder = x.storeOrder ∧ p ≤ o)) :
    oldestNote f = some p := by
  obtain ⟨before, after, hsplit, hbefore, hafter⟩ := finRange_split p
  have hyounger := @olderNote_younger f r.storeOrder before
    (fun o ho x hx => (hold o x hx).resolve_right fun hk => absurd (hbefore o ho) (not_lt.mpr hk.2))
    none (fun b hb => absurd hb (by simp))
  have hstep : olderNote f (before.foldl (olderNote f) none) p = some (p, r.storeOrder) := by
    generalize before.foldl (olderNote f) none = best at hyounger
    unfold olderNote
    rw [h]
    cases best with
    | none => rfl
    | some b => exact if_pos (hyounger b rfl)
  have hrest := (@olderNote_stays f r.storeOrder p after)
    fun o _ x hx => (hold o x hx).elim le_of_lt fun hk => hk.1.le
  rw [oldestNote_eq, hsplit, List.foldl_append, List.foldl_cons, hstep, hrest]
  rfl

theorem oldestNote_of_none {f : FaultList} (h : ∀ o x, replaceable o f ≠ some x) : oldestNote f = none := by
  have hnone (l : List (Fin 24)) : l.foldl (olderNote f) none = none := by
    induction l with
    | nil => rfl
    | cons p l ih =>
      have hstep : olderNote f none p = none := by
        unfold olderNote
        rw [Option.eq_none_iff_forall_ne_some.mpr (h p)]
      rw [List.foldl_cons, hstep, ih]
  rw [oldestNote_eq, hnone]
  rfl

/-! ## Reports (R168, R170, R171) -/

theorem report_of_repeat {k : FaultKind} {n : Nat} {s : State} {p : Fin 24} {r : FaultRecord}
    (hp : findPlace k n s.faults = some p) (hr : s.faults.places[p] = some r) : report k n s = repeatFault p r s := by
  unfold report
  simp only [hp, hr]

theorem report_of_stored {k : FaultKind} {n : Nat} {s : State} {p : Fin 24} (hf : findPlace k n s.faults = none)
    (hp : storePlace s.faults = some p) : report k n s = storeFault p k n s := by
  unfold report
  simp only [hf, hp]

theorem report_of_lost {k : FaultKind} {n : Nat} {s : State} (hf : findPlace k n s.faults = none)
    (hp : storePlace s.faults = none) : report k n s = loseFault k n s := by
  unfold report
  simp only [hf, hp]

theorem conditionEnded_of_none {k : FaultKind} {n : Nat} {s : State} (hf : findPlace k n s.faults = none) :
    conditionEnded k n s = s := by
  unfold conditionEnded
  simp only [hf]

theorem conditionEnded_of_some {k : FaultKind} {n : Nat} {s : State} {p : Fin 24} {r : FaultRecord}
    (hp : findPlace k n s.faults = some p) (hr : s.faults.places[p] = some r) :
    conditionEnded k n s = raise .faultEnded (byteOf p) (faultValue { r with present := false })
      (s.mapFaults fun f => { f with places := f.places.set p (some { r with present := false }) }) := by
  have hended : endPresent k n s.faults = { s.faults with
      places := s.faults.places.set p (some { r with present := false }) } := by
    unfold endPresent
    simp only [hp, hr, Option.map_some]
  unfold conditionEnded
  simp only [hp, hr, State.mapFaults, hended]

theorem lasting_eq (k : FaultKind) :
    k.lasting = decide (k = .dropBlocked ∨ k = .probeOpen ∨ k = .probeShort ∨ k = .portQuiet) := by
  cases k <;> rfl

theorem place_put (f : FaultList) (p o : Fin 24) (r : FaultRecord) :
    (f.put p r).places[o] = if p = o then some r else f.places[o] := by
  simp only [FaultList.put, Fin.getElem_fin, Vector.getElem_set]
  by_cases h : p = o
  · subst h; simp
  · simp [h, Fin.val_ne_of_ne h]

/-- A stored record isolates what its class and its item say. -/
theorem isolated_put_of_isolate {f : FaultList} {p : Fin 24} {r : FaultRecord} {i : Item}
    (hc : classOf f r.kind = .isolate) (hi : itemOf r.kind r.subject = some i) : isolated i (f.put p r) = true :=
  isolated_iff.mpr ⟨p, r, by rw [place_put, if_pos rfl], hc, hi⟩

/-- A stored record of another class begins no isolation. -/
theorem isolated_put_of_other {f : FaultList} {p : Fin 24} {r : FaultRecord} {i : Item} (hc : classOf f r.kind ≠ .isolate)
    (h : isolated i (f.put p r) = true) : isolated i f = true := by
  obtain ⟨o, x, hx, hxc, hxi⟩ := isolated_iff.mp h
  rw [place_put] at hx
  split at hx
  · cases hx
    exact absurd hxc hc
  · exact isolated_iff.mpr ⟨o, x, hx, hxc, hxi⟩

/-- The record of a report that is stored for the first time (R170). -/
def newFault (k : FaultKind) (subject : Nat) (s : State) : FaultRecord :=
  { kind := k, subject := subject, firstSeen := stamp s, count := 1, present := k.lasting,
    storeOrder := s.faults.nextOrder, reportOrder := s.faults.nextOrder }

/-- A new record at its place, with its event, before its owner is told. -/
def storedFault (p : Fin 24) (k : FaultKind) (subject : Nat) (s : State) : State :=
  raise .faultNew (byteOf p) (faultValue (newFault k subject s)) (s.mapFaults fun f => f.put p (newFault k subject s))

theorem storeFault_of_begins {p : Fin 24} {k : FaultKind} {n : Nat} {s : State} {i : Item} (hi : itemOf k n = some i)
    (hbefore : isolated i s.faults = false) (hput : isolated i (s.faults.put p (newFault k n s)) = true) :
    storeFault p k n s = suspendCheck (isolationBegins i (storedFault p k n s)) := by
  unfold storeFault
  simp only [hi]
  exact congrArg suspendCheck (if_pos ⟨hput, hbefore⟩)

theorem storeFault_of_kept {p : Fin 24} {k : FaultKind} {n : Nat} {s : State}
    (h : ∀ i, itemOf k n = some i → isolated i (s.faults.put p (newFault k n s)) = true → isolated i s.faults = true) :
    storeFault p k n s = suspendCheck (storedFault p k n s) := by
  unfold storeFault
  cases hi : itemOf k n with
  | none => rfl
  | some i => exact congrArg suspendCheck (if_neg fun hk => by simp [h i hi hk.1] at hk)

/-- Settles O56. -/
theorem faultReported : Obligations.FaultReported := by
  intro s k subject f holds put value lasting new cheap stored
  have hlasting : k.lasting = lasting := lasting_eq k
  have hreplaceable (p : Fin 24) (r : FaultRecord) : replaceable p f = some r ↔ cheap p r := replaceable_iff
  refine ⟨fun p r hr hp hfirst => ?_, fun hnone => ?_, fun t => rfl, fun n => rfl, rfl, fun z => rfl⟩
  · intro q ended
    have hfind : findPlace k subject s.faults = some p := findPlace_of_first hp hfirst
    obtain ⟨x, hx, hk, hsub⟩ := hp
    obtain rfl : r = x := Option.some.inj (hr.symm.trans hx)
    have hq : ({ r with count := saturate 255 r.count, present := r.present || r.kind.lasting,
                        reportOrder := s.faults.nextOrder } : FaultRecord) = q := by
      simp only [q, hk, hlasting]
      rfl
    have hvalue (c : Nat) (b : Bool) (n : Nat) : faultValue { r with count := c, present := b, reportOrder := n } =
        value { r with count := c, present := b, reportOrder := n } := by
      simp only [faultValue, packed, word, value, hk, hsub, yesNo]
    refine ⟨⟨_, becomes_raised _ _ _ _, ?_⟩, ⟨_, becomes_raised _ _ _ _, ?_⟩⟩
    · rw [report_of_repeat hfind hr, repeatFault, hq]
      simp only [q, hvalue]
      rfl
    · rw [conditionEnded_of_some hfind hr]
      exact congrArg (fun v => raise .faultEnded (byteOf p) v _) (hvalue r.count false r.reportOrder)
  · have hfind : findPlace k subject s.faults = none := findPlace_of_none hnone
    have hstored (p : Fin 24) (hp : storePlace s.faults = some p) : stored p := by
      have hnew : newFault k subject s = new := by
        simp only [new, newFault, hlasting]
        rfl
      refine ⟨_, becomes_raised _ _ _ _, fun i hi hc hno => ?_, fun hno => ?_⟩
      · rw [report_of_stored hfind hp, storeFault_of_begins hi hno]
        · rw [storedFault, hnew]
          rfl
        · exact isolated_put_of_isolate hc hi
      · rw [report_of_stored hfind hp, storeFault_of_kept]
        · rw [storedFault, hnew]
          rfl
        · intro i hi hput
          by_cases hc : classOf f k = .isolate
          · exact hno i hi hc
          · exact isolated_put_of_other hc hput
    refine ⟨conditionEnded_of_none hfind, fun p hp hfirst => hstored p ?_, fun p r hfull hr hold => hstored p ?_,
      fun hfull hno => ⟨_, becomes_raised _ _ _ _, ?_⟩⟩
    · rw [storePlace, emptyPlace_of_first hp hfirst]
      rfl
    · rw [storePlace, emptyPlace_of_full hfull, oldestNote_of_oldest ((hreplaceable p r).mpr hr)
        fun o x hx => hold o x ((hreplaceable o x).mp hx)]
      rfl
    · rw [report_of_lost hfind]
      · rfl
      · rw [storePlace, emptyPlace_of_full hfull, oldestNote_of_none fun o x hx => hno o x ((hreplaceable o x).mp hx)]
        rfl

/-! ## FAULT-CLEAR and the end of OVERFLOW (R172, R173) -/

/-- What R172 judges a condition by is as it was: the probes, the drop monitor and the ports' states. -/
structure SameConditions (s t : State) : Prop where
  probes : t.cooling.probes = s.cooling.probes
  monitor : t.drive.monitor = s.drive.monitor
  ports : ∀ p, (t.port p).state = (s.port p).state

theorem SameConditions.trans {s t u : State} (h : SameConditions s t) (k : SameConditions t u) : SameConditions s u :=
  ⟨k.probes.trans h.probes, k.monitor.trans h.monitor, fun p => (k.ports p).trans (h.ports p)⟩

theorem SameConditions.of_calm {s t : State} (h : Calm s t) (k : Enqueued s t) : SameConditions s t :=
  ⟨by rw [h.cooling], h.monitor, fun p => (k.ports p).state⟩

theorem report_sameConditions (k : FaultKind) (n : Nat) (s : State) : SameConditions s (report k n s) :=
  .of_calm (report_calm k n s) (report_enqueued k n s)

/-- A condition that is present is reported again when it has no record. -/
def againUnheld (s : State) (c : FaultKind × Nat) : State :=
  if (findPlace c.1 c.2 s.faults).isSome then s else report c.1 c.2 s

theorem againUnheld_sameConditions (s : State) (c : FaultKind × Nat) : SameConditions s (againUnheld s c) := by
  unfold againUnheld
  split
  · exact ⟨rfl, rfl, fun _ => rfl⟩
  · exact report_sameConditions _ _ _

theorem foldl_againUnheld_sameConditions (l : List (FaultKind × Nat)) (s : State) :
    SameConditions s (l.foldl againUnheld s) := by
  induction l generalizing s with
  | nil => exact ⟨rfl, rfl, fun _ => rfl⟩
  | cons c l ih => exact (againUnheld_sameConditions s c).trans (ih _)

theorem reportAgain_eq (k : FaultKind) (n : Nat) (b : Bool) (s : State) :
    reportAgain k n b s = if b then againUnheld s (k, n) else s := by
  unfold reportAgain againUnheld
  cases b
  · rfl
  · cases findPlace k n s.faults <;> rfl

/-- The condition of an owner's item that R172 has reported again. -/
def probeCondition (s : State) (i : Fin 3) : Option (FaultKind × Nat) :=
  match s.cooling.probes[i].state with
  | .faultedOpen => some (.probeOpen, i)
  | .faultedShort => some (.probeShort, i)
  | .noSample | .valid => none

def curtainCondition (s : State) : List (FaultKind × Nat) :=
  if s.drive.monitor = .blocked then [(.dropBlocked, 0)] else []

def portCondition (s : State) (p : PortId) : Option (FaultKind × Nat) :=
  if (s.port p).state = .quiet then some (.portQuiet, p.val) else none

theorem filterMap_portCondition (s : State) (l : List PortId) :
    l.filterMap (portCondition s) =
      (l.filter fun p => decide ((s.port p).state = .quiet)).map fun p => (FaultKind.portQuiet, p.val) := by
  induction l with
  | nil => rfl
  | cons p l ih => by_cases h : (s.port p).state = .quiet <;> simp [portCondition, h, ih]

theorem probeAgain_eq {s u : State} (h : SameConditions s u) (i : Fin 3) :
    probeAgain u i = (probeCondition s i).elim u (againUnheld u) := by
  unfold probeAgain probeCondition
  rw [h.probes]
  cases s.cooling.probes[i].state <;> simp [reportAgain_eq]

theorem portAgain_eq {s u : State} (h : SameConditions s u) (p : PortId) :
    reportAgain .portQuiet p (decide ((u.port p).state = .quiet)) u = (portCondition s p).elim u (againUnheld u) := by
  rw [reportAgain_eq, h.ports, portCondition]
  by_cases hq : (s.port p).state = .quiet <;> simp [hq]

/-- Owners that judge by the conditions of s report those that are present, in their order. -/
theorem foldl_conditions {α : Type} {s : State} {g : State → α → State} {cond : α → Option (FaultKind × Nat)}
    (h : ∀ u, SameConditions s u → ∀ a, g u a = (cond a).elim u (againUnheld u)) (l : List α) {u : State}
    (hu : SameConditions s u) : l.foldl g u = (l.filterMap cond).foldl againUnheld u := by
  induction l generalizing u with
  | nil => rfl
  | cons a l ih =>
    rw [List.foldl_cons, h u hu a]
    cases hc : cond a with
    | none =>
      rw [List.filterMap_cons_none hc]
      exact ih hu
    | some c =>
      rw [List.filterMap_cons_some hc]
      exact ih (hu.trans (againUnheld_sameConditions u c))

theorem endOverflow_eq (s : State) :
    endOverflow s = ((([0, 1, 2] : List (Fin 3)).filterMap (probeCondition s)) ++
        curtainCondition s ++
        (([0, 1, 2, 3] : List PortId).filterMap (portCondition s))).foldl againUnheld
      (suspendCheck (s.mapFaults fun f => { f with overflow := false })) := by
  have hnormal : Calm s (s.mapFaults fun f => { f with overflow := false }) := .of_same rfl rfl rfl rfl
  have hstart : SameConditions s (suspendCheck (s.mapFaults fun f => { f with overflow := false })) :=
    .of_calm (hnormal.trans (suspendCheck_calm _)) ((suspendCheck_enqueued _).before rfl)
  have hprobes := hstart.trans (foldl_againUnheld_sameConditions (([0, 1, 2] : List (Fin 3)).filterMap (probeCondition s)) _)
  have hcurtain (u : State) (hu : SameConditions s u) : reportAgain .dropBlocked 0 (decide (u.drive.monitor = .blocked)) u =
      (curtainCondition s).foldl againUnheld u := by
    rw [reportAgain_eq, hu.monitor, curtainCondition]
    by_cases hb : s.drive.monitor = .blocked <;> simp [hb]
  rw [List.foldl_append, List.foldl_append,
    ← foldl_conditions (fun u hu p => portAgain_eq hu p) _ (hprobes.trans (foldl_againUnheld_sameConditions _ _)),
    ← hcurtain _ hprobes, ← foldl_conditions (fun u hu i => probeAgain_eq hu i) _ hstart]
  rfl

/-- The state without the record at a place. -/
def withoutFault (p : Fin 24) (s : State) : State := s.mapFaults fun f => { f with places := f.places.set p none }

/-- A record that goes begins no isolation. -/
theorem isolated_of_withoutFault {i : Item} {p : Fin 24} {s : State} (h : isolated i (withoutFault p s).faults = true) :
    isolated i s.faults = true := by
  obtain ⟨o, x, hx, hc, hi⟩ := isolated_iff.mp h
  refine isolated_iff.mpr ⟨o, x, ?_, hc, hi⟩
  have hplace : (withoutFault p s).faults.places[o] = if p = o then none else s.faults.places[o] := by
    simp only [withoutFault, State.mapFaults, Fin.getElem_fin, Vector.getElem_set]
    by_cases hp : p = o
    · subst hp; simp
    · simp [hp, Fin.val_ne_of_ne hp]
  rw [hplace] at hx
  split at hx
  · cases hx
  · exact hx

theorem removeFault_eq (p : Fin 24) (r : FaultRecord) (s : State) :
    removeFault p r s =
      let u := (itemOf r.kind r.subject).elim (withoutFault p s) (rejudge s.faults (withoutFault p s))
      if s.faults.overflow then endOverflow (suspendCheck u) else suspendCheck u := by
  unfold removeFault
  cases itemOf r.kind r.subject <;> rfl

theorem rejudge_of_freed {p : Fin 24} {s : State} {i : Item} (h : isolated i s.faults = true)
    (hgone : isolated i (withoutFault p s).faults = false) :
    rejudge s.faults (withoutFault p s) i = isolationEnds i (withoutFault p s) := by
  unfold rejudge
  rw [h, hgone]

/-- But for the end of an isolation, the removal of a record tells an item's owner nothing. -/
theorem rejudge_of_kept {p : Fin 24} {s : State} {i : Item}
    (h : ¬ (isolated i s.faults = true ∧ isolated i (withoutFault p s).faults = false)) :
    rejudge s.faults (withoutFault p s) i = withoutFault p s := by
  unfold rejudge
  cases hgone : isolated i (withoutFault p s).faults with
  | true => rw [isolated_of_withoutFault hgone]
  | false =>
    cases hs : isolated i s.faults with
    | true => exact absurd ⟨hs, hgone⟩ h
    | false => rfl

theorem removeFault_of_freed {p : Fin 24} {r : FaultRecord} {s : State} {t : TubeId}
    (hi : itemOf r.kind r.subject = some (.tube t)) (h : isolated (.tube t) s.faults = true)
    (hgone : isolated (.tube t) (withoutFault p s).faults = false) :
    removeFault p r s = (if s.faults.overflow then endOverflow (suspendCheck (tubeChanged t (withoutFault p s)))
      else suspendCheck (tubeChanged t (withoutFault p s))) := by
  rw [removeFault_eq, hi, Option.elim_some, rejudge_of_freed h hgone]
  rfl

theorem removeFault_of_kept {p : Fin 24} {r : FaultRecord} {s : State}
    (h : ∀ t, ¬ (itemOf r.kind r.subject = some (.tube t) ∧ isolated (.tube t) s.faults = true ∧
      isolated (.tube t) (withoutFault p s).faults = false)) :
    removeFault p r s = (if s.faults.overflow then endOverflow (suspendCheck (withoutFault p s))
      else suspendCheck (withoutFault p s)) := by
  have hsame : (itemOf r.kind r.subject).elim (withoutFault p s) (rejudge s.faults (withoutFault p s)) = withoutFault p s := by
    cases hi : itemOf r.kind r.subject with
    | none => rfl
    | some i =>
      by_cases hk : isolated i s.faults = true ∧ isolated i (withoutFault p s).faults = false
      · cases i with
        | tube t => exact absurd ⟨hi, hk⟩ (h t)
        | motor n => exact rejudge_of_freed hk.1 hk.2
        | curtain => exact rejudge_of_freed hk.1 hk.2
        | airProbe z => exact rejudge_of_freed hk.1 hk.2
      · exact rejudge_of_kept hk
  rw [removeFault_eq, hsame]

/-- Settles O57. -/
theorem faultClearedAndOverflowEnds : Obligations.FaultClearedAndOverflowEnds := by
  constructor
  · intro s src index hs hp w
    have hserve : serve 0x48 [index] s = clearFault index s := rfl
    refine ⟨fun hbig => request_refused hs hp rfl ?_, fun p hindex => ?_⟩
    · rw [hserve, clearFault, readFin_eq_none.mpr hbig]
    subst hindex
    have hplace : readFin 24 (byteOf p) = some p := readFin_byteOf (by omega) p
    refine ⟨fun hempty => request_refused hs hp rfl ?_, fun r hr => ?_⟩
    · rw [hserve, clearFault, hplace]
      simp only [hempty]
    intro gone freed cleared kept answer
    refine ⟨fun hpresent => ?_, fun hpresent => ?_⟩
    · refine ((@request_answered _ _ _ _ { state := s, status := .notReady, data := kept, kind := .reply }) hs hp rfl ?_ rfl).trans ?_
      · rw [hserve, clearFault, hplace]
        simp only [hr, hpresent, if_true]
        rfl
      · rw [fitted_of_short (by simp [kept])]
    · have hdone : w = answer (removeFault p r s) := by
        refine request_done hs hp rfl ?_ (by simp [kept])
        rw [hserve, clearFault, hplace]
        simp only [hr, hpresent]
        rfl
      refine ⟨fun t ht => ?_, fun hnone => ?_⟩
      · obtain ⟨hi, hbefore, hafter⟩ := ht
        rw [hdone, removeFault_of_freed hi hbefore hafter]
        rfl
      · rw [hdone, removeFault_of_kept hnone]
        rfl
  · intro s probe curtain ports
    rw [endOverflow_eq]
    have hports : ([0, 1, 2, 3] : List PortId).filterMap (portCondition s) = ports := filterMap_portCondition s _
    rw [hports]
    rfl

end Sys2Proof.Machine
end

section
/-! PROOFS. The readers of written fields and the codes they invert (R160, R162, R165), and the writes of the sales
tables. -/

namespace Sys2Proof.Machine

/-! ## Readers and codes -/

/-- A byte reads as a value exactly when it is the value's code. -/
structure Inverts {α : Type} (read : Byte → Option α) (code : α → Byte) : Prop where
  code_of_read : ∀ {b x}, read b = some x → code x = b
  read_of_code : ∀ x, read (code x) = some x

theorem Inverts.iff {α : Type} {read : Byte → Option α} {code : α → Byte} (h : Inverts read code) {b : Byte} {x : α} :
    read b = some x ↔ code x = b :=
  ⟨h.code_of_read, fun hb => hb ▸ h.read_of_code x⟩

theorem Inverts.none {α : Type} {read : Byte → Option α} {code : α → Byte} (h : Inverts read code) {b : Byte}
    (hb : ∀ x, code x ≠ b) : read b = none :=
  Option.eq_none_iff_forall_ne_some.mpr fun x hx => hb x (h.code_of_read hx)

theorem byte_of_toNat {b : Byte} {n : Nat} (h : b.toNat = n) : BitVec.ofNat 8 n = b := by
  rw [← h, BitVec.ofNat_toNat, BitVec.setWidth_eq]

theorem readYesNo_inverts : Inverts readYesNo yesNo where
  code_of_read h := by
    unfold readYesNo at h
    split at h <;> cases h <;> exact byte_of_toNat ‹_›
  read_of_code x := by cases x <;> rfl

theorem readFirst_inverts : Inverts readFirst firstIf where
  code_of_read h := by
    unfold readFirst at h
    split at h <;> cases h <;> exact byte_of_toNat ‹_›
  read_of_code x := by cases x <;> rfl

theorem readPolicy_inverts : Inverts readPolicy Policy.code where
  code_of_read h := by
    unfold readPolicy at h
    split at h <;> cases h <;> exact byte_of_toNat ‹_›
  read_of_code x := by cases x <;> rfl

theorem readDriveKind_inverts : Inverts readDriveKind DriveKind.code where
  code_of_read h := by
    unfold readDriveKind at h
    split at h <;> cases h <;> exact byte_of_toNat ‹_›
  read_of_code x := by cases x <;> rfl

theorem readZone_inverts : Inverts readZone zoneCode where
  code_of_read h := by
    unfold readZone at h
    split at h <;> cases h <;> exact byte_of_toNat ‹_›
  read_of_code
    | none | some 0 | some 1 => rfl

theorem readVendMode_inverts : Inverts readVendMode VendMode.code where
  code_of_read h := by
    unfold readVendMode at h
    split at h <;> cases h <;> exact byte_of_toNat ‹_›
  read_of_code x := by cases x <;> rfl

theorem readForm_inverts : Inverts readForm TraceForm.code where
  code_of_read h := by
    unfold readForm at h
    split at h <;> cases h <;> exact byte_of_toNat ‹_›
  read_of_code x := by cases x <;> rfl

theorem readRole_inverts : Inverts readRole Role.code where
  code_of_read h := by
    unfold readRole at h
    split at h <;> cases h <;> exact byte_of_toNat ‹_›
  read_of_code x := by cases x <;> rfl

theorem readDest_inverts : Inverts readDest DestClass.code where
  code_of_read h := by
    unfold readDest at h
    split at h <;> cases h <;> exact byte_of_toNat ‹_›
  read_of_code x := by cases x <;> rfl

theorem readAction_inverts : Inverts readAction Action.code where
  code_of_read h := by
    unfold readAction at h
    split at h <;> cases h <;> exact byte_of_toNat ‹_›
  read_of_code x := by cases x <;> rfl

theorem readClass_inverts : Inverts readClass FaultClass.code where
  code_of_read h := by
    unfold readClass at h
    split at h <;> cases h <;> exact byte_of_toNat ‹_›
  read_of_code x := by cases x <;> rfl

theorem readFin_inverts {n : Nat} (hn : n ≤ 256) : Inverts (readFin n) fun i => byteOf i where
  code_of_read h := ((readFin_eq_some hn).mp h).symm
  read_of_code i := readFin_byteOf hn i

theorem byteOf_ne {n m : Nat} (hn : n < 256) (hm : m < 256) (h : n ≠ m) : byteOf n ≠ byteOf m := fun hb => by
  have hnat := congrArg BitVec.toNat hb
  rw [byteOf_toNat hn, byteOf_toNat hm] at hnat
  exact h hnat

/-- A field with one more value than the places of its table. -/
theorem readSpare_inverts {n m : Nat} (hn : n ≤ m) (hm : m < 256) :
    Inverts (fun b => if b = byteOf m then some none else (readFin n b).map some)
      fun x : Option (Fin n) => x.elim (byteOf m) fun i => byteOf i where
  code_of_read {b x} h := by
    split at h
    · cases h
      exact Eq.symm ‹_›
    · obtain ⟨i, hi, rfl⟩ := Option.map_eq_some_iff.mp h
      exact (readFin_inverts (by omega)).code_of_read hi
  read_of_code x := by
    cases x with
    | none => exact if_pos rfl
    | some i => rw [Option.elim_some, if_neg (byteOf_ne (by omega) hm (by omega)), readFin_byteOf (by omega)]; rfl

theorem readCoinTube_inverts : Inverts readCoinTube tubeCode := by
  have h := (@readSpare_inverts 6 6) (by omega) (by omega)
  refine ⟨fun {b x} hx => (h.code_of_read hx).symm ▸ ?_, fun x => ?_⟩
  · cases x <;> rfl
  · cases x with
    | none => exact h.read_of_code none
    | some i => exact h.read_of_code (some i)

theorem readAssigned_inverts : Inverts readAssigned assignedByte := by
  have h := (@readSpare_inverts 16 255) (by omega) (by omega)
  refine ⟨fun {b x} hx => (h.code_of_read hx).symm ▸ ?_, fun x => ?_⟩
  · cases x <;> rfl
  · cases x with
    | none => exact h.read_of_code none
    | some i => exact h.read_of_code (some i)

/-- A field whose high bits may not be set. -/
theorem readBits_inverts {n : Nat} (hn : n ≤ 8) :
    Inverts (fun b => if b.toNat < 2 ^ n then some (b.setWidth n) else none) fun x : BitVec n => x.setWidth 8 where
  code_of_read {b x} h := by
    split at h
    · rename_i hb
      cases h
      apply BitVec.eq_of_toNat_eq
      rw [BitVec.toNat_setWidth_of_le hn, BitVec.toNat_setWidth, Nat.mod_eq_of_lt hb]
    · cases h
  read_of_code x := by
    have hx : (x.setWidth 8).toNat = x.toNat := BitVec.toNat_setWidth_of_le hn
    rw [hx, if_pos x.isLt]
    exact congrArg some (by rw [BitVec.setWidth_setWidth_of_le _ hn, BitVec.setWidth_eq])

theorem readPorts_inverts : Inverts readPorts fun p => p.setWidth 8 := (@readBits_inverts 4) (by omega)

theorem readDays_inverts : Inverts readDays fun d => d.setWidth 8 := (@readBits_inverts 7) (by omega)

theorem readMask_inverts : Inverts readMask fun m => m.setWidth 8 := (@readBits_inverts 6) (by omega)

/-- Motor B of an entry, as the bytes of a write have it (R51, R52). -/
def MotorBReads (kind : DriveKind) (a : Motor) (row col : Byte) (m : Option (Fin 8)) : Prop :=
  if kind = .twinSpiral then ∃ c, m = some c ∧ byteOf c = col ∧ row = byteOf a.row ∧ c ≠ a.col else m = none

theorem readMotorB_eq_some {kind : DriveKind} {a : Motor} {row col : Byte} {m : Option (Fin 8)} :
    readMotorB kind a row col = some m ↔ MotorBReads kind a row col m := by
  unfold readMotorB MotorBReads
  cases kind with
  | spiral => simp [eq_comm]
  | timed => simp [eq_comm]
  | twinSpiral =>
    rw [if_pos rfl]
    constructor
    · intro h
      simp only [] at h
      split at h
      · rename_i r c hr hc
        split at h
        · rename_i hk
          cases h
          refine ⟨c, rfl, (readFin_inverts (by omega)).code_of_read hc, ?_, hk.2⟩
          rw [← hk.1]
          exact ((readFin_inverts (by omega)).code_of_read hr).symm
        · cases h
      · cases h
    · rintro ⟨c, rfl, rfl, rfl, hne⟩
      simp only [(@readFin_byteOf 10) (by omega), (@readFin_byteOf 8) (by omega)]
      simp [hne]

/-! ## The selection table (R52) -/

/-- The entry that the bytes of a write have, with the kept fields of the old one. -/
structure SelectionReads (e : SelectionEntry) (old x : Selection) : Prop where
  enabled : yesNo x.enabled = e.enabled
  price : x.price = e.price.toNat
  kind : x.kind.code = e.kind
  rowA : byteOf x.motorA.row = e.rowA
  colA : byteOf x.motorA.col = e.colA
  motorB : MotorBReads x.kind x.motorA e.rowB e.colB x.motorB
  turns : x.turns = e.turns.toNat ∧ 1 ≤ e.turns.toNat ∧ e.turns.toNat ≤ 3
  runTime : x.runTime = e.runTime.toNat ∧ 1 ≤ e.runTime.toNat ∧ e.runTime.toNat ≤ 100
  retries : x.retries = e.retries.toNat ∧ e.retries.toNat ≤ 2
  verify : firstIf x.verify = e.verify
  continuous : yesNo x.continuous = e.continuous
  trace : yesNo x.trace = e.trace
  zone : zoneCode x.zone = e.zone
  kept : x.empty = old.empty ∧ x.vendCount = old.vendCount ∧ x.failCount = old.failCount

theorem readSelection_eq_some {e : SelectionEntry} {old x : Selection} :
    readSelection e old = some x ↔ SelectionReads e old x := by
  unfold readSelection
  simp only [Option.bind_eq_bind, Option.bind_eq_some_iff]
  constructor
  · rintro ⟨en, hen, k, hk, r, hr, c, hc, m, hm, t, ht, rt, hrt, re, hre, v, hv, co, hco, tr, htr, z, hz, hx⟩
    cases hx
    obtain ⟨_, hre⟩ := readRange_eq_some.mp hre
    exact {
      enabled := readYesNo_inverts.code_of_read hen
      price := rfl
      kind := readDriveKind_inverts.code_of_read hk
      rowA := (readFin_inverts (by omega)).code_of_read hr
      colA := (readFin_inverts (by omega)).code_of_read hc
      motorB := readMotorB_eq_some.mp hm
      turns := readRange_eq_some.mp ht
      runTime := readRange_eq_some.mp hrt
      retries := ⟨‹_›, hre.2⟩
      verify := readFirst_inverts.code_of_read hv
      continuous := readYesNo_inverts.code_of_read hco
      trace := readYesNo_inverts.code_of_read htr
      zone := readZone_inverts.code_of_read hz
      kept := ⟨rfl, rfl, rfl⟩ }
  · intro h
    obtain ⟨hempty, hvend, hfail⟩ := h.kept
    refine ⟨x.enabled, readYesNo_inverts.iff.mpr h.enabled, x.kind, readDriveKind_inverts.iff.mpr h.kind,
      x.motorA.row, (readFin_inverts (by omega)).iff.mpr h.rowA, x.motorA.col, (readFin_inverts (by omega)).iff.mpr h.colA,
      x.motorB, readMotorB_eq_some.mpr h.motorB, x.turns, readRange_eq_some.mpr h.turns,
      x.runTime, readRange_eq_some.mpr h.runTime, x.retries, readRange_eq_some.mpr ⟨h.retries.1, by omega, h.retries.2⟩,
      x.verify, readFirst_inverts.iff.mpr h.verify, x.continuous, readYesNo_inverts.iff.mpr h.continuous,
      x.trace, readYesNo_inverts.iff.mpr h.trace, x.zone, readZone_inverts.iff.mpr h.zone, ?_⟩
    rw [← h.price, ← hempty, ← hvend, ← hfail]
    rfl

theorem restricted_of_selling {s : State} (h : ¬ (s.vend.sales = .offline ∨ s.vend.sales = .service)) : restricted s = true := by
  rw [← Bool.not_eq_false, restricted_iff]
  exact h

theorem writeSelection_of_mode {index : Byte} {e : SelectionEntry} {s : State} (h : restricted s = true) :
    writeSelection index e s = refused .mode s := if_pos h

theorem writeSelection_of_unread {index : Byte} {e : SelectionEntry} {s : State} (h : restricted s = false)
    (hn : 96 ≤ index.toNat ∨ ∀ old x, ¬ SelectionReads e old x) : writeSelection index e s = refused .range s := by
  unfold writeSelection
  rw [if_neg (by rw [h]; decide)]
  split
  · rfl
  · rename_i i hi
    split
    · rfl
    · rename_i x hx
      rcases hn with hn | hn
      · exact absurd (readFin_eq_none.mpr hn) (by simp [hi])
      · exact absurd (readSelection_eq_some.mp hx) (hn _ _)

theorem writeSelection_of_reads {i : Fin 96} {e : SelectionEntry} {s : State} {x : Selection} (h : restricted s = false)
    (hx : SelectionReads e s.vend.selections[i] x) : writeSelection (byteOf i) e s =
      if s.vend.queue.any fun q => q.driving && decide (q.selection = i) then refused .busy s
      else done [0x00, byteOf i] (s.mapSelection i fun _ => x) := by
  unfold writeSelection
  rw [if_neg (by rw [h]; decide)]
  simp only [(@readFin_byteOf 96) (by omega), readSelection_eq_some.mpr hx]

/-! ## Coin, note and tube tables (R5, R26, R27) -/

theorem writeCoin_of_mode {index policy tube : Byte} {value : Half} {s : State} (h : restricted s = true) :
    writeCoin index value policy tube s = refused .mode s := if_pos h

theorem writeCoin_of_unread {index policy tube : Byte} {value : Half} {s : State} (h : restricted s = false)
    (hn : 16 ≤ index.toNat ∨ ∀ x : CoinEntry, ¬ (x.value = value.toNat ∧ x.value ≤ 5000 ∧ x.policy.code = policy ∧
      tubeCode x.tube = tube)) : writeCoin index value policy tube s = refused .range s := by
  unfold writeCoin
  rw [if_neg (by rw [h]; decide)]
  split
  · rename_i i v p t hi hv hp ht
    obtain ⟨rfl, -, hv⟩ := readRange_eq_some.mp hv
    rcases hn with hn | hn
    · exact absurd (readFin_eq_none.mpr hn) (by simp [hi])
    · exact absurd ⟨rfl, hv, readPolicy_inverts.code_of_read hp, readCoinTube_inverts.code_of_read ht⟩ (hn ⟨value.toNat, p, t⟩)
  · rfl

theorem writeCoin_of_reads {i : Fin 16} {value : Half} {s : State} {x : CoinEntry} (h : restricted s = false)
    (hv : x.value = value.toNat) (hle : x.value ≤ 5000) : writeCoin (byteOf i) value x.policy.code (tubeCode x.tube) s =
      if s.coins.engine.phase ≠ .idle then refused .busy s
      else done [0x01, byteOf i] (recomputeAccept (evaluateAssurance (s.mapCoins fun c =>
        { c with table := c.table.set i x }))) := by
  unfold writeCoin
  rw [if_neg (by rw [h]; decide)]
  have hvalue : readRange 0 5000 value.toNat = some x.value := readRange_eq_some.mpr ⟨hv, Nat.zero_le _, hv ▸ hle⟩
  simp only [(@readFin_byteOf 16) (by omega), hvalue, readPolicy_inverts.read_of_code, readCoinTube_inverts.read_of_code]

theorem written_of_unread {table index : Byte} {new : Option State} {s : State} (h : ∀ t, new ≠ some t) :
    written table index new s = refused .range s := by
  rw [Option.eq_none_iff_forall_ne_some.mpr h]
  rfl

theorem writeNote_of_mode {index en test : Byte} {value : Half} {s : State} (h : restricted s = true) :
    writeNote index value en test s = refused .mode s := if_pos h

theorem writeNote_of_unread {index en test : Byte} {value : Half} {s : State} (h : restricted s = false)
    (hn : 8 ≤ index.toNat ∨ ∀ x : NoteEntry, ¬ (x.value = value.toNat ∧ x.value ≤ 60000 ∧ yesNo x.enabled = en ∧
      firstIf x.changeTest = test)) : writeNote index value en test s = refused .range s := by
  unfold writeNote
  rw [if_neg (by rw [h]; decide)]
  refine written_of_unread fun t ht => ?_
  simp only [Option.bind_eq_bind, Option.bind_eq_some_iff] at ht
  obtain ⟨i, hi, v, hv, e, he, c, hc, -⟩ := ht
  obtain ⟨rfl, -, hv⟩ := readRange_eq_some.mp hv
  rcases hn with hn | hn
  · exact absurd (readFin_eq_none.mpr hn) (by simp [hi])
  · exact hn ⟨value.toNat, e, c⟩ ⟨rfl, hv, readYesNo_inverts.code_of_read he, readFirst_inverts.code_of_read hc⟩

theorem writeNote_of_reads {i : Fin 8} {value : Half} {s : State} {x : NoteEntry} (h : restricted s = false)
    (hv : x.value = value.toNat) (hle : x.value ≤ 60000) : writeNote (byteOf i) value (yesNo x.enabled) (firstIf x.changeTest) s =
      done [0x02, byteOf i] (s.mapMoney fun m => { m with notes := m.notes.set i x }) := by
  unfold writeNote
  rw [if_neg (by rw [h]; decide)]
  have hvalue : readRange 0 60000 value.toNat = some x.value := readRange_eq_some.mpr ⟨hv, Nat.zero_le _, hv ▸ hle⟩
  simp only [(@readFin_byteOf 8) (by omega), hvalue, readYesNo_inverts.read_of_code, readFirst_inverts.read_of_code]
  rfl

/-- The configuration that the bytes of a write have, with the counts and the flap of the old one (R27). -/
structure TubeReads (k cap level : Byte) (old x : Tube) : Prop where
  cls : assignedByte x.cls = k
  capacity : x.capacity = cap.toNat ∧ 1 ≤ cap.toNat ∧ cap.toNat ≤ 250
  full : x.fullLevel = level.toNat ∧ 1 ≤ level.toNat ∧ level.toNat ≤ cap.toNat
  kept : x.count = old.count ∧ x.overfill = old.overfill ∧ x.flap = old.flap

theorem writeTube_of_mode {index cls capacity full : Byte} {s : State} (h : restricted s = true) :
    writeTube index cls capacity full s = refused .mode s := if_pos h

theorem writeTube_of_unread {index cls capacity full : Byte} {s : State} (h : restricted s = false)
    (hn : 6 ≤ index.toNat ∨ ∀ old x, ¬ TubeReads cls capacity full old x) :
    writeTube index cls capacity full s = refused .range s := by
  unfold writeTube
  rw [if_neg (by rw [h]; decide)]
  split
  · rename_i t k c f ht hk hc hf
    rcases hn with hn | hn
    · exact absurd (readFin_eq_none.mpr hn) (by simp [ht])
    · exact absurd ⟨readAssigned_inverts.code_of_read hk, readRange_eq_some.mp hc, readRange_eq_some.mp hf, rfl, rfl, rfl⟩
        (hn s.coins.tubes[t] { s.coins.tubes[t] with cls := k, capacity := c, fullLevel := f })
  · rfl

theorem writeTube_of_reads {i : TubeId} {cls capacity full : Byte} {s : State} {x : Tube} (h : restricted s = false)
    (hx : TubeReads cls capacity full s.coins.tubes[i] x) : writeTube (byteOf i) cls capacity full s =
      if s.coins.engine.phase ≠ .idle then refused .busy s
      else if x.capacity < x.count then refused .conflict s
      else done [0x03, byteOf i] (tubeChanged i (s.mapCoins fun c => { c with tubes := c.tubes.set i x })) := by
  obtain ⟨hcount, hover, hflap⟩ := hx.kept
  have hnew : { s.coins.tubes[i] with cls := x.cls, capacity := x.capacity, fullLevel := x.fullLevel } = x := by
    simp only [← hcount, ← hover, ← hflap]
  have hstate : (s.mapTube i fun y => { y with cls := x.cls, capacity := x.capacity, fullLevel := x.fullLevel }) =
      s.mapCoins fun c => { c with tubes := c.tubes.set i x } :=
    congrArg (fun y => s.mapCoins fun c => { c with tubes := c.tubes.set i y }) hnew
  unfold writeTube
  rw [if_neg (by rw [h]; decide)]
  simp only [(@readFin_byteOf 6) (by omega), readAssigned_inverts.iff.mpr hx.cls, readRange_eq_some.mpr hx.capacity,
    readRange_eq_some.mpr hx.full]
  rw [hstate, hcount]

/-- Settles O53. -/
theorem salesTableWrites : Obligations.SalesTableWrites := by
  intro s src index hs hp service sent busy
  have hopen (h : service) : restricted s = false := restricted_iff.mpr h
  have hclosed (h : ¬ service) : restricted s = true := restricted_of_selling h
  refine ⟨fun e => ?_, fun value policy tube => ?_, fun value enabled test => ?_, fun cls capacity full => ?_⟩
  · intro w motorB reads
    have hserve : serve 0x40 (0x00 :: index :: entryBytes e) s = writeSelection index e s := by
      show writeSelection index { e with price := half (hi8 e.price) (lo8 e.price) } s = _
      rw [half_bytes]
    have hmotorB {x : Selection} (h : byteOf x.motorA.row = e.rowA) :
        motorB x ↔ MotorBReads x.kind x.motorA e.rowB e.colB x.motorB := by
      unfold MotorBReads
      rw [h]
    have hreads {old x : Selection} : reads old x ↔ SelectionReads e old x := by
      constructor
      · rintro ⟨hen, hp, hk, hra, hca, hm, ht, ht1, ht2, hr, hr1, hr2, hre, hre2, hv, hc, htr, hz, hkept⟩
        exact ⟨hen, hp, hk, hra, hca, (hmotorB hra).mp hm, ⟨ht, ht ▸ ht1, ht ▸ ht2⟩, ⟨hr, hr ▸ hr1, hr ▸ hr2⟩,
          ⟨hre, hre ▸ hre2⟩, hv, hc, htr, hz, hkept⟩
      · rintro ⟨hen, hp, hk, hra, hca, hm, ⟨ht, ht1, ht2⟩, ⟨hr, hr1, hr2⟩, ⟨hre, hre2⟩, hv, hc, htr, hz, hkept⟩
        exact ⟨hen, hp, hk, hra, hca, (hmotorB hra).mpr hm, ht, ht ▸ ht1, ht ▸ ht2, hr, hr ▸ hr1, hr ▸ hr2, hre, hre ▸ hre2,
          hv, hc, htr, hz, hkept⟩
    refine ⟨fun h => request_refused hs hp rfl (hserve.trans (writeSelection_of_mode (hclosed h))),
      fun h hn => request_refused hs hp rfl (hserve.trans (writeSelection_of_unread (hopen h)
        (hn.imp_right fun hno old x hx => hno old x (hreads.mpr hx)))), ?_⟩
    rintro i x h rfl hx named
    have hwrite := hserve.trans (writeSelection_of_reads (hopen h) (hreads.mp hx))
    have hnamed : (s.vend.queue.any fun q => q.driving && decide (q.selection = i)) = true ↔ named := by
      simp [named]
    exact ⟨fun hb => request_refused hs hp rfl (hwrite.trans (if_pos (hnamed.mpr hb))),
      fun hb => request_done hs hp rfl (hwrite.trans (if_neg (mt hnamed.mp hb))) (by simp)⟩
  · intro w reads
    have hserve : serve 0x40 ([0x01, index] ++ bytes16 value ++ [policy, tube]) s = writeCoin index value policy tube s := by
      show writeCoin index (half (hi8 value) (lo8 value)) policy tube s = _
      rw [half_bytes]
    refine ⟨fun h => request_refused hs hp rfl (hserve.trans (writeCoin_of_mode (hclosed h))),
      fun h hn => request_refused hs hp rfl (hserve.trans (writeCoin_of_unread (hopen h) hn)), ?_⟩
    rintro i x h rfl ⟨hv, hle, rfl, rfl⟩
    have hwrite := hserve.trans ((@writeCoin_of_reads i) (hopen h) hv hle)
    exact ⟨fun hb => request_refused hs hp rfl (hwrite.trans (if_pos hb)),
      fun hb => request_done hs hp rfl (hwrite.trans (if_neg hb)) (by simp)⟩
  · intro w reads
    have hserve : serve 0x40 ([0x02, index] ++ bytes16 value ++ [enabled, test]) s = writeNote index value enabled test s := by
      show writeNote index (half (hi8 value) (lo8 value)) enabled test s = _
      rw [half_bytes]
    refine ⟨fun h => request_refused hs hp rfl (hserve.trans (writeNote_of_mode (hclosed h))),
      fun h hn => request_refused hs hp rfl (hserve.trans (writeNote_of_unread (hopen h) hn)), ?_⟩
    rintro i x h rfl ⟨hv, hle, rfl, rfl⟩
    exact request_done hs hp rfl (hserve.trans (writeNote_of_reads (hopen h) hv hle)) (by simp)
  · intro w reads
    have hserve : serve 0x40 [0x03, index, cls, capacity, full] s = writeTube index cls capacity full s := rfl
    have hreads {old x : Tube} : reads old x ↔ TubeReads cls capacity full old x := by
      constructor
      · rintro ⟨hcls, hc, hc1, hc2, hf, hf1, hf2, hkept⟩
        exact ⟨hcls, ⟨hc, hc ▸ hc1, hc ▸ hc2⟩, ⟨hf, hf ▸ hf1, by omega⟩, hkept⟩
      · rintro ⟨hcls, ⟨hc, hc1, hc2⟩, ⟨hf, hf1, hf2⟩, hkept⟩
        exact ⟨hcls, hc, hc ▸ hc1, hc ▸ hc2, hf, hf ▸ hf1, by omega, hkept⟩
    refine ⟨fun h => request_refused hs hp rfl (writeTube_of_mode (hclosed h)),
      fun h hn => request_refused hs hp rfl (writeTube_of_unread (hopen h)
        (hn.imp_right fun hno old x hx => hno old x (hreads.mpr hx))), ?_⟩
    rintro i x h rfl hx
    have hwrite := hserve.trans (writeTube_of_reads (hopen h) (hreads.mp hx))
    refine ⟨fun hb => request_refused hs hp rfl (hwrite.trans (if_pos hb)), fun hb hc => ?_, fun hb hc => ?_⟩
    · exact request_refused hs hp rfl (hwrite.trans ((if_neg hb).trans (if_pos hc)))
    · exact request_done hs hp rfl (hwrite.trans ((if_neg hb).trans (if_neg (Nat.not_lt.mpr hc)))) (by simp)

end Sys2Proof.Machine
end

section
/-! PROOFS. The writes of the link tables, the fault dispositions and the settings (R48, R86, R154, R156, R167), and
what a class write leaves of the vend queue. -/

namespace Sys2Proof.Machine

/-! ## The vend queue while isolations are judged (R65, R168) -/

/-- What is WAITING in t was WAITING in s, and the selections are as they were. -/
structure FewerWaiting (s t : State) : Prop where
  selections : t.vend.selections = s.vend.selections
  waiting : ∀ e ∈ t.vend.queue, e.driving = false → e ∈ s.vend.queue

/-- The judgement of an item's isolation: nothing that STOP is judged by changes. -/
structure ItemJudged (s t : State) : Prop where
  fewer : FewerWaiting s t
  faults : t.faults = s.faults
  door : t.vend.doorOpen = s.vend.doorOpen
  sales : t.vend.sales = s.vend.sales

theorem FewerWaiting.of_vend {s t : State} (h : t.vend = s.vend) : FewerWaiting s t :=
  ⟨by rw [h], fun e he _ => by rwa [h] at he⟩

theorem FewerWaiting.trans {s t u : State} (h : FewerWaiting s t) (k : FewerWaiting t u) : FewerWaiting s u :=
  ⟨k.selections.trans h.selections, fun e he hd => h.waiting e (k.waiting e he hd) hd⟩

theorem ItemJudged.refl (s : State) : ItemJudged s s := ⟨.of_vend rfl, rfl, rfl, rfl⟩

theorem ItemJudged.trans {s t u : State} (h : ItemJudged s t) (k : ItemJudged t u) : ItemJudged s u :=
  ⟨h.fewer.trans k.fewer, k.faults.trans h.faults, k.door.trans h.door, k.sales.trans h.sales⟩

theorem startHead_fewerWaiting (s : State) : FewerWaiting s (startHead s) := by
  obtain ⟨q, hq⟩ := startHead_vend s
  refine ⟨by rw [hq], fun e he hd => ?_⟩
  rcases startHead_queue s with h | ⟨x, xs, hx, h⟩
  · rwa [h] at he
  · rw [h] at he
    rcases List.mem_cons.mp he with rfl | he
    · cases hd
    · rw [hx]
      exact List.mem_cons_of_mem x he

theorem cancelWhere_itemJudged (p : Entry → Bool) (c : CancelCause) (s : State) : ItemJudged s (cancelWhere p c s) := by
  by_cases hv : victims p s = []
  · rw [cancelWhere_of_none c hv]
    exact .refl s
  · have hall : cancelWhere p c s = startHead ((victims p s).foldl (cancelOne c) s) := if_neg hv
    obtain ⟨o, hcancel⟩ := cancelAll_vend c (victims p s) s
    obtain ⟨q, hstart⟩ := startHead_vend ((victims p s).foldl (cancelOne c) s)
    have hcancelled : FewerWaiting s ((victims p s).foldl (cancelOne c) s) :=
      ⟨by rw [hcancel], fun e he _ => by rw [hcancel] at he; exact List.diff_subset _ _ he⟩
    refine ⟨?_, by simp, ?_, ?_⟩
    · rw [hall]
      exact hcancelled.trans (startHead_fewerWaiting _)
    · rw [hall, hstart, hcancel]
    · rw [hall, hstart, hcancel]

/-- A cancellation leaves no WAITING entry that its cause concerns. -/
theorem cancelWhere_left (p : Entry → Bool) (c : CancelCause) (s : State) :
    ∀ e ∈ (cancelWhere p c s).vend.queue, p e = true → e.driving = true := by
  intro e he hp
  by_contra hd
  have hd : e.driving = false := by simpa using hd
  by_cases hv : victims p s = []
  · rw [cancelWhere_of_none c hv] at he
    have hmem : e ∈ victims p s := List.mem_filter.mpr ⟨he, by simp [hd, hp]⟩
    rw [hv] at hmem
    cases hmem
  · have hall : cancelWhere p c s = startHead ((victims p s).foldl (cancelOne c) s) := if_neg hv
    rw [hall] at he
    have hleft := (startHead_fewerWaiting _).waiting e he hd
    rw [cancelAll_queue] at hleft
    have hkept := (mem_diff_filter hleft).2
    simp [hd, hp] at hkept

theorem isolationBegins_itemJudged (i : Item) (s : State) : ItemJudged s (isolationBegins i s) := by
  cases i with
  | tube t => exact ⟨.of_vend (by simp [isolationBegins]), by simp [isolationBegins], by simp [isolationBegins], by simp [isolationBegins]⟩
  | motor n => exact cancelWhere_itemJudged _ _ s
  | curtain => exact cancelWhere_itemJudged _ _ s
  | airProbe z => exact cancelWhere_itemJudged _ _ s

theorem isolationEnds_itemJudged (i : Item) (s : State) : ItemJudged s (isolationEnds i s) := by
  cases i with
  | tube t => exact ⟨.of_vend (by simp [isolationEnds]), by simp [isolationEnds], by simp [isolationEnds], by simp [isolationEnds]⟩
  | motor n => exact .refl s
  | curtain => exact .refl s
  | airProbe z => exact .refl s

theorem rejudge_itemJudged (f : FaultList) (s : State) (i : Item) : ItemJudged s (rejudge f s i) := by
  unfold rejudge
  split
  · exact isolationBegins_itemJudged i s
  · exact isolationEnds_itemJudged i s
  · exact .refl s

/-- An isolation that begins leaves no WAITING entry whose selection it concerns. -/
theorem isolationBegins_left (i : Item) (s : State) :
    ∀ e ∈ (isolationBegins i s).vend.queue, s.vend.selections[e.selection].affectedBy i = true → e.driving = true := by
  intro e he ha
  cases i with
  | tube t => cases ha
  | motor n => exact cancelWhere_left _ _ s e he ha
  | curtain => exact cancelWhere_left _ _ s e he ha
  | airProbe z => exact cancelWhere_left _ _ s e he ha

theorem foldl_rejudge_itemJudged (f : FaultList) (l : List Item) (s : State) : ItemJudged s (l.foldl (rejudge f) s) := by
  induction l generalizing s with
  | nil => exact .refl s
  | cons i l ih => exact (rejudge_itemJudged f s i).trans (ih _)

theorem foldl_rejudge_left {f : FaultList} {l : List Item} {i : Item} (hi : i ∈ l) (hf : isolated i f = false) {s : State}
    (hs : isolated i s.faults = true) :
    ∀ e ∈ (l.foldl (rejudge f) s).vend.queue, s.vend.selections[e.selection].affectedBy i = true → e.driving = true := by
  induction l generalizing s with
  | nil => cases hi
  | cons x l ih =>
    intro e he ha
    have hx := rejudge_itemJudged f s x
    rcases List.mem_cons.mp hi with rfl | hmem
    · by_contra hd
      have hbegins : rejudge f s i = isolationBegins i s := by
        unfold rejudge
        rw [hf, hs]
      have hleft := (foldl_rejudge_itemJudged f l (rejudge f s i)).fewer.waiting e he (by simpa using hd)
      rw [hbegins] at hleft
      exact hd (isolationBegins_left i s e hleft ha)
    · refine ih hmem (by rwa [hx.faults]) e he ?_
      rwa [hx.fewer.selections]

/-! ## A class write (R167) -/

theorem suspendCheck_fewerWaiting (s : State) : FewerWaiting s (suspendCheck s) := by
  have hsales (n : SalesState) (u : State) (h : u.vend = { s.vend with sales := n }) : FewerWaiting s u :=
    ⟨by rw [h], fun e he _ => by rwa [h] at he⟩
  cases h : s.vend.sales with
  | selling =>
    rw [suspendCheck_of_selling h]
    split
    · exact .of_vend rfl
    · refine hsales .suspended _ ?_
      show (recomputeAccept (withdrawVend _)).vend = _
      rw [(recomputeAccept_frame _).2.1, (withdrawVend_suppliedOnly _).vend]
      simp
  | suspended =>
    rw [suspendCheck_of_suspended h]
    split
    · refine (hsales .selling (recomputeAccept _) ?_).trans (startHead_fewerWaiting _)
      simp
    · exact .of_vend rfl
  | offline =>
    rw [suspendCheck_of_closed (.inl h)]
    exact .of_vend rfl
  | service =>
    rw [suspendCheck_of_closed (.inr h)]
    exact .of_vend rfl

theorem suspendCheck_sales (s : State) : (suspendCheck s).vend.sales = match s.vend.sales with
    | .selling | .suspended => if noCause s then .selling else .suspended
    | .offline => .offline
    | .service => .service := by
  cases h : s.vend.sales with
  | selling =>
    rw [suspendCheck_of_selling h]
    split
    · exact h
    · exact enterSales_sales _ _
  | suspended =>
    rw [suspendCheck_of_suspended h]
    split
    · exact enterSales_sales _ _
    · exact h
  | offline => rw [suspendCheck_of_closed (.inl h), h]
  | service => rw [suspendCheck_of_closed (.inr h), h]

/-- The class of a kind in the list. -/
def FaultList.classed (k : Fin 12) (c : FaultClass) (f : FaultList) : FaultList := { f with classes := f.classes.set k c }

/-- The items of the stored records of a kind. -/
def itemsOf (k : Fin 12) (f : FaultList) : List Item :=
  ((records f).filter fun r => decide (r.kind.index = k)).filterMap fun r => itemOf r.kind r.subject

theorem writeClass_eq (k : Fin 12) (c : FaultClass) (s : State) :
    writeClass k c s = suspendCheck ((itemsOf k s.faults).foldl (rejudge s.faults) (s.mapFaults (FaultList.classed k c))) := rfl

/-- An isolation that a class write begins is that of a stored record of the kind. -/
theorem mem_itemsOf {k : Fin 12} {c : FaultClass} {f : FaultList} {i : Item} (h : isolated i f = false)
    (hk : isolated i (f.classed k c) = true) : i ∈ itemsOf k f := by
  obtain ⟨p, r, hr, hc, hi⟩ := isolated_iff.mp hk
  refine List.mem_filterMap.mpr ⟨r, List.mem_filter.mpr ⟨mem_records.mpr ⟨p, hr⟩, ?_⟩, hi⟩
  by_contra hne
  have hne : k ≠ r.kind.index := fun hk => hne (by simp [hk])
  have hsame : classOf (f.classed k c) r.kind = classOf f r.kind := by
    simp [classOf, FaultList.classed, Fin.val_ne_of_ne hne]
  rw [hsame] at hc
  have : isolated i f = true := isolated_iff.mpr ⟨p, r, hr, hc, hi⟩
  rw [h] at this
  cases this

theorem writeClass_left {k : Fin 12} {c : FaultClass} {s : State} {i : Item} (h : isolated i s.faults = false)
    (hk : isolated i (s.faults.classed k c) = true) :
    ∀ e ∈ (writeClass k c s).vend.queue, s.vend.selections[e.selection].affectedBy i = true → e.driving = true := by
  intro e he ha
  by_contra hd
  have hleft := (suspendCheck_fewerWaiting _).waiting e (writeClass_eq k c s ▸ he) (by simpa using hd)
  exact hd (foldl_rejudge_left (mem_itemsOf h hk) h hk e hleft ha)

theorem writeClass_faults (k : Fin 12) (c : FaultClass) (s : State) : (writeClass k c s).faults = s.faults.classed k c := by
  rw [writeClass_eq, (suspendCheck_frame _).2.2.1, (foldl_rejudge_itemJudged _ _ _).faults]
  rfl

theorem writeClass_sales (k : Fin 12) (c : FaultClass) (s : State) : (writeClass k c s).vend.sales = match s.vend.sales with
    | .selling | .suspended => if noCause (s.mapFaults (FaultList.classed k c)) then .selling else .suspended
    | .offline => .offline
    | .service => .service := by
  have h := foldl_rejudge_itemJudged s.faults (itemsOf k s.faults) (s.mapFaults (FaultList.classed k c))
  have hcause : noCause ((itemsOf k s.faults).foldl (rejudge s.faults) (s.mapFaults (FaultList.classed k c))) =
      noCause (s.mapFaults (FaultList.classed k c)) := by
    unfold noCause
    rw [h.door, h.faults]
  rw [writeClass_eq, suspendCheck_sales, h.sales, hcause]
  rfl

/-! ## The node table (R50, R152, R154) -/

/-- The entry that the bytes of a write have. -/
def NodeReads (valid node port role : Byte) (x : Node) : Prop :=
  yesNo x.valid = valid ∧ x.node = node ∧ 1 ≤ node.toNat ∧ node.toNat ≤ 31 ∧ byteOf x.port = port ∧ x.role.code = role

theorem writeNode_of_mode {index valid node port role : Byte} {s : State} (h : restricted s = true) :
    writeNode index valid node port role s = refused .mode s := if_pos h

theorem writeNode_of_unread {index valid node port role : Byte} {s : State} (h : restricted s = false)
    (hn : 16 ≤ index.toNat ∨ ∀ x, ¬ NodeReads valid node port role x) :
    writeNode index valid node port role s = refused .range s := by
  unfold writeNode
  rw [if_neg (by rw [h]; decide)]
  refine written_of_unread fun t ht => ?_
  simp only [Option.bind_eq_bind, Option.bind_eq_some_iff] at ht
  obtain ⟨i, hi, v, hv, n, hnode, p, hp, r, hr, -⟩ := ht
  obtain ⟨-, hlo, hhi⟩ := readRange_eq_some.mp hnode
  rcases hn with hn | hn
  · exact absurd (readFin_eq_none.mpr hn) (by simp [hi])
  · exact hn ⟨v, node, p, r⟩ ⟨readYesNo_inverts.code_of_read hv, rfl, hlo, hhi,
      (readFin_inverts (by omega)).code_of_read hp, readRole_inverts.code_of_read hr⟩

/-- The node table with another entry. -/
def withNode (i : Fin 16) (x : Node) (s : State) : State := s.mapLink fun l => { l with nodes := l.nodes.set i x }

theorem writeNode_of_reads {i : Fin 16} {valid node port role : Byte} {s : State} {x : Node} (h : restricted s = false)
    (hx : NodeReads valid node port role x) : writeNode (byteOf i) valid node port role s =
      done [0x04, byteOf i] (validatorChanged (validatorAt s.link) (validatorAt (withNode i x s).link) (withNode i x s)) := by
  obtain ⟨rfl, rfl, hlo, hhi, rfl, rfl⟩ := hx
  have hnode : byteOf x.node.toNat = x.node := byte_of_toNat rfl
  unfold writeNode
  rw [if_neg (by rw [h]; decide)]
  simp only [(@readFin_byteOf 16) (by omega), readYesNo_inverts.read_of_code, readRange_of_le hlo hhi,
    (@readFin_byteOf 4) (by omega), readRole_inverts.read_of_code, Option.bind_eq_bind, Option.bind_some, hnode]
  rfl

theorem validatorChanged_of_same {old new : Option (Byte × PortId)} {s : State} (h : old = new) :
    validatorChanged old new s = s := if_pos h

/-- The pending ACCEPT-SET of the old validator's port is discarded (R152). -/
def withoutAccept (old : Option (Byte × PortId)) (s : State) : State :=
  old.elim s fun a => s.mapPort a.2 Port.discardAccept

theorem validatorChanged_of_ne {old new : Option (Byte × PortId)} {s : State} (h : old ≠ new) :
    validatorChanged old new s = recomputeAccept (if new.isSome then
      (withoutAccept old s).mapCoins fun c => { c with lastAccept := none } else withoutAccept old s) := by
  cases old <;> exact if_neg h

theorem discardAccept_eq (q : Port) :
    q.discardAccept = { q with waiting := q.waiting.filter fun g => decide (g.type ≠ 0x58) } := by
  unfold Port.discardAccept
  congr 2
  funext g
  rw [bne, decide_not]
  rfl

/-! ## Disposition, fault disposition and settings (R36, R48, R86, R156) -/

theorem writeDisposition_of_unread {index en type ports dest action : Byte} {s : State}
    (hn : 32 ≤ index.toNat ∨ ∀ x : Disposition, ¬ (yesNo x.enabled = en ∧ x.type = type ∧ x.ports.setWidth 8 = ports ∧
      x.dest.code = dest ∧ x.action.code = action)) : writeDisposition index en type ports dest action s = refused .range s := by
  refine written_of_unread fun t ht => ?_
  simp only [Option.bind_eq_bind, Option.bind_eq_some_iff] at ht
  obtain ⟨i, hi, e, he, p, hp, d, hd, a, ha, -⟩ := ht
  rcases hn with hn | hn
  · exact absurd (readFin_eq_none.mpr hn) (by simp [hi])
  · exact hn ⟨e, type, p, d, a⟩ ⟨readYesNo_inverts.code_of_read he, rfl, readPorts_inverts.code_of_read hp,
      readDest_inverts.code_of_read hd, readAction_inverts.code_of_read ha⟩

theorem writeDisposition_of_reads {i : Fin 32} {s : State} (x : Disposition) :
    writeDisposition (byteOf i) (yesNo x.enabled) x.type (x.ports.setWidth 8) x.dest.code x.action.code s =
      done [0x05, byteOf i] (s.mapLink fun l => { l with dispositions := l.dispositions.set i x }) := by
  unfold writeDisposition
  simp only [(@readFin_byteOf 32) (by omega), readYesNo_inverts.read_of_code, readPorts_inverts.read_of_code,
    readDest_inverts.read_of_code, readAction_inverts.read_of_code]
  rfl

theorem readClass_of_big {b : Byte} (h : 3 ≤ b.toNat) : readClass b = none :=
  readClass_inverts.none fun x hx => by
    subst hx
    cases x <;> exact absurd h (by decide)

theorem writeFaultClass_of_big {index cls : Byte} {s : State} (h : 12 ≤ index.toNat ∨ 3 ≤ cls.toNat) :
    writeFaultClass index cls s = refused .range s := by
  refine written_of_unread fun t ht => ?_
  simp only [Option.bind_eq_bind, Option.bind_eq_some_iff] at ht
  obtain ⟨k, hk, c, hc, -⟩ := ht
  rcases h with h | h
  · exact absurd (readFin_eq_none.mpr h) (by simp [hk])
  · exact absurd (readClass_of_big h) (by simp [hc])

theorem writeFaultClass_of_code (k : Fin 12) (c : FaultClass) (s : State) :
    writeFaultClass (byteOf k) c.code s = done [0x06, byteOf k] (writeClass k c s) := by
  unfold writeFaultClass
  simp only [(@readFin_byteOf 12) (by omega), readClass_inverts.read_of_code]
  rfl

theorem writeChangeSettings_of_not_ranges {index a : Byte} {c : Half} {s : State}
    (h : ¬ (index = 0 ∧ 1 ≤ a.toNat ∧ a.toNat ≤ 40 ∧ c.toNat ≤ 2000)) : writeChangeSettings index a c s = refused .range s := by
  refine written_of_unread fun t ht => h ?_
  simp only [Option.bind_eq_bind, Option.bind_eq_some_iff] at ht
  obtain ⟨_, hi, _, ha, _, hc, -⟩ := ht
  obtain ⟨-, hlo, hhi⟩ := readRange_eq_some.mp ha
  exact ⟨readZero_eq_some.mp hi, hlo, hhi, (readRange_eq_some.mp hc).2.2⟩

theorem writeChangeSettings_of_ranges {a : Byte} {c : Half} {s : State} (ha : 1 ≤ a.toNat ∧ a.toNat ≤ 40) (hc : c.toNat ≤ 2000) :
    writeChangeSettings 0 a c s =
      done [0x08, 0] (evaluateAssurance (s.mapCoins fun k => { k with allowance := a.toNat, ceiling := c.toNat })) := by
  unfold writeChangeSettings
  simp only [readZero_of_eq, readRange_of_le ha.1 ha.2, readRange_of_le (Nat.zero_le _) hc]
  rfl

theorem readStep_eq_some {lo hi step n m : Nat} : readStep lo hi step n = some m ↔ m = n ∧ lo ≤ n ∧ n ≤ hi ∧ n % step = 0 := by
  unfold readStep
  split <;> simp [*, eq_comm]

/-- The drive settings that the bytes of a write have (R86). -/
structure DriveReads (threshold time : Half) (form number : Byte) (x : DriveSettings) : Prop where
  threshold_eq : x.threshold = threshold.toNat ∧ 100 ≤ threshold.toNat ∧ threshold.toNat ≤ 2550 ∧ threshold.toNat % 10 = 0
  time_eq : x.stallMs = time.toNat ∧ 50 ≤ time.toNat ∧ time.toNat ≤ 1000 ∧ time.toNat % 10 = 0
  form_eq : x.form.code = form
  number_eq : x.number = number.toNat ∧ number.toNat ≤ formLimit x.form

theorem readDriveSettings_eq_some {threshold time : Half} {form number : Byte} {x : DriveSettings} :
    readDriveSettings threshold time form number = some x ↔ DriveReads threshold time form number x := by
  unfold readDriveSettings
  simp only [Option.bind_eq_bind, Option.bind_eq_some_iff]
  constructor
  · rintro ⟨t, ht, m, hm, f, hf, n, hn, hx⟩
    cases hx
    obtain ⟨rfl, -, hn⟩ := readRange_eq_some.mp hn
    exact ⟨readStep_eq_some.mp ht, readStep_eq_some.mp hm, readForm_inverts.code_of_read hf, rfl, hn⟩
  · intro h
    exact ⟨x.threshold, readStep_eq_some.mpr h.threshold_eq, x.stallMs, readStep_eq_some.mpr h.time_eq,
      x.form, readForm_inverts.iff.mpr h.form_eq, x.number,
      readRange_eq_some.mpr ⟨h.number_eq.1, Nat.zero_le _, h.number_eq.2⟩, rfl⟩

theorem writeDrive_of_mode {index form number : Byte} {threshold time : Half} {s : State} (h : restricted s = true) :
    writeDrive index threshold time form number s = refused .mode s := if_pos h

theorem writeDrive_of_unread {index form number : Byte} {threshold time : Half} {s : State} (h : restricted s = false)
    (hn : ∀ x, ¬ (index = 0 ∧ DriveReads threshold time form number x)) :
    writeDrive index threshold time form number s = refused .range s := by
  unfold writeDrive
  rw [if_neg (by rw [h]; decide)]
  split
  · rename_i u d hi hd
    exact absurd ⟨readZero_eq_some.mp hi, readDriveSettings_eq_some.mp hd⟩ (hn d)
  · rfl

theorem writeDrive_of_reads {form number : Byte} {threshold time : Half} {s : State} {x : DriveSettings}
    (h : restricted s = false) (hx : DriveReads threshold time form number x) : writeDrive 0 threshold time form number s =
      if s.vend.queue.any (·.driving) then refused .busy s else done [0x0A, 0] (s.mapDrive fun v => { v with settings := x }) := by
  unfold writeDrive
  rw [if_neg (by rw [h]; decide)]
  simp only [readZero_of_eq, readDriveSettings_eq_some.mpr hx]

/-- Settles O54. -/
theorem linkClassAndSettingsWrites : Obligations.LinkClassAndSettingsWrites := by
  refine ⟨fun s src index hs hp => ?_, fun s k c => ?_⟩
  · intro service sent
    have hopen (h : service) : restricted s = false := restricted_iff.mpr h
    have hclosed (h : ¬ service) : restricted s = true := restricted_of_selling h
    refine ⟨fun valid node port role => ?_, fun en type ports dest action => ?_, fun cls => ?_, fun allowance ceiling => ?_,
      fun threshold time form number => ?_⟩
    · intro w reads
      refine ⟨fun h => request_refused hs hp rfl (writeNode_of_mode (hclosed h)),
        fun h hn => request_refused hs hp rfl (writeNode_of_unread (hopen h) hn), ?_⟩
      rintro i x h rfl hx u place without cleared t
      have hwrite : w = sent .done [0x04, byteOf i] (validatorChanged (place s.link) (place u.link) u) :=
        request_done hs hp rfl (writeNode_of_reads (hopen h) hx) (by simp)
      have hcleared (p : PortId) : u.mapPort p Port.discardAccept = cleared p := by
        have hwithout : Port.discardAccept = without := funext discardAccept_eq
        rw [hwithout]
        rfl
      have ht : withoutAccept (place s.link) u = t := by
        simp only [t]
        cases place s.link with
        | none => rfl
        | some a => exact hcleared a.2
      refine ⟨fun hk => ?_, fun hk hnone => ?_, fun hk hsome => ?_⟩
      · rw [hwrite, validatorChanged_of_same hk.symm]
      · rw [hwrite, validatorChanged_of_ne (Ne.symm hk), ht, hnone]
        rfl
      · obtain ⟨a, ha⟩ := Option.ne_none_iff_exists'.mp hsome
        rw [hwrite, validatorChanged_of_ne (Ne.symm hk), ht, ha]
        rfl
    · intro w reads
      refine ⟨fun hn => request_refused hs hp rfl (writeDisposition_of_unread hn), ?_⟩
      rintro i x rfl ⟨rfl, rfl, rfl, rfl, rfl⟩
      exact request_done hs hp rfl (writeDisposition_of_reads x) (by simp)
    · intro w
      refine ⟨fun h => request_refused hs hp rfl (writeFaultClass_of_big h), ?_⟩
      rintro k c rfl rfl
      exact request_done hs hp rfl (writeFaultClass_of_code k c s) (by simp)
    · intro w ranges
      have hserve : serve 0x40 ([0x08, index, allowance] ++ bytes16 ceiling) s = writeChangeSettings index allowance ceiling s := by
        show writeChangeSettings index allowance (half (hi8 ceiling) (lo8 ceiling)) s = _
        rw [half_bytes]
      refine ⟨fun h => request_refused hs hp rfl (hserve.trans (writeChangeSettings_of_not_ranges h)), ?_⟩
      rintro ⟨rfl, hlo, hhi, hc⟩
      exact request_done hs hp rfl (hserve.trans (writeChangeSettings_of_ranges ⟨hlo, hhi⟩ hc)) (by simp)
    · intro w reads driving
      have hserve : serve 0x40 ([0x0A, index] ++ bytes16 threshold ++ bytes16 time ++ [form, number]) s =
          writeDrive index threshold time form number s := by
        show writeDrive index (half (hi8 threshold) (lo8 threshold)) (half (hi8 time) (lo8 time)) form number s = _
        rw [half_bytes, half_bytes]
      have hlimit (f : TraceForm) : formLimit f = if f = .coarse then 5 else 31 := by cases f <;> rfl
      have hreads {x : DriveSettings} : reads x ↔ index = 0 ∧ DriveReads threshold time form number x := by
        constructor
        · rintro ⟨hi, ht, ht1, ht2, ht3, hm, hm1, hm2, hm3, hf, hn, hn1⟩
          exact ⟨hi, ⟨ht, ht ▸ ht1, ht ▸ ht2, ht ▸ ht3⟩, ⟨hm, hm ▸ hm1, hm ▸ hm2, hm ▸ hm3⟩, hf, hn, hlimit x.form ▸ hn ▸ hn1⟩
        · rintro ⟨hi, ⟨ht, ht1, ht2, ht3⟩, ⟨hm, hm1, hm2, hm3⟩, hf, hn, hn1⟩
          exact ⟨hi, ht, ht ▸ ht1, ht ▸ ht2, ht ▸ ht3, hm, hm ▸ hm1, hm ▸ hm2, hm ▸ hm3, hf, hn, hlimit x.form ▸ hn ▸ hn1⟩
      refine ⟨fun h => request_refused hs hp rfl (hserve.trans (writeDrive_of_mode (hclosed h))),
        fun h hn => request_refused hs hp rfl (hserve.trans (writeDrive_of_unread (hopen h) fun x hx => hn x (hreads.mpr hx))), ?_⟩
      intro x h hx
      obtain ⟨rfl, hdrive⟩ := hreads.mp hx
      have hwrite := hserve.trans (writeDrive_of_reads (hopen h) hdrive)
      have hdriving : s.vend.queue.any (·.driving) = true ↔ driving := by simp [driving]
      exact ⟨fun hb => request_refused hs hp rfl (hwrite.trans (if_pos (hdriving.mpr hb))),
        fun hb => request_done hs hp rfl (hwrite.trans (if_neg (mt hdriving.mp hb))) (by simp)⟩
  · intro f t
    exact ⟨writeClass_faults k c s, writeClass_sales k c s, fun i h hk => writeClass_left h hk⟩

end Sys2Proof.Machine
end

section
/-! PROOFS. Reads (R160, R165, R176, R177): the tables' and records' sizes, their bytes, and what a read returns after a
write. -/

namespace Sys2Proof.Machine

/-! ## Bytes of numbers (R160) -/

@[simp] theorem hi8_half (a b : Byte) : hi8 (half a b) = a := BitVec.extractLsb'_append_eq_left

@[simp] theorem lo8_half (a b : Byte) : lo8 (half a b) = b := BitVec.extractLsb'_append_eq_right

@[simp] theorem bytes16_half (a b : Byte) : bytes16 (half a b) = [a, b] := by
  rw [bytes16, hi8_half, lo8_half]

@[simp] theorem halfOf_half (a b : Byte) : halfOf (half a b).toNat = [a, b] := by
  rw [halfOf, BitVec.ofNat_toNat, BitVec.setWidth_eq, bytes16_half]

@[simp] theorem signedOf_half (a b : Byte) : signedOf (half a b).toInt = [a, b] := by
  rw [signedOf, BitVec.ofInt_toInt, bytes16_half]

/-- A count in two bytes, high byte first. -/
theorem halfOf_eq (n : Nat) : halfOf n = [BitVec.ofNat 8 (n / 256), BitVec.ofNat 8 n] := by
  have hhi : hi8 (BitVec.ofNat 16 n) = BitVec.ofNat 8 (n / 256) := by
    apply BitVec.eq_of_toNat_eq
    simp only [hi8, BitVec.extractLsb'_toNat, BitVec.toNat_ofNat, Nat.shiftRight_eq_div_pow]
    omega
  have hlo : lo8 (BitVec.ofNat 16 n) = BitVec.ofNat 8 n := by
    apply BitVec.eq_of_toNat_eq
    simp only [lo8, BitVec.extractLsb'_toNat, BitVec.toNat_ofNat, Nat.shiftRight_zero]
    omega
  rw [halfOf, bytes16, hhi, hlo]

@[simp] theorem bytes16_length (h : Half) : (bytes16 h).length = 2 := rfl

@[simp] theorem halfOf_length (n : Nat) : (halfOf n).length = 2 := rfl

@[simp] theorem signedOf_length (i : Int) : (signedOf i).length = 2 := rfl

/-! ## Sizes (R165) -/

/-- How many entries a table has; 0 for a code that is no table's. -/
def tableSize (code : Byte) : Nat :=
  ([96, 16, 8, 6, 16, 32, 12, 1, 1, 1, 1, 80, 2, 1, 2, 1, 8] : List Nat).getD code.toNat 0

/-- How many blocks a record has; 0 for a code that is no record's. -/
def recordSize (code : Byte) : Nat := ([1, 1, 7, 1, 3, 2, 1, 4, 24, 4, 5, 4] : List Nat).getD code.toNat 0

theorem readFin_isSome (n : Nat) (b : Byte) : (readFin n b).isSome = decide (b.toNat < n) := by
  unfold readFin
  split <;> simp [*]

theorem settings_isSome (index : Byte) (l : List Byte) : (settings index l).isSome = decide (index.toNat < 1) := by
  have hzero : index = 0 ↔ index.toNat < 1 := by
    rw [← BitVec.toNat_inj]
    exact Nat.lt_one_iff.symm
  unfold settings
  split
  · rw [decide_eq_true (hzero.mp ‹_›)]
    rfl
  · rw [decide_eq_false (mt hzero.mpr ‹_›)]
    rfl

theorem tableEntry_isSome (code index : Byte) (s : State) :
    (tableEntry code index s).isSome = decide (index.toNat < tableSize code) := by
  unfold tableEntry tableSize
  split
  case h_18 =>
    have hbig : 17 ≤ code.toNat := by
      by_contra h
      interval_cases code.toNat <;> simp_all
    rw [List.getD_eq_default _ _ hbig]
    rfl
  all_goals
    rename_i h
    rw [h]
    simp only [Option.isSome_map, readFin_isSome, settings_isSome]
    rfl

@[simp] theorem selectionBytes_length (x : Selection) : (selectionBytes x).length = 19 := by
  unfold selectionBytes
  cases x.motorB <;> simp

theorem tableEntry_length {code index : Byte} {s : State} {l : List Byte} (h : tableEntry code index s = some l) :
    l.length ≤ 36 := by
  unfold tableEntry settings at h
  split at h
  case h_18 => cases h
  all_goals
    simp only [Option.map_eq_some_iff, Option.ite_none_right_eq_some, Option.some.injEq] at h
    obtain ⟨_, _, rfl⟩ := h
    simp [coinBytes, noteBytes, tubeBytes, nodeBytes, dispositionBytes, motorBytes, holdBytes, economyBytes, windowBytes]

theorem recordBlock_isSome (code block : Byte) (s : State) :
    (recordBlock code block s).isSome = decide (block.toNat < recordSize code) := by
  unfold recordBlock recordSize
  split
  case h_13 =>
    have hbig : 12 ≤ code.toNat := by
      by_contra h
      interval_cases code.toNat <;> simp_all
    rw [List.getD_eq_default _ _ hbig]
    rfl
  all_goals
    rename_i h
    rw [h]
    simp only [apply_ite Option.isSome, Option.isSome_map, readFin_isSome, Option.isSome_some, Option.isSome_none]
    simp only [List.getD_cons_succ, List.getD_cons_zero]
  all_goals split_ifs <;> simp <;> omega

theorem tableEntry_of_beyond {code index : Byte} (s : State) (h : tableSize code ≤ index.toNat) :
    tableEntry code index s = none := by
  rw [← Option.not_isSome_iff_eq_none, tableEntry_isSome, decide_eq_true_iff]
  exact Nat.not_lt.mpr h

theorem tableEntry_of_within {code index : Byte} (s : State) (h : index.toNat < tableSize code) :
    ∃ l, tableEntry code index s = some l := by
  rw [← Option.isSome_iff_exists, tableEntry_isSome, decide_eq_true_iff]
  exact h

theorem recordBlock_of_beyond {code block : Byte} (s : State) (h : recordSize code ≤ block.toNat) :
    recordBlock code block s = none := by
  rw [← Option.not_isSome_iff_eq_none, recordBlock_isSome, decide_eq_true_iff]
  exact Nat.not_lt.mpr h

theorem recordBlock_of_within {code block : Byte} (s : State) (h : block.toNat < recordSize code) :
    ∃ l, recordBlock code block s = some l := by
  rw [← Option.isSome_iff_exists, recordBlock_isSome, decide_eq_true_iff]
  exact h

/-! ## TABLE-READ and RECORD-READ -/

theorem tableRead_of_none {code index : Byte} {s : State} (h : tableEntry code index s = none) :
    tableRead code index s = refused .range s := by
  rw [tableRead, h]

theorem tableRead_of_some {code index : Byte} {s : State} {l : List Byte} (h : tableEntry code index s = some l) :
    tableRead code index s = done (code :: index :: l) s := by
  rw [tableRead, h]
  rfl

theorem recordRead_of_none {code block : Byte} {s : State} (h : recordBlock code block s = none) :
    recordRead code block s = refused .range s := by
  rw [recordRead, h]

theorem recordRead_of_some {code block : Byte} {s : State} {l : List Byte} (h : recordBlock code block s = some l) :
    recordRead code block s = done (code :: block :: l) s := by
  rw [recordRead, h]
  rfl

theorem halfOf_min_seconds (ms : Nat) : halfOf (min 255 (seconds ms)) =
    [BitVec.ofNat 8 (min 255 (ms / 1000) / 256), BitVec.ofNat 8 (min 255 (ms / 1000))] := halfOf_eq _

/-- The points of a claim that is placed, as R107 has them. -/
theorem claimPoints_of_placed {c : Claim} (h : c.state ≠ .absent) :
    claimPoints c = byteOf (if c.state = .waiting then c.cost else c.held) := by
  unfold claimPoints
  cases hc : c.state with
  | absent => exact absurd hc h
  | waiting => rfl
  | granted => rfl

end Sys2Proof.Machine
end

section
/-! PROOFS. What a read returns after a write that was DONE (R175, R176). -/

namespace Sys2Proof.Machine

/-! ## What follows a write leaves the tables -/

/-- The tables that a change of the economy state, of a setpoint or of the compressor leaves alone. -/
structure KeepsTables (s t : State) : Prop where
  zones : ∀ z : ZoneId, t.cooling.zones[z].setpoint = s.cooling.zones[z].setpoint ∧
    t.cooling.zones[z].differential = s.cooling.zones[z].differential
  holds : t.cabinet.holds = s.cabinet.holds
  economy : economyBytes t.cabinet.economy = economyBytes s.cabinet.economy
  schedule : t.cabinet.schedule = s.cabinet.schedule

theorem KeepsTables.refl (s : State) : KeepsTables s s := ⟨fun _ => ⟨rfl, rfl⟩, rfl, rfl, rfl⟩

theorem KeepsTables.trans {s t u : State} (h : KeepsTables s t) (k : KeepsTables t u) : KeepsTables s u :=
  ⟨fun z => ⟨(k.zones z).1.trans (h.zones z).1, (k.zones z).2.trans (h.zones z).2⟩, k.holds.trans h.holds,
    k.economy.trans h.economy, k.schedule.trans h.schedule⟩

theorem KeepsTables.of_calm {s t : State} (h : Calm s t) : KeepsTables s t :=
  ⟨fun z => by rw [h.cooling]; exact ⟨rfl, rfl⟩, by rw [h.cabinet], by rw [h.cabinet], by rw [h.cabinet]⟩

theorem formSetpoint_keepsTables (z : ZoneId) (s : State) : KeepsTables s (formSetpoint z s) := by
  have hformed := KeepsTables.of_calm (formSetpoint_calm z s)
  refine KeepsTables.trans ?_ hformed
  refine ⟨fun y => ?_, rfl, rfl, rfl⟩
  rw [zone_mapZone]
  split <;> exact ⟨rfl, rfl⟩

theorem changeEconomy_keepsTables (new : EconomyState) (n : Nat) (s : State) : KeepsTables s (changeEconomy new n s) := by
  have hstate : KeepsTables s (s.mapEconomy fun e => { e with state := new, lamp := lampOf new e.dimLevel }) :=
    ⟨fun _ => ⟨rfl, rfl⟩, rfl, rfl, rfl⟩
  exact ((hstate.trans (formSetpoint_keepsTables 0 _)).trans (formSetpoint_keepsTables 1 _)).trans
    (.of_calm (raise_calm _ _ _ _))

theorem judgeEconomy_keepsTables (s : State) : KeepsTables s (judgeEconomy s) := by
  have hdim : KeepsTables s (if s.cabinet.economy.state = .active ∧
      s.cabinet.economy.dimDelay * 1000 ≤ s.cabinet.economy.quietMs then changeEconomy .dim 0 s else s) := by
    split
    · exact changeEconomy_keepsTables _ _ s
    · exact .refl s
  unfold judgeEconomy
  generalize (if s.cabinet.economy.state = .active ∧ s.cabinet.economy.dimDelay * 1000 ≤ s.cabinet.economy.quietMs then
    changeEconomy .dim 0 s else s) = t at hdim
  dsimp only
  split
  · exact hdim.trans (changeEconomy_keepsTables _ _ t)
  · exact hdim

theorem judgeWindow_keepsTables (s : State) : KeepsTables s (judgeWindow s) := by
  have hwindow (w : Bool) : KeepsTables s (s.mapEconomy fun e => { e with inWindow := w }) :=
    ⟨fun _ => ⟨rfl, rfl⟩, rfl, rfl, rfl⟩
  unfold judgeWindow
  simp only []
  split
  · exact .refl s
  · refine KeepsTables.trans ?_ (judgeEconomy_keepsTables _)
    split
    · exact (hwindow _).trans (changeEconomy_keepsTables _ _ _)
    · exact hwindow _

/-- But for the assurance and the accept set last sent, an evaluation leaves the coins. -/
theorem evaluateAssurance_coins (s : State) : ∃ a l, (evaluateAssurance s).coins = { s.coins with assured := a, lastAccept := l } := by
  unfold evaluateAssurance
  simp only []
  split
  · exact ⟨_, _, rfl⟩
  · generalize ht : raise .assurance _ _ _ = t
    have hcoins := recomputeAccept_coins none t
    have hraised : t.coins = { s.coins with assured := (shortfall s).isNone } := by
      rw [← ht]
      simp
    refine ⟨(shortfall s).isNone, (recomputeAccept t).coins.lastAccept, ?_⟩
    have := congrArg (fun c : Coins => { c with lastAccept := (recomputeAccept t).coins.lastAccept }) hcoins
    rw [hraised] at this
    exact this

theorem recomputeAccept_table (s : State) : (recomputeAccept s).coins.table = s.coins.table := by
  have h := congrArg Coins.table (recomputeAccept_coins none s)
  exact h

theorem tubeChanged_tubes (t : TubeId) (s : State) (i : TubeId) :
    tubeBytes (tubeChanged t s).coins.tubes[i] = tubeBytes s.coins.tubes[i] := by
  obtain ⟨a, l, h⟩ := evaluateAssurance_coins (setFlap t s)
  rw [tubeChanged, h]
  unfold setFlap
  split
  · rfl
  · simp only [State.mapTube, State.mapCoins_coins, Fin.getElem_fin, Vector.getElem_set]
    by_cases hi : t = i
    · subst hi
      simp [tubeBytes]
    · simp [Fin.val_ne_of_ne hi]

/-- The supply settings as a read returns them. -/
def supplyBytes (p : Supply) : List Byte :=
  [byteOf p.budget, byteOf p.motorCost, byteOf p.startCost, byteOf p.runCost, byteOf p.heaterCost]

theorem tryVend_supplyBytes (s : State) : supplyBytes (tryVend s).supply = supplyBytes s.supply := by
  unfold tryVend
  split
  · rfl
  · split
    · rw [(firstEnergise_sides _ _ _).1]
      rfl
    · rfl

theorem tryCompressor_supplyBytes (s : State) : supplyBytes (tryCompressor s).supply = supplyBytes s.supply := by
  unfold tryCompressor
  split <;> rfl

theorem tryHeater_supplyBytes (s : State) : supplyBytes (tryHeater s).supply = supplyBytes s.supply := by
  unfold tryHeater
  split <;> rfl

theorem consider_supplyBytes (s : State) : supplyBytes (consider s).supply = supplyBytes s.supply := by
  unfold consider
  split
  · rw [tryHeater_supplyBytes]
    rcases tryVendBehind_cases (tryCompressor s) with hb | hb
    · rw [hb, tryCompressor_supplyBytes]
    · rw [hb, tryVend_supplyBytes, tryCompressor_supplyBytes]
  · rw [tryHeater_supplyBytes, tryCompressor_supplyBytes, tryVend_supplyBytes]

theorem validatorChanged_nodes (old new : Option (Byte × PortId)) (s : State) :
    (validatorChanged old new s).link.nodes = s.link.nodes := by
  by_cases h : old = new
  · rw [validatorChanged_of_same h]
  · rw [validatorChanged_of_ne h, (recomputeAccept_enqueued _).link]
    have hkept : (withoutAccept old s).link.nodes = s.link.nodes := by cases old <;> rfl
    split <;> exact hkept

theorem enterPending_calm (n : Nat) (s : State) : Calm s (enterPending n s) := by
  have hreact : Calm s (reactCompressor (raiseDefrost n (s.mapDefrost fun d => { d with state := .pending }))) :=
    ((mapDefrost_calm s _).trans (raise_calm _ _ _ _)).trans (reactCompressor_calm _)
  rw [enterPending_eq]
  dsimp only
  split
  · exact ((hreact.trans (mapDefrost_calm _ _)).trans (raise_calm _ _ _ _)).trans (placeHeater_calm _)
  · exact hreact

theorem setRefrigeration_cooling (on off interval : Nat) (t : Int) (s : State) :
    let c := (setRefrigeration on off interval t s).cooling
    c.limpOnMin = on ∧ c.limpOffMin = off ∧ c.intervalH = interval ∧ c.terminate = t := by
  unfold setRefrigeration
  dsimp only
  split
  · rw [(enterPending_calm 0 _).cooling]
    exact ⟨rfl, rfl, rfl, rfl⟩
  · exact ⟨rfl, rfl, rfl, rfl⟩

theorem Hold.rewritten_settings (h : Hold) (b : Bool) (l : Int) (n : Nat) :
    holdBytes (h.rewritten b l n) = [yesNo b] ++ signedOf l ++ halfOf n := by
  unfold Hold.rewritten
  split
  · rename_i hb
    simp only [holdBytes, hb.1, hb.2]
  · rfl

theorem setHold_holds (z : ZoneId) (b : Bool) (l : Int) (n : Nat) (s : State) :
    holdBytes (setHold z b l n s).cabinet.holds[z] = [yesNo b] ++ signedOf l ++ halfOf n := by
  have hset : (s.mapHold z fun h => h.rewritten b l n).cabinet.holds[z] = s.cabinet.holds[z].rewritten b l n := by
    simp [State.mapHold]
  have hraised (p : Prop) [Decidable p] (t : State) :
      (if p then raise .zoneReleased (byteOf z) 1 t else t).cabinet.holds = t.cabinet.holds := by
    split
    · rw [(raise_calm _ _ _ _).cabinet]
    · rfl
  unfold setHold
  dsimp only
  rw [(formSetpoint_keepsTables z _).holds, hraised, hset, Hold.rewritten_settings]

/-! ## Each table -/

/-- A write that was DONE has read its entry. -/
theorem written_of_done {table index : Byte} {new : Option State} {s : State} (h : (written table index new s).status = .done) :
    ∃ t, new = some t ∧ (written table index new s).state = t := by
  cases new with
  | none => cases h
  | some t => exact ⟨t, rfl, rfl⟩

/-- A write without a fault is one outside SELLING and SUSPENDED. -/
theorem written_of_restricted {table index : Byte} {new : Option State} {s : State} {a : Answer}
    (ha : (if restricted s then refused .mode s else written table index new s) = a) (hd : a.status = .done) :
    ∃ t, new = some t ∧ a.state = t := by
  subst ha
  split at hd
  · cases hd
  · rename_i h
    rw [if_neg h]
    exact written_of_done hd

theorem halfOf_toNat (h : Half) : halfOf h.toNat = [hi8 h, lo8 h] := by
  rw [halfOf, BitVec.ofNat_toNat, BitVec.setWidth_eq, bytes16]

/-- The bytes of an entry that was read, with the kept fields behind it. -/
theorem selectionBytes_of_reads {e : SelectionEntry} {old x : Selection} (h : SelectionReads e old x) :
    selectionBytes x = e.enabled :: hi8 e.price :: lo8 e.price :: e.kind :: e.rowA :: e.colA ::
      (if e.kind = 1 then e.rowB else 0xFF) :: (if e.kind = 1 then e.colB else 0xFF) ::
      [e.turns, e.runTime, e.retries, e.verify, e.continuous, e.trace, e.zone] ++
      yesNo old.empty :: halfOf old.vendCount ++ [byteOf old.failCount] := by
  obtain ⟨hempty, hvend, hfail⟩ := h.kept
  have hk : e.kind = 1 ↔ x.kind = .twinSpiral := by
    rw [← h.kind]
    cases x.kind <;> decide
  have hm := h.motorB
  unfold selectionBytes
  rw [h.enabled, h.price, h.kind, h.colA, h.turns.1, h.runTime.1, h.retries.1, h.verify, h.continuous, h.trace, h.zone,
    hempty, hvend, hfail, halfOf_toNat, byteOf_of_toNat, byteOf_of_toNat, byteOf_of_toNat]
  unfold MotorBReads at hm
  split at hm
  · obtain ⟨c, hc, hcol, hrow, -⟩ := hm
    rw [hc, if_pos (hk.mpr ‹_›), if_pos (hk.mpr ‹_›), ← hcol, hrow, ← h.rowA]
    rfl
  · rw [hm, if_neg (mt hk.mp ‹_›), if_neg (mt hk.mp ‹_›), h.rowA]
    rfl

theorem writeSelection_read {i : Byte} {e : SelectionEntry} {s : State} {a : Answer} (ha : writeSelection i e s = a)
    (hd : a.status = .done) : ∃ (j : Fin 96) (x : Selection), i = byteOf j ∧ SelectionReads e s.vend.selections[j] x ∧
      tableEntry 0 i a.state = some (selectionBytes x) := by
  unfold writeSelection at ha
  split at ha
  · subst ha; cases hd
  · split at ha
    · subst ha; cases hd
    · rename_i j hj
      split at ha
      · subst ha; cases hd
      · rename_i x hx
        split at ha
        · subst ha; cases hd
        · subst ha
          refine ⟨j, x, (readFin_eq_some (by omega)).mp hj, readSelection_eq_some.mp hx, ?_⟩
          show (readFin 96 i).map _ = _
          rw [hj]
          simp [State.mapSelection, done]

theorem writeCoin_read {i v1 v2 p t : Byte} {s : State} {a : Answer} (ha : writeCoin i (half v1 v2) p t s = a)
    (hd : a.status = .done) : tableEntry 0x01 i a.state = some [v1, v2, p, t] := by
  unfold writeCoin at ha
  split at ha
  · subst ha; cases hd
  · split at ha
    · rename_i j v q u hj hv hq hu
      split at ha
      · subst ha; cases hd
      · subst ha
        obtain ⟨x, l, hcoins⟩ := evaluateAssurance_coins (s.mapCoins fun c =>
          { c with table := c.table.set j { value := v, policy := q, tube := u } })
        obtain ⟨rfl, -⟩ := readRange_eq_some.mp hv
        show (readFin 16 i).map _ = _
        rw [hj, ← readPolicy_inverts.code_of_read hq, ← readCoinTube_inverts.code_of_read hu]
        simp [done, recomputeAccept_table, hcoins, coinBytes]
    · subst ha; cases hd

theorem writeNote_read {i v1 v2 e c : Byte} {s : State} {a : Answer} (ha : writeNote i (half v1 v2) e c s = a)
    (hd : a.status = .done) : tableEntry 0x02 i a.state = some [v1, v2, e, c] := by
  obtain ⟨t, ht, hstate⟩ := written_of_restricted ha hd
  simp only [Option.bind_eq_bind, Option.bind_eq_some_iff] at ht
  obtain ⟨j, hj, v, hv, b, hb, d, hd, ht⟩ := ht
  cases ht
  obtain ⟨rfl, -⟩ := readRange_eq_some.mp hv
  rw [hstate, ← readYesNo_inverts.code_of_read hb, ← readFirst_inverts.code_of_read hd]
  show (readFin 8 i).map _ = _
  rw [hj]
  simp [noteBytes]

theorem writeTube_read {i k c f : Byte} {s : State} {a : Answer} (ha : writeTube i k c f s = a) (hd : a.status = .done) :
    tableEntry 0x03 i a.state = some [k, c, f] := by
  unfold writeTube at ha
  split at ha
  · subst ha; cases hd
  · split at ha
    · rename_i j x y z hj hx hy hz
      split at ha
      · subst ha; cases hd
      · split at ha
        · subst ha; cases hd
        · subst ha
          obtain ⟨rfl, -⟩ := readRange_eq_some.mp hy
          obtain ⟨rfl, -⟩ := readRange_eq_some.mp hz
          show (readFin 6 i).map _ = _
          rw [hj, ← readAssigned_inverts.code_of_read hx]
          show some (tubeBytes (tubeChanged j _).coins.tubes[j]) = _
          rw [tubeChanged_tubes]
          simp [State.mapTube, tubeBytes, byteOf_of_toNat]
    · subst ha; cases hd

theorem writeNode_read {i v n p r : Byte} {s : State} {a : Answer} (ha : writeNode i v n p r s = a) (hd : a.status = .done) :
    tableEntry 0x04 i a.state = some [v, n, p, r] := by
  obtain ⟨t, ht, hstate⟩ := written_of_restricted ha hd
  simp only [Option.bind_eq_bind, Option.bind_eq_some_iff] at ht
  obtain ⟨j, hj, b, hb, m, hm, q, hq, x, hx, ht⟩ := ht
  cases ht
  obtain ⟨rfl, -⟩ := readRange_eq_some.mp hm
  rw [hstate, ← readYesNo_inverts.code_of_read hb, ← (readFin_inverts (by omega)).code_of_read hq,
    ← readRole_inverts.code_of_read hx]
  show (readFin 16 i).map _ = _
  rw [hj]
  simp [validatorChanged_nodes, nodeBytes, byteOf_of_toNat]

theorem writeDisposition_read {i e t p d x : Byte} {s : State} {a : Answer} (ha : writeDisposition i e t p d x s = a)
    (hd : a.status = .done) : tableEntry 0x05 i a.state = some [e, t, p, d, x] := by
  subst ha
  obtain ⟨u, hu, hstate⟩ := written_of_done hd
  simp only [Option.bind_eq_bind, Option.bind_eq_some_iff] at hu
  obtain ⟨j, hj, b, hb, q, hq, c, hc, y, hy, hu⟩ := hu
  cases hu
  rw [writeDisposition, hstate, ← readYesNo_inverts.code_of_read hb, ← readPorts_inverts.code_of_read hq,
    ← readDest_inverts.code_of_read hc, ← readAction_inverts.code_of_read hy]
  show (readFin 32 i).map _ = _
  rw [hj]
  simp [dispositionBytes]

theorem writeFaultClass_read {i c : Byte} {s : State} {a : Answer} (ha : writeFaultClass i c s = a) (hd : a.status = .done) :
    tableEntry 0x06 i a.state = some [c] := by
  subst ha
  obtain ⟨u, hu, hstate⟩ := written_of_done hd
  simp only [Option.bind_eq_bind, Option.bind_eq_some_iff] at hu
  obtain ⟨k, hk, x, hx, hu⟩ := hu
  cases hu
  rw [writeFaultClass, hstate, ← readClass_inverts.code_of_read hx]
  show (readFin 12 i).map _ = _
  rw [hk]
  simp [writeClass_faults, FaultList.classed]

/-- The index of a settings table that was written. -/
theorem settings_of_read {i : Byte} {u : Unit} {l : List Byte} (h : readZero i = some u) : settings i l = some l :=
  if_pos (readZero_eq_some.mp h)

theorem writeCreditSettings_read {i l1 l2 m : Byte} {s : State} {a : Answer} (ha : writeCreditSettings i (half l1 l2) m s = a)
    (hd : a.status = .done) : tableEntry 0x07 i a.state = some [l1, l2, m] := by
  subst ha
  obtain ⟨u, hu, hstate⟩ := written_of_done hd
  simp only [Option.bind_eq_bind, Option.bind_eq_some_iff] at hu
  obtain ⟨_, hi, l, hl, x, hx, hu⟩ := hu
  cases hu
  obtain ⟨rfl, -⟩ := readRange_eq_some.mp hl
  rw [writeCreditSettings, hstate, ← readVendMode_inverts.code_of_read hx]
  show settings i _ = _
  rw [settings_of_read hi, (recomputeAccept_frame _).1]
  simp [State.mapCredit]

theorem writeChangeSettings_read {i x c1 c2 : Byte} {s : State} {a : Answer} (ha : writeChangeSettings i x (half c1 c2) s = a)
    (hd : a.status = .done) : tableEntry 0x08 i a.state = some [x, c1, c2] := by
  subst ha
  obtain ⟨u, hu, hstate⟩ := written_of_done hd
  simp only [Option.bind_eq_bind, Option.bind_eq_some_iff] at hu
  obtain ⟨_, hi, n, hn, c, hc, hu⟩ := hu
  cases hu
  obtain ⟨rfl, -⟩ := readRange_eq_some.mp hn
  obtain ⟨rfl, -⟩ := readRange_eq_some.mp hc
  obtain ⟨b, l, hcoins⟩ := evaluateAssurance_coins (s.mapCoins fun k => { k with allowance := x.toNat, ceiling := (half c1 c2).toNat })
  rw [writeChangeSettings, hstate]
  show settings i _ = _
  rw [settings_of_read hi, hcoins]
  simp [byteOf_of_toNat]

theorem writeSupply_read {i b m st r h : Byte} {s : State} {a : Answer} (ha : writeSupply i b m st r h s = a)
    (hd : a.status = .done) : tableEntry 0x09 i a.state = some [b, m, st, r, h] := by
  unfold writeSupply at ha
  split at ha
  · subst ha; cases hd
  · split at ha
    · rename_i u b' m' st' r' h' hi hb hm hst hr hh
      split at ha
      · subst ha; cases hd
      · split at ha
        · subst ha; cases hd
        · subst ha
          obtain ⟨rfl, -⟩ := readRange_eq_some.mp hb
          obtain ⟨rfl, -⟩ := readRange_eq_some.mp hm
          obtain ⟨rfl, -⟩ := readRange_eq_some.mp hst
          obtain ⟨rfl, -⟩ := readRange_eq_some.mp hr
          obtain ⟨rfl, -⟩ := readRange_eq_some.mp hh
          show settings i (supplyBytes (consider _).supply) = _
          rw [settings_of_read hi, consider_supplyBytes]
          simp [supplyBytes, byteOf_of_toNat]
    · subst ha; cases hd

theorem writeDrive_read {i t1 t2 m1 m2 f n : Byte} {s : State} {a : Answer}
    (ha : writeDrive i (half t1 t2) (half m1 m2) f n s = a) (hd : a.status = .done) :
    tableEntry 0x0A i a.state = some [t1, t2, m1, m2, f, n] := by
  unfold writeDrive at ha
  split at ha
  · subst ha; cases hd
  · split at ha
    · rename_i u x hi hx
      split at ha
      · subst ha; cases hd
      · subst ha
        have h := readDriveSettings_eq_some.mp hx
        show settings i _ = _
        rw [settings_of_read hi]
        simp [done, h.threshold_eq.1, h.time_eq.1, h.form_eq, h.number_eq.1, byteOf_of_toNat]
    · subst ha; cases hd

theorem writeZone_read {i p1 p2 d : Byte} {s : State} {a : Answer} (ha : writeZone i (half p1 p2) d s = a)
    (hd : a.status = .done) : tableEntry 0x0C i a.state = some [p1, p2, d] := by
  subst ha
  obtain ⟨u, hu, hstate⟩ := written_of_done hd
  simp only [Option.bind_eq_bind, Option.bind_eq_some_iff] at hu
  obtain ⟨z, hz, p, hp, n, hn, hu⟩ := hu
  cases hu
  obtain ⟨rfl, -⟩ := readSigned_eq_some.mp hp
  obtain ⟨rfl, -⟩ := readRange_eq_some.mp hn
  obtain ⟨hset, hdiff⟩ := (formSetpoint_keepsTables z (s.mapZone z fun x =>
    { x with setpoint := (half p1 p2).toInt, differential := d.toNat })).zones z
  rw [zone_mapZone, if_pos rfl] at hset hdiff
  rw [writeZone, hstate]
  show (readFin 2 i).map _ = _
  rw [hz, Option.map_some, hset, hdiff]
  simp [byteOf_of_toNat]

theorem writeRefrigeration_read {i x y h t1 t2 : Byte} {s : State} {a : Answer}
    (ha : writeRefrigeration i x y h (half t1 t2) s = a) (hd : a.status = .done) :
    tableEntry 0x0D i a.state = some [x, y, h, t1, t2] := by
  subst ha
  obtain ⟨u, hu, hstate⟩ := written_of_done hd
  simp only [Option.bind_eq_bind, Option.bind_eq_some_iff] at hu
  obtain ⟨_, hi, on, hon, off, hoff, n, hn, te, hte, hu⟩ := hu
  cases hu
  obtain ⟨rfl, -⟩ := readRange_eq_some.mp hon
  obtain ⟨rfl, -⟩ := readRange_eq_some.mp hoff
  obtain ⟨rfl, -⟩ := readRange_eq_some.mp hn
  obtain ⟨rfl, -⟩ := readSigned_eq_some.mp hte
  rw [writeRefrigeration, hstate]
  show settings i _ = _
  obtain ⟨hon, hoff, hn, ht⟩ := setRefrigeration_cooling x.toNat y.toNat h.toNat (half t1 t2).toInt s
  rw [settings_of_read hi, hon, hoff, hn, ht]
  simp [byteOf_of_toNat]

theorem writeHold_read {i e l1 l2 d1 d2 : Byte} {s : State} {a : Answer}
    (ha : writeHold i e (half l1 l2) (half d1 d2) s = a) (hd : a.status = .done) :
    tableEntry 0x0E i a.state = some [e, l1, l2, d1, d2] := by
  subst ha
  obtain ⟨u, hu, hstate⟩ := written_of_done hd
  simp only [Option.bind_eq_bind, Option.bind_eq_some_iff] at hu
  obtain ⟨z, hz, b, hb, l, hl, n, hn, hu⟩ := hu
  cases hu
  obtain ⟨rfl, -⟩ := readSigned_eq_some.mp hl
  obtain ⟨rfl, -⟩ := readRange_eq_some.mp hn
  rw [writeHold, hstate, ← readYesNo_inverts.code_of_read hb]
  show (readFin 2 i).map _ = _
  rw [hz, Option.map_some, setHold_holds]
  simp

theorem writeEconomy_read {i m d1 d2 e1 e2 l o : Byte} {s : State} {a : Answer}
    (ha : writeEconomy i m (half d1 d2) (half e1 e2) l o s = a) (hd : a.status = .done) :
    tableEntry 0x0F i a.state = some [m, d1, d2, e1, e2, l, o] := by
  subst ha
  obtain ⟨u, hu, hstate⟩ := written_of_done hd
  simp only [Option.bind_eq_bind, Option.bind_eq_some_iff] at hu
  obtain ⟨_, hi, k, hk, dim, hdim, eco, heco, lev, hlev, off, hoff, hu⟩ := hu
  cases hu
  obtain ⟨rfl, -⟩ := readRange_eq_some.mp hdim
  obtain ⟨rfl, -⟩ := readRange_eq_some.mp heco
  obtain ⟨rfl, -⟩ := readRange_eq_some.mp hlev
  obtain ⟨rfl, -⟩ := readRange_eq_some.mp hoff
  rw [writeEconomy, hstate, ← readMask_inverts.code_of_read hk]
  show settings i (economyBytes (judgeEconomy _).cabinet.economy) = _
  rw [settings_of_read hi, (judgeEconomy_keepsTables _).economy, (formSetpoint_keepsTables 1 _).economy,
    (formSetpoint_keepsTables 0 _).economy]
  simp [economyBytes, State.mapEconomy, byteOf_of_toNat]

theorem writeSchedule_read {i e d a1 a2 b1 b2 : Byte} {s : State} {a : Answer}
    (ha : writeSchedule i e d (half a1 a2) (half b1 b2) s = a) (hd : a.status = .done) :
    tableEntry 0x10 i a.state = some [e, d, a1, a2, b1, b2] := by
  subst ha
  obtain ⟨u, hu, hstate⟩ := written_of_done hd
  simp only [Option.bind_eq_bind, Option.bind_eq_some_iff] at hu
  obtain ⟨j, hj, b, hb, y, hy, x1, hx1, x2, hx2, hu⟩ := hu
  cases hu
  obtain ⟨rfl, -⟩ := readRange_eq_some.mp hx1
  obtain ⟨rfl, -⟩ := readRange_eq_some.mp hx2
  rw [writeSchedule, hstate, ← readYesNo_inverts.code_of_read hb, ← readDays_inverts.code_of_read hy]
  show (readFin 8 i).map _ = _
  rw [hj, (judgeWindow_keepsTables _).schedule]
  simp [windowBytes]

/-- What a write that was DONE put into a table, a read of it returns (R176). -/
theorem tableWrite_read {table index : Byte} {entry : List Byte} {s : State} (h0 : table ≠ 0) :
    ∀ a, tableWrite table (index :: entry) s = a → a.status = .done → tableEntry table index a.state = some entry := by
  intro a ha hd
  unfold tableWrite at ha
  split at ha
  case h_17 =>
    subst ha
    cases hd
  all_goals
    rename_i ht hl
    obtain rfl := byte_of_toNat ht
    cases hl
  · exact absurd rfl h0
  · exact writeCoin_read ha hd
  · exact writeNote_read ha hd
  · exact writeTube_read ha hd
  · exact writeNode_read ha hd
  · exact writeDisposition_read ha hd
  · exact writeFaultClass_read ha hd
  · exact writeCreditSettings_read ha hd
  · exact writeChangeSettings_read ha hd
  · exact writeSupply_read ha hd
  · exact writeDrive_read ha hd
  · exact writeZone_read ha hd
  · exact writeRefrigeration_read ha hd
  · exact writeHold_read ha hd
  · exact writeEconomy_read ha hd
  · exact writeSchedule_read ha hd

/-- What is read of a selection after a write that was DONE: the entry, and the kept fields behind it (R52, R176). -/
theorem selectionWrite_read {index : Byte} {entry : List Byte} {s : State} :
    ∀ a, tableWrite 0 (index :: entry) s = a → a.status = .done → ∀ i : Fin 96, index = byteOf i →
      ∃ en p1 p2 kind ra ca rb cb rest, entry = en :: p1 :: p2 :: kind :: ra :: ca :: rb :: cb :: rest ∧
      tableEntry 0 index a.state = some (en :: p1 :: p2 :: kind :: ra :: ca ::
        (if kind = 1 then rb else 0xFF) :: (if kind = 1 then cb else 0xFF) :: rest ++
        yesNo s.vend.selections[i].empty :: halfOf s.vend.selections[i].vendCount ++ [byteOf s.vend.selections[i].failCount]) := by
  intro a ha hd i hi
  unfold tableWrite at ha
  split at ha
  case h_1 ht hl =>
    cases hl
    obtain ⟨j, x, hj, hx, hread⟩ := writeSelection_read ha hd
    obtain rfl : i = j := Option.some.inj (by rw [← readFin_byteOf (by omega) i, ← hi, hj, readFin_byteOf (by omega)])
    refine ⟨_, _, _, _, _, _, _, _, _, rfl, ?_⟩
    rw [hread, selectionBytes_of_reads hx, hi8_half, lo8_half]
  case h_17 =>
    subst ha
    cases hd
  all_goals exact absurd ‹BitVec.toNat (0 : Byte) = _› (by decide)

/-! ## TABLE-READ, RECORD-READ and the blocks given byte for byte -/

theorem tableRead_answered {s : State} {src code index : Byte} (hs : s.resetLow = false) (hp : replyPlace s = true) :
    (tableSize code ≤ index.toNat → exec (.tableRead src code index) s = .next (answered src 0x41 .range [] s)) ∧
    (index.toNat < tableSize code → ∃ l, tableEntry code index s = some l ∧
      exec (.tableRead src code index) s = .next (answered src 0x41 .done (code :: index :: l) s)) := by
  have hserve : serve 0x41 [code, index] s = tableRead code index s := rfl
  refine ⟨fun h => ?_, fun h => ?_⟩
  · exact request_refused hs hp rfl (hserve.trans (tableRead_of_none (tableEntry_of_beyond s h)))
  · obtain ⟨l, hl⟩ := tableEntry_of_within s h
    refine ⟨l, hl, request_done hs hp rfl (hserve.trans (tableRead_of_some hl)) ?_⟩
    have := tableEntry_length hl
    simp only [List.length_cons]
    omega

theorem recordRead_answered {s : State} {src code block : Byte} (hs : s.resetLow = false) (hp : replyPlace s = true) :
    (recordSize code ≤ block.toNat → exec (.recordRead src code block) s = .next (answered src 0x43 .range [] s)) ∧
    (block.toNat < recordSize code → ∃ l, recordBlock code block s = some l ∧
      (l.length ≤ 36 → exec (.recordRead src code block) s = .next (answered src 0x43 .done (code :: block :: l) s)) ∧
      ∃ data, data.length ≤ 38 ∧ exec (.recordRead src code block) s = .next (answered src 0x43 .done data s)) := by
  have hserve : serve 0x43 [code, block] s = recordRead code block s := rfl
  refine ⟨fun h => ?_, fun h => ?_⟩
  · exact request_refused hs hp rfl (hserve.trans (recordRead_of_none (recordBlock_of_beyond s h)))
  · obtain ⟨l, hl⟩ := recordBlock_of_within s h
    have hall : exec (.recordRead src code block) s = .next (answered src 0x43 .done (fitted (code :: block :: l)) s) :=
      (@request_answered _ _ _ _ (done (code :: block :: l) s)) hs hp rfl (hserve.trans (recordRead_of_some hl)) rfl
    refine ⟨l, hl, fun hfits => request_done hs hp rfl (hserve.trans (recordRead_of_some hl)) ?_, _, fitted_length _, hall⟩
    simp only [List.length_cons]
    omega

/-- Settles O55. -/
theorem readsReturnWhatIsHeld : Obligations.ReadsReturnWhatIsHeld := by
  refine ⟨fun s src code index hs hp => ?_, fun s => ?_, ?_⟩
  · obtain ⟨hbeyond, hwithin⟩ := (@tableRead_answered _ src code index) hs hp
    exact ⟨hbeyond, hwithin, recordRead_answered hs hp⟩
  · intro be two c m p state points session mode deferring
    have htwo (n : Nat) : two n = halfOf n := (halfOf_eq n).symm
    have hstate (x : Claim) : state x = x.state.code := by
      simp only [state]
      cases x.state <;> rfl
    have hpoints {x : Claim} (h : x.state ≠ .absent) : points x = claimPoints x := (claimPoints_of_placed h).symm
    refine ⟨fun f hf => ?_, rfl, fun hv hc hh => ?_⟩
    · have hsession : session = c.session.code := by
        simp only [session]
        cases c.session <;> rfl
      have hmode : mode = c.vendMode.code := by
        simp only [mode]
        cases c.vendMode <;> rfl
      rw [hsession, hmode, htwo]
      show some (creditBlock c) = _
      rw [creditBlock, hf]
      rfl
    · rw [hpoints hv, hpoints hc, hpoints hh, htwo, hstate, hstate, hstate]
      show some (supplyBlock p) = _
      rw [supplyBlock, if_neg hv]
      rfl
  · intro s table index entry a hdone
    refine ⟨fun h0 => tableWrite_read h0 a rfl hdone, fun h0 i hi => ?_⟩
    subst h0
    exact selectionWrite_read a rfl hdone i hi

end Sys2Proof.Machine
end

section
/-! PROOFS. The warm restart (section 10.2): the claims placed again, the accept set announced anew, the change run, and
what each block keeps. -/

namespace Sys2Proof.Machine

/-! ## Claims placed again (R106) -/

/-- The compressor and the heater claim have been looked at: a grant stays, and so does all that no claim moves. -/
structure ClaimsTried (s t : State) : Prop where
  blocks : SuppliedOnly s t
  vend : t.supply.vend = s.supply.vend
  deferring : s.supply.deferring = false → t.supply.deferring = false
  waitMs : t.supply.waitMs = s.supply.waitMs
  compressor : s.supply.compressor.state = .granted → t.supply.compressor = s.supply.compressor
  heater : s.supply.heater.state = .granted → t.supply.heater = s.supply.heater
  probes : t.cooling.probes = s.cooling.probes
  zones : t.cooling.zones = s.cooling.zones

/-- Up to n events have been raised on the way from s to t; the own frames are the same. -/
structure Reporting (n : Nat) (s t : State) : Prop where
  reports : ∃ l, reports t = Machine.reports s ++ l
  room : t.events.queue.length ≤ s.events.queue.length + n
  lost : s.events.queue.length + n ≤ 16 → s.events.lost = 0 → t.events.lost = 0
  own : SameOwnFrames s t
  enqueued : Enqueued s t

/-- Nothing is accepted, and a validator has been told so (R49, R50). -/
structure Announced (s : State) : Prop where
  closed : s.vend.sales ≠ .selling
  last : (roleEntry .coinValidator s.link).isSome = true → s.coins.lastAccept = some 0

theorem ClaimsTried.refl (s : State) : ClaimsTried s s := ⟨.refl s, rfl, id, rfl, fun _ => rfl, fun _ => rfl, rfl, rfl⟩

theorem ClaimsTried.trans {s t u : State} (h : ClaimsTried s t) (k : ClaimsTried t u) : ClaimsTried s u where
  blocks := h.blocks.trans k.blocks
  vend := k.vend.trans h.vend
  deferring hd := k.deferring (h.deferring hd)
  waitMs := k.waitMs.trans h.waitMs
  compressor hg := (k.compressor (by rw [h.compressor hg, hg])).trans (h.compressor hg)
  heater hg := (k.heater (by rw [h.heater hg, hg])).trans (h.heater hg)
  probes := k.probes.trans h.probes
  zones := k.zones.trans h.zones

theorem not_fits_of_not_waiting {c : Claim} {p : Supply} (h : c.state ≠ .waiting) : ¬ c.fits p = true :=
  fun hk => h (Claim.fits_iff.mp hk).1

theorem tryCompressor_claimsTried (s : State) : ClaimsTried s (tryCompressor s) := by
  have hside := tryCompressor_suppliedOnly s
  unfold tryCompressor at hside ⊢
  split
  · rename_i hfits
    rw [if_pos hfits] at hside
    exact ⟨hside, rfl, fun _ => rfl, rfl, fun h => (by rw [(Claim.fits_iff.mp hfits).1] at h; cases h), fun _ => rfl, rfl, rfl⟩
  · exact .refl s

theorem tryHeater_claimsTried (s : State) : ClaimsTried s (tryHeater s) := by
  have hside := tryHeater_suppliedOnly s
  unfold tryHeater at hside ⊢
  split
  · rename_i hfits
    rw [if_pos hfits] at hside
    exact ⟨hside, rfl, id, rfl, fun _ => rfl, fun h => (by rw [(Claim.fits_iff.mp hfits).1] at h; cases h), rfl, rfl⟩
  · exact .refl s

theorem consider_claimsTried {s : State} (h : s.supply.vend.state ≠ .waiting) : ClaimsTried s (consider s) := by
  rw [consider_of_no_vend h]
  exact (tryCompressor_claimsTried s).trans (tryHeater_claimsTried _)

theorem placeHeater_claimsTried {s : State} (h : s.supply.vend.state ≠ .waiting) : ClaimsTried s (placeHeater s) := by
  unfold placeHeater
  split
  · rename_i habsent
    refine ClaimsTried.trans ?_ (consider_claimsTried h)
    exact ⟨⟨rfl, rfl, rfl, rfl, rfl, rfl, rfl, rfl⟩, rfl, id, rfl, fun _ => rfl,
      fun hg => (by rw [habsent] at hg; cases hg), rfl, rfl⟩
  · exact .refl s

theorem consider_of_none_waiting {s : State} (hv : s.supply.vend.state ≠ .waiting) (hc : s.supply.compressor.state ≠ .waiting)
    (hh : s.supply.heater.state ≠ .waiting) : consider s = s := by
  have hcomp : tryCompressor s = s := if_neg (not_fits_of_not_waiting hc)
  rw [consider_of_no_vend hv, hcomp]
  exact if_neg (not_fits_of_not_waiting hh)

theorem claim_restarted_granted {c : Claim} (h : c.state = .granted) : c.restarted = c :=
  if_neg (by rw [h]; decide)

theorem claim_restarted_not_waiting (c : Claim) : c.restarted.state ≠ .waiting := by
  unfold Claim.restarted
  split
  · decide
  · assumption

/-- The blocks after a warm restart, their claims placed again. -/
def placedAgain (s : State) : State := placeAgain s (restartBlocks s)

theorem restartPlaced_vend (s : State) : (restartPlaced s).supply.vend = Reset.claim := by
  simp only [restartPlaced, State.mapSupply_supply]
  split <;> rfl

theorem placedAgain_tried (s : State) : ClaimsTried (restartPlaced s) (placedAgain s) := by
  have hvend : (restartPlaced s).supply.vend.state ≠ .waiting := by rw [restartPlaced_vend]; decide
  have hfirst : ClaimsTried (restartPlaced s)
      (if s.supply.compressor.state = .waiting then consider (restartPlaced s) else restartPlaced s) := by
    split
    · exact consider_claimsTried hvend
    · exact .refl _
  rw [placedAgain, placeAgain_restartBlocks]
  generalize (if s.supply.compressor.state = .waiting then consider (restartPlaced s) else restartPlaced s) = t at hfirst
  have hvend' : t.supply.vend.state ≠ .waiting := by rwa [hfirst.vend]
  dsimp only
  split
  · exact hfirst.trans (placeHeater_claimsTried hvend')
  · exact hfirst.trans (consider_claimsTried hvend')

theorem restartPlaced_supply {s : State} (h : s.supply.compressor.state ≠ .waiting) :
    (restartPlaced s).supply = s.supply.restarted := by
  simp only [restartPlaced, State.mapSupply_supply, if_neg h]
  rfl

theorem restartPlaced_heater (s : State) : (restartPlaced s).supply.heater = s.supply.heater.restarted := by
  simp only [restartPlaced, State.mapSupply_supply]
  split <;> rfl

theorem restartPlaced_deferring (s : State) : (restartPlaced s).supply.deferring = false := by
  simp only [restartPlaced, State.mapSupply_supply]
  split <;> rfl

theorem placedAgain_of_none_waiting {s : State} (hc : s.supply.compressor.state ≠ .waiting)
    (hh : s.supply.heater.state ≠ .waiting) : placedAgain s = restartPlaced s := by
  rw [placedAgain, placeAgain_restartBlocks]
  simp only [if_neg hc, if_neg hh]
  refine consider_of_none_waiting (by rw [restartPlaced_vend]; decide) ?_ ?_
  · rw [restartPlaced_supply hc]
    exact claim_restarted_not_waiting _
  · rw [restartPlaced_heater]
    exact claim_restarted_not_waiting _

theorem placedAgain_compressor {s : State} (h : s.supply.compressor.state = .granted) :
    (placedAgain s).supply.compressor = s.supply.compressor := by
  have hplaced : (restartPlaced s).supply.compressor = s.supply.compressor := by
    rw [restartPlaced_supply (by rw [h]; decide)]
    exact claim_restarted_granted h
  rw [(placedAgain_tried s).compressor (by rw [hplaced, h]), hplaced]

theorem placedAgain_heater {s : State} (h : s.supply.heater.state = .granted) :
    (placedAgain s).supply.heater = s.supply.heater := by
  have hplaced : (restartPlaced s).supply.heater = s.supply.heater := by
    rw [restartPlaced_heater]
    exact claim_restarted_granted h
  rw [(placedAgain_tried s).heater (by rw [hplaced, h]), hplaced]

/-! ## What is reported -/

theorem Reporting.refl (s : State) : Reporting 0 s s :=
  ⟨⟨[], by simp⟩, le_rfl, fun _ h => h, sameOwnFrames_of_link rfl, .refl s⟩

theorem Reporting.of_same {s t : State} (hlink : t.link = s.link) (hevents : t.events = s.events) : Reporting 0 s t :=
  ⟨⟨[], by simp only [Machine.reports, State.port, hlink, hevents, List.append_nil]⟩, by rw [hevents]; omega,
    fun _ h => by rwa [hevents], sameOwnFrames_of_link hlink, .of_link hlink⟩

theorem Reporting.trans {n m : Nat} {s t u : State} (h : Reporting n s t) (k : Reporting m t u) : Reporting (n + m) s u := by
  obtain ⟨a, ha⟩ := h.reports
  obtain ⟨b, hb⟩ := k.reports
  have hroom := h.room
  exact ⟨⟨a ++ b, by rw [hb, ha, List.append_assoc]⟩, by have := k.room; omega,
    fun hr h0 => k.lost (by omega) (h.lost (by omega) h0), h.own.trans k.own, h.enqueued.trans k.enqueued⟩

theorem Reporting.mono {n m : Nat} {s t : State} (h : Reporting n s t) (hn : n ≤ m) : Reporting m s t :=
  ⟨h.reports, by have := h.room; omega, fun hr => h.lost (by omega), h.own, h.enqueued⟩

theorem drain_lost (own c : Byte) (es : List Event) (q : Port) : (drain own c es 0 q).2.1 = 0 := by
  induction es generalizing q with
  | nil => rfl
  | cons e es ih =>
    unfold drain
    split
    · exact ih _
    · rfl

theorem raise_reporting (c : EventCode) (a : Byte) (v : Word) (s : State) : Reporting 1 s (raise c a v s) := by
  refine ⟨?_, (told_raise c a v s).room, fun hroom h0 => ?_, sameOwnFrames_raise c a v s, raise_enqueued c a v s⟩
  · rw [raise, (pump_same _).2]
    simp only [Machine.reports, State.mapEvents, EventQueue.place, State.port]
    split
    · exact ⟨[], by simp⟩
    · exact ⟨[Event.line { code := c, subject := a, value := v, time := stamp s }], by simp⟩
  · have hplace : (s.events.place { code := c, subject := a, value := v, time := stamp s }).lost = 0 := by
      rw [EventQueue.place, if_neg (by omega)]
      exact h0
    show (drain _ _ _ (s.events.place _).lost _).2.1 = 0
    rw [hplace]
    exact drain_lost _ _ _ _

/-! ## The accept set while the part does not sell (R49, R50) -/

theorem acceptSet_of_closed {s : State} (h : s.vend.sales ≠ .selling) : acceptSet s = 0 := by
  have hnone : accepted s = fun _ => false := by
    funext c
    have hopen : acceptOpen s = false := by simp [acceptOpen, h]
    simp [accepted, hopen]
  rw [acceptSet, hnone]
  rfl

theorem recomputeAccept_of_announced {s : State} (h : Announced s) : recomputeAccept s = s := by
  refine if_neg fun ⟨hsome, hne⟩ => hne ?_
  rw [h.last hsome, acceptSet_of_closed h.closed]

theorem Announced.of_same {s t : State} (h : Announced s) (hv : t.vend = s.vend)
    (hl : roleEntry .coinValidator t.link = roleEntry .coinValidator s.link) (hc : t.coins.lastAccept = s.coins.lastAccept) :
    Announced t := ⟨by rw [hv]; exact h.closed, by rw [hl, hc]; exact h.last⟩

theorem Enqueued.roleEntry {s t : State} (h : Enqueued s t) (r : Role) : Machine.roleEntry r t.link = Machine.roleEntry r s.link := by
  rw [h.link]
  rfl

theorem Announced.raised {s : State} (h : Announced s) (c : EventCode) (a : Byte) (v : Word) : Announced (raise c a v s) :=
  h.of_same (by simp) ((raise_enqueued c a v s).roleEntry _) (by simp)

theorem recomputeAccept_announced {s : State} (h : s.vend.sales ≠ .selling) : Announced (recomputeAccept s) := by
  refine ⟨by simpa using h, fun hsome => ?_⟩
  rw [(recomputeAccept_enqueued s).roleEntry] at hsome
  unfold recomputeAccept
  split
  · simp [issueAccept, acceptSet_of_closed h]
  · rename_i hk
    by_contra hne
    exact hk ⟨hsome, by rwa [acceptSet_of_closed h]⟩

/-! ## The change run that follows (R46) -/

theorem unpaid_of_announced {a : Word} {s : State} (h : Announced s) :
    unpaid a s = raiseCredit (s.mapCredit fun c => { c with payout := c.payout - a, cash := c.cash + a }) := by
  have hmoved : Announced (s.mapCredit fun c => { c with payout := c.payout - a, cash := c.cash + a }) := h.of_same rfl rfl rfl
  unfold unpaid passCash
  split
  · rfl
  · exact recomputeAccept_of_announced (hmoved.raised _ _ _)

/-- START on the way: its reports, and the engine alone of the coins. -/
structure Started (s t : State) : Prop where
  reporting : Reporting 3 s t
  coins : t.coins = { s.coins with engine := t.coins.engine }
  money : t.money = { s.money with credit := t.money.credit }
  credit : t.money.credit = s.money.credit ∨ t.money.credit = { s.money.credit with
    payout := s.money.credit.payout - s.money.credit.payout, cash := s.money.credit.cash + s.money.credit.payout }

/-- A run that pays nothing: Q goes back to C, with three events. -/
theorem endShort_started {s u v w : State}
    (h1 : Reporting 1 (s.mapCredit fun c =>
      { c with payout := c.payout - s.money.credit.payout, cash := c.cash + s.money.credit.payout }) u)
    (h2 : Reporting 1 u v) (h3 : Reporting 1 v w) (hcoins : w.coins = s.coins)
    (hmoney : w.money = { s.money with credit := { s.money.credit with
      payout := s.money.credit.payout - s.money.credit.payout, cash := s.money.credit.cash + s.money.credit.payout } }) :
    Started s (w.mapEngine fun _ => Reset.engine) := by
  have hmoved : Reporting 0 s (s.mapCredit fun c =>
      { c with payout := c.payout - s.money.credit.payout, cash := c.cash + s.money.credit.payout }) := .of_same rfl rfl
  have hidle : Reporting 0 w (w.mapEngine fun _ => Reset.engine) := .of_same rfl rfl
  refine ⟨(((hmoved.trans h1).trans h2).trans h3).trans hidle, ?_, ?_, .inr ?_⟩
  · show { w.coins with engine := Reset.engine } = _
    rw [hcoins]
    rfl
  · show w.money = { s.money with credit := w.money.credit }
    rw [hmoney]
  · show w.money.credit = _
    rw [hmoney]

theorem start_started {s : State} (h : Announced s) : Started s (start s) := by
  have hsame : Started s s := ⟨(Reporting.refl s).mono (by omega), rfl, rfl, .inl rfl⟩
  have hengine (f : Engine → Engine) : Started s (s.mapEngine f) := by
    have hreporting : Reporting 0 s (s.mapEngine f) := .of_same rfl rfl
    exact ⟨hreporting.mono (by omega), rfl, rfl, .inl rfl⟩
  unfold start
  split
  · split
    · exact hsame
    · cases hp : (payoutPlan [] s.money.credit.payout.toNat s).1 with
      | nil =>
        rw [planRun_of_empty hp, endShort, unpaid_of_announced h, raiseCredit, engineIdle]
        exact endShort_started (raise_reporting _ _ _ _) (raise_reporting _ _ _ _) (raise_reporting _ _ _ _)
          (by simp) (by simp)
      | cons e rest =>
        rw [planRun_of_plan hp]
        exact hengine _
  · split
    · exact hengine _
    · exact hsame

end Sys2Proof.Machine
end

section
/-! PROOFS. The warm restart (section 10.2): the fault conditions it ends, the accept set it issues anew, and the
statement. -/

namespace Sys2Proof.Machine

/-! ## The PORT-QUIET conditions (R159, R171) -/

/-- What an end of conditions leaves of the list: a record loses at most its present condition. -/
structure ConditionsEnded (ended : Fin 24 → Bool) (f g : FaultList) : Prop where
  classes : g.classes = f.classes
  overflow : g.overflow = f.overflow
  places : ∀ j : Fin 24, g.places[j] = (f.places[j]).map fun r => { r with present := r.present && !ended j }

theorem findPlace_spec {k : FaultKind} {n : Nat} {f : FaultList} {j : Fin 24} (h : findPlace k n f = some j) :
    HoldsFault f k n j := by
  have hj := List.find?_some h
  exact (holdsFault_iff f k n j).mp hj

theorem ConditionsEnded.findPlace {ended : Fin 24 → Bool} {f g : FaultList} (h : ConditionsEnded ended f g) (k : FaultKind)
    (n : Nat) : findPlace k n g = Machine.findPlace k n f := by
  unfold Machine.findPlace
  congr 1
  funext j
  rw [h.places]
  cases f.places[j] <;> rfl

theorem endPresent_ended (k : FaultKind) (n : Nat) (f : FaultList) :
    ConditionsEnded (fun j => decide (findPlace k n f = some j)) f (endPresent k n f) := by
  unfold endPresent
  cases hp : findPlace k n f with
  | none =>
    refine ⟨rfl, rfl, fun j => ?_⟩
    cases f.places[j] <;> simp
  | some p =>
    refine ⟨rfl, rfl, fun j => ?_⟩
    simp only [Fin.getElem_fin, Vector.getElem_set]
    by_cases hj : p = j
    · subst hj
      simp
    · cases f.places[j.val] <;> simp [hj, Fin.val_ne_of_ne hj]

theorem conditionsEnded_trans {a b : Fin 24 → Bool} {f g h : FaultList} (hfg : ConditionsEnded a f g)
    (hgh : ConditionsEnded b g h) : ConditionsEnded (fun j => a j || b j) f h := by
  refine ⟨hgh.classes.trans hfg.classes, hgh.overflow.trans hfg.overflow, fun j => ?_⟩
  rw [hgh.places, hfg.places, Option.map_map]
  cases f.places[j] <;> simp [Bool.and_assoc]

/-- The ports of a list that are QUIET end their conditions, each at its place. -/
theorem foldl_endQuiet (s : State) (l : List PortId) (f : FaultList) :
    ConditionsEnded (fun j => l.any fun p => decide ((s.port p).state = .quiet) && decide (findPlace .portQuiet p f = some j)) f
      (l.foldl (fun f (p : PortId) => if (s.port p).state = .quiet then endPresent .portQuiet p f else f) f) := by
  induction l generalizing f with
  | nil =>
    refine ⟨rfl, rfl, fun j => ?_⟩
    show f.places[j] = _
    cases f.places[j] <;> simp
  | cons p l ih =>
    have hstep : ConditionsEnded
        (fun j => decide ((s.port p).state = .quiet) && decide (findPlace .portQuiet p f = some j)) f
        (if (s.port p).state = .quiet then endPresent .portQuiet p f else f) := by
      split
      · rename_i hq
        simpa [hq] using endPresent_ended .portQuiet p f
      · rename_i hq
        refine ⟨rfl, rfl, fun j => ?_⟩
        cases f.places[j] <;> simp [hq]
    have hrest := conditionsEnded_trans hstep (ih _)
    simpa only [List.any_cons, List.foldl_cons, hstep.findPlace] using hrest

/-- What the restart leaves of a record (R159). -/
theorem endQuietConditions_places (s : State) (i : Fin 24) :
    (s.faults.places[i] = none → (endQuietConditions s s.faults).places[i] = none) ∧
    ∀ r, s.faults.places[i] = some r → ∃ x, (endQuietConditions s s.faults).places[i] = some { r with present := x } ∧
      (r.kind ≠ .portQuiet → x = r.present) ∧
      ∀ p : PortId, r.kind = .portQuiet → r.subject = p.val →
        ((s.port p).state ≠ .quiet → x = r.present) ∧
        ((s.port p).state = .quiet →
          (∀ j < i, ∀ o, s.faults.places[j] = some o → o.kind = .portQuiet → o.subject ≠ p.val) → x = false) := by
  have hended := foldl_endQuiet s (List.finRange 4) s.faults
  refine ⟨fun hnone => ?_, fun r hr => ?_⟩
  · rw [endQuietConditions, hended.places, hnone]
    rfl
  · have hplace : (endQuietConditions s s.faults).places[i] = _ := hended.places i
    rw [hr, Option.map_some] at hplace
    generalize hb : ((List.finRange 4).any fun p => decide ((s.port p).state = .quiet) &&
      decide (findPlace .portQuiet p s.faults = some i)) = b at hplace
    have hport : b = true → ∃ p : PortId, (s.port p).state = .quiet ∧ r.kind = .portQuiet ∧ r.subject = p.val := by
      rintro rfl
      obtain ⟨p, -, hp⟩ := List.any_eq_true.mp hb
      obtain ⟨hq, hf⟩ := Bool.and_eq_true_iff.mp hp
      obtain ⟨x, hx, hk, hn⟩ := findPlace_spec (of_decide_eq_true hf)
      obtain rfl : r = x := Option.some.inj (hr.symm.trans hx)
      exact ⟨p, of_decide_eq_true hq, hk, hn⟩
    have hkept (h : ¬ b = true) : (r.present && !b) = r.present := by simp [h]
    refine ⟨_, hplace, fun hk => hkept fun hbt => ?_, fun p hk hn => ⟨fun hq => hkept fun hbt => ?_, fun hq hfirst => ?_⟩⟩
    · obtain ⟨_, _, hkind, _⟩ := hport hbt
      exact hk hkind
    · obtain ⟨o, ho, _, hsub⟩ := hport hbt
      obtain rfl : o = p := Fin.ext (hsub.symm.trans hn)
      exact hq ho
    · have hfind : findPlace .portQuiet p s.faults = some i :=
        findPlace_of_first ⟨r, hr, hk, hn⟩ fun j hj ⟨o, ho, hok, hos⟩ => hfirst j hj o ho hok hos
      have hbt : b = true := by
        rw [← hb]
        exact List.any_eq_true.mpr ⟨p, List.mem_finRange p, by simp [hq, hfind]⟩
      simp [hbt]

/-! ## The accept set issued anew (R50) -/

theorem reports_recomputeAccept (s : State) : reports (recomputeAccept s) = reports s := by
  unfold recomputeAccept
  split
  · unfold issueAccept
    rcases sendOwn_cases .coinValidator typeAcceptSet (bytes16 (acceptSet s))
      (s.mapCoins fun c => { c with lastAccept := some (acceptSet s) }) with ⟨_, h⟩ | ⟨n, _, h⟩
    · rw [h]
      rfl
    · rw [h]
      simp only [reports, port_mapPort]
      split
      · rw [events_issue]
        rfl
      · rfl
  · rfl

/-- A port that has taken events alone holds no more frames than there are reports. -/
theorem Becomes.tx_length {u t : State} {es : List (EventCode × Byte × Word)} (h : Becomes u es t)
    (hu : ∀ p, (u.port p).tx = []) (room : u.events.queue.length + es.length ≤ 16) (p : PortId) :
    (t.port p).tx.length ≤ u.events.queue.length + es.length := by
  obtain ⟨⟨sent, hsent, ht⟩, hr⟩ := h
  have hu0 : (u.link.ports[(0 : PortId)]).tx = [] := hu 0
  have hport : (t.port p).tx = if p = 0 then sent else [] := by
    rw [ht]
    by_cases hp : p = 0
    · subst hp
      simpa [State.port] using hu0
    · have hne : (0 : Nat) ≠ p.val := fun h => hp (Fin.ext h.symm)
      simpa [State.port, hp, Vector.getElem_set_ne, hne] using hu p
  rw [hport]
  split
  · rename_i hp
    subst hp
    have hlength := congrArg List.length (hr room)
    have hbefore : reports u = u.events.queue.map Event.line := by simp [reports, hu 0]
    rw [if_pos rfl] at hport
    rw [hbefore, reports, hport, filter_events sent hsent] at hlength
    simp only [List.length_append, List.length_map] at hlength
    omega
  · exact Nat.zero_le _

theorem takes_of_short {p : PortId} {q : Port} (hs : q.state ≠ .quiet) (hw : q.waiting = []) (ht : q.tx.length ≤ 2) :
    Takes p q :=
  ⟨hs, hw, by omega, fun _ => lt_of_le_of_lt (List.length_filter_le _ _) (by omega)⟩

/-- The first accept set after a restart finds a place in its queue. -/
theorem recomputeAccept_issued {u : State} (hlast : u.coins.lastAccept = none) (hclosed : u.vend.sales ≠ .selling)
    (ht : ∀ p, Takes p (u.port p)) :
    (∀ p, ((recomputeAccept u).port p).waiting = []) ∧
    (roleEntry .coinValidator u.link = none → (recomputeAccept u).coins.lastAccept = none) ∧
    ∀ n, roleEntry .coinValidator u.link = some n → ∃ f ∈ ((recomputeAccept u).port n.port).tx, f.kind = .own ∧
      f.frame = { dest := n.node, src := u.link.ownNode, type := 0x58, payload := bytes16 0 } := by
  cases hn : roleEntry .coinValidator u.link with
  | none =>
    have hsame : recomputeAccept u = u := if_neg fun h => by simp [hn] at h
    rw [hsame]
    exact ⟨fun p => (ht p).waiting, fun _ => hlast, fun n h => by cases h⟩
  | some n =>
    have hissue : recomputeAccept u = issueAccept u := if_pos ⟨by rw [hn]; rfl, by rw [hlast]; simp⟩
    have hport (p : PortId) : (recomputeAccept u).port p = if n.port = p then
        (u.port p).enqueue { dest := n.node, src := u.link.ownNode, type := 0x58, payload := bytes16 0 } .own
      else u.port p := by
      have hsend : issueAccept u = (u.mapCoins fun c => { c with lastAccept := some 0 }).mapPort n.port fun q =>
          q.issue n.port { dest := n.node, src := u.link.ownNode, type := 0x58, payload := bytes16 0 } := by
        unfold issueAccept sendOwn
        rw [acceptSet_of_closed hclosed]
        simp only [State.mapCoins_link, hn]
        rfl
      rw [hissue, hsend, port_mapPort]
      split
      · rename_i hp
        subst hp
        exact issue_of_takes (ht n.port)
      · rfl
    refine ⟨fun p => ?_, fun h => (by cases h), fun m hm => ?_⟩
    · rw [hport]
      split
      · exact (ht p).waiting
      · exact (ht p).waiting
    · cases hm
      rw [hport, if_pos rfl]
      exact ⟨_, List.mem_append_right _ (List.mem_singleton.mpr rfl), rfl, rfl⟩

/-! ## From the blocks to the change run -/

/-- The assurance has been judged: at most one event, and of the coins the assurance alone. -/
structure AssuranceJudged (s u : State) : Prop where
  reporting : Reporting 1 s u
  short : ∀ p, (u.port p).tx.length ≤ 2
  coins : ∃ b, u.coins = { s.coins with assured := b }
  money : u.money = s.money
  vend : u.vend = s.vend
  drive : u.drive = s.drive
  supply : u.supply = s.supply
  cooling : u.cooling = s.cooling
  cabinet : u.cabinet = s.cabinet
  faults : u.faults = s.faults

/-- Where nothing is accepted, the accept set that follows the judgement of the assurance is issued once. -/
theorem assurance_judged {s : State} (htx : ∀ p, (s.port p).tx = []) (hev : s.events.queue.length = 1)
    (hclosed : s.vend.sales ≠ .selling) :
    ∃ u, AssuranceJudged s u ∧ recomputeAccept (evaluateAssurance s) = recomputeAccept u := by
  by_cases h : (shortfall s).isNone = s.coins.assured
  · rw [evaluateAssurance_of_same h]
    exact ⟨s, ⟨(Reporting.refl s).mono (by omega), fun p => by simp [htx], ⟨_, rfl⟩, rfl, rfl, rfl, rfl, rfl, rfl, rfl⟩, rfl⟩
  · rw [evaluateAssurance_of_change h]
    generalize hv : s.mapCoins (fun c => { c with assured := (shortfall s).isNone }) = v
    have hclosed' : (raise .assurance (if (shortfall s).isNone then 1 else 0) (amount ((shortfall s).getD 0)) v).vend.sales ≠
        .selling := by
      subst hv
      simpa using hclosed
    rw [recomputeAccept_of_announced (recomputeAccept_announced hclosed')]
    have hassured : Reporting 0 s v := by
      subst hv
      exact .of_same rfl rfl
    have htx' (p : PortId) : (v.port p).tx = [] := by
      subst hv
      exact htx p
    have hev' : v.events.queue.length = 1 := by
      subst hv
      exact hev
    refine ⟨_, ⟨hassured.trans (raise_reporting _ _ _ _), fun p => ?_, ⟨(shortfall s).isNone, ?_⟩, ?_, ?_, ?_, ?_, ?_, ?_, ?_⟩, rfl⟩
    · have hlength := (becomes_raised v .assurance (if (shortfall s).isNone then 1 else 0)
        (amount ((shortfall s).getD 0))).tx_length htx' (by simp [hev']) p
      rw [hev'] at hlength
      exact hlength
    all_goals
      subst hv
      simp

theorem restartBlocks_placed (s : State) : SuppliedOnly (restartBlocks s) (placedAgain s) :=
  (@SuppliedOnly.trans _ (restartPlaced s)) ⟨rfl, rfl, rfl, rfl, rfl, rfl, rfl, rfl⟩ (placedAgain_tried s).blocks

theorem placedAgain_port (s : State) (p : PortId) : (placedAgain s).port p = (s.port p).restarted := by
  rw [State.port, (placedAgain_tried s).blocks.link]
  exact restartPlaced_port s p

/-- What the warm restart leaves behind: the judged assurance, the accept set, and the change run. -/
structure WarmRestarted (s t : State) : Prop where
  money : t.money = { s.money.restarted (cardDriving s.vend) with credit := t.money.credit }
  credit : t.money.credit = s.money.credit.restarted (cardDriving s.vend) ∨
    t.money.credit = { s.money.credit.restarted (cardDriving s.vend) with
      payout := s.money.credit.payout - s.money.credit.payout, cash := s.money.credit.cash + s.money.credit.payout }
  coins : ∃ b l, t.coins = { coinsRestarted s with engine := t.coins.engine, assured := b, lastAccept := l }
  idle : s.money.credit.payout = 0 → t.coins.engine.phase = .idle
  vend : t.vend = s.vend.restarted
  drive : t.drive = s.drive.idle
  supply : t.supply = (placedAgain s).supply
  cooling : t.cooling = (placedAgain s).cooling
  cabinet : t.cabinet = s.cabinet
  faults : t.faults = endQuietConditions s s.faults
  enqueued : Enqueued (placedAgain s) t
  reports : ∃ l, reports t = Event.line { code := .restart, subject := 0, value := 0, time := stamp s } :: l
  lost : t.events.lost = 0
  waiting : ∀ p, (t.port p).waiting = []
  untold : roleEntry .coinValidator s.link = none → t.coins.lastAccept = none
  told : ∀ n, roleEntry .coinValidator s.link = some n → t.coins.lastAccept = some 0 ∧
    ∃ f ∈ (t.port n.port).tx, f.kind = .own ∧
      f.frame = { dest := n.node, src := s.link.ownNode, type := 0x58, payload := bytes16 0 }

theorem recomputeAccept_coins_last (s : State) :
    (recomputeAccept s).coins = { s.coins with lastAccept := (recomputeAccept s).coins.lastAccept } := by
  have h := congrArg (fun c : Coins => { c with lastAccept := (recomputeAccept s).coins.lastAccept })
    (recomputeAccept_coins none s)
  exact h

theorem start_of_zero {s : State} (hi : s.coins.engine.phase = .idle) (hp : s.money.credit.payout = 0) : start s = s := by
  rw [start, if_pos hi, if_pos hp]

theorem warmRestart_restarted (s : State) : WarmRestarted s (warmRestart s) := by
  have hblocks := restartBlocks_placed s
  have hport := placedAgain_port s
  have hclosed : (placedAgain s).vend.sales ≠ .selling := by
    rw [hblocks.vend]
    exact fun h => by cases h
  have hevents : (placedAgain s).events =
      { queue := [{ code := .restart, subject := 0, value := 0, time := stamp s }], lost := 0 } := hblocks.events
  obtain ⟨u, hu, hrecompute⟩ := (@assurance_judged (placedAgain s)) (fun p => by rw [hport]; rfl) (by rw [hevents]; rfl) hclosed
  obtain ⟨b, hcoins⟩ := hu.coins
  have hrestart : warmRestart s = start (recomputeAccept u) := by
    rw [← hrecompute]
    rfl
  have hclosed' : u.vend.sales ≠ .selling := by rwa [hu.vend]
  have htakes (p : PortId) : Takes p (u.port p) := by
    refine takes_of_short ?_ ?_ (hu.short p)
    · rw [(hu.reporting.enqueued.ports p).state, hport]
      exact fun h => by cases h
    · rw [hu.reporting.own.waiting, hport]
      rfl
  have hlast : u.coins.lastAccept = none := by rw [hcoins, hblocks.coins]; rfl
  obtain ⟨hwaiting, huntold, htold⟩ := recomputeAccept_issued hlast hclosed' htakes
  have hannounced := recomputeAccept_announced hclosed'
  have hstarted := start_started hannounced
  have hrole : roleEntry .coinValidator u.link = roleEntry .coinValidator s.link := by
    rw [hu.reporting.enqueued.roleEntry, (placedAgain_tried s).blocks.link]
    rfl
  have hown : u.link.ownNode = s.link.ownNode := by
    rw [hu.reporting.enqueued.link, (placedAgain_tried s).blocks.link]
    rfl
  have hevents' : (recomputeAccept u).events = u.events := (recomputeAccept_frame u).2.2.2.2.2.2.2.1
  have hroom := hu.reporting.room
  rw [hevents, List.length_singleton] at hroom
  have hmoney : (recomputeAccept u).money = s.money.restarted (cardDriving s.vend) := by
    rw [(recomputeAccept_frame u).1, hu.money, hblocks.money]
    rfl
  obtain ⟨hcash, hpayout, -⟩ := creditRestarted_spec (cardDriving s.vend) s.money.credit
  have hlast' : (start (recomputeAccept u)).coins.lastAccept = (recomputeAccept u).coins.lastAccept := by
    rw [hstarted.coins]
  obtain ⟨l1, h1⟩ := hu.reporting.reports
  obtain ⟨l2, h2⟩ := hstarted.reporting.reports
  rw [hrestart]
  exact {
    money := by rw [hstarted.money, hmoney]
    credit := by
      have hcredit := hstarted.credit
      rw [hmoney] at hcredit
      simpa only [Money.restarted, hcash, hpayout] using hcredit
    coins := ⟨b, (recomputeAccept u).coins.lastAccept, by
      rw [hstarted.coins, recomputeAccept_coins_last, hcoins, hblocks.coins]
      rfl⟩
    idle := fun h0 => by
      have hengine : (recomputeAccept u).coins.engine.phase = .idle := by
        rw [recomputeAccept_engine, hcoins, hblocks.coins]
        rfl
      rw [start_of_zero hengine (by rw [hmoney]; exact hpayout.trans h0)]
      exact hengine
    vend := by
      rw [(start_frame _).1, (recomputeAccept_frame u).2.1, hu.vend, hblocks.vend]
      rfl
    drive := by
      simp [hu.drive, hblocks.drive]
      rfl
    supply := by simp [hu.supply]
    cooling := by simp [hu.cooling]
    cabinet := by
      simp [hu.cabinet, hblocks.cabinet]
      rfl
    faults := by
      simp [hu.faults, hblocks.faults]
      rfl
    enqueued := (hu.reporting.enqueued.trans (recomputeAccept_enqueued u)).trans hstarted.reporting.enqueued
    reports := by
      refine ⟨l1 ++ l2, ?_⟩
      have hfirst : Machine.reports (placedAgain s) =
          [Event.line { code := .restart, subject := 0, value := 0, time := stamp s }] := by
        rw [Machine.reports, hport, hevents]
        rfl
      rw [h2, reports_recomputeAccept, h1, hfirst]
      rfl
    lost := by
      refine hstarted.reporting.lost (by rw [hevents']; omega) ?_
      rw [hevents']
      exact hu.reporting.lost (by rw [hevents]; simp) (by rw [hevents])
    waiting := fun p => by rw [hstarted.reporting.own.waiting, hwaiting]
    untold := fun hnone => by rw [hlast', huntold (hrole.trans hnone)]
    told := fun n hn => by
      obtain ⟨f, hf, hkind, hframe⟩ := htold n (hrole.trans hn)
      obtain ⟨l, hl, -⟩ := (hstarted.reporting.enqueued.ports n.port).tx
      refine ⟨?_, f, by rw [hl]; exact List.mem_append_left _ hf, hkind, by rw [hframe, hown]⟩
      rw [hlast', hannounced.last]
      rw [(recomputeAccept_enqueued u).roleEntry, hrole, hn]
      rfl }

/-! ## What the blocks keep, in the statement's terms -/

theorem creditRestarted_kept (b : Bool) (c : Credit) : (c.restarted b).limit = c.limit ∧ (c.restarted b).vendMode = c.vendMode := by
  unfold Credit.restarted
  dsimp only
  split <;> exact ⟨rfl, rfl⟩

theorem creditRestarted_session (b : Bool) (c : Credit) :
    (c.session = .opened → b = true → (c.restarted b).session = .opened ∧ (c.restarted b).funds = c.funds) ∧
    (c.session ≠ .opened ∨ b = false → (c.restarted b).session = .none ∧ (c.restarted b).funds = none) := by
  refine ⟨fun ho hb => ?_, fun hn => ?_⟩
  · simp [Credit.restarted, ho, hb]
  · have hk : ¬ (b = true ∧ c.session = .opened) := fun ⟨hb, ho⟩ => hn.elim (fun h => h ho) fun h => by rw [h] at hb; cases hb
    simp [Credit.restarted, hk]

/-- But for the cash and the payout, whose sum stays, a change run leaves the restarted credit record. -/
theorem WarmRestarted.credit_kept {s t : State} (h : WarmRestarted s t) :
    t.money.credit = { s.money.credit.restarted (cardDriving s.vend) with
      cash := t.money.credit.cash, payout := t.money.credit.payout } ∧
    t.money.credit.cash + t.money.credit.payout = s.money.credit.cash + s.money.credit.payout := by
  obtain ⟨hcash, hpayout, -⟩ := creditRestarted_spec (cardDriving s.vend) s.money.credit
  rcases h.credit with hc | hc
  · rw [hc]
    exact ⟨rfl, by rw [hcash, hpayout]⟩
  · rw [hc]
    exact ⟨rfl, by simp⟩

theorem escrowRestarted_state (b : Bool) (m : Money) :
    (m.restarted b).escrow.state = if m.escrow.state = .decidedReturn then .none else m.escrow.state := by
  unfold Money.restarted
  cases h : m.escrow.state <;> simp [h, Reset.money]

/-- The last outcome is that of the drive the restart ends, when there was one (R73). -/
theorem vendRestarted_last (v : Vend) :
    (∀ e, v.queue.find? (·.driving) = some e → v.restarted.lastOutcome =
      some { tag := e.tag, selection := e.selection, funds := e.funds, outcome := .aborted, cause := none }) ∧
    ((∀ e ∈ v.queue, e.driving = false) → v.restarted.lastOutcome = v.lastOutcome) := by
  refine ⟨fun e he => ?_, fun hnone => ?_⟩
  · rw [Vend.restarted, he]
    rfl
  · have hfind : v.queue.find? (·.driving) = none :=
      List.find?_eq_none.mpr fun e he => by rw [hnone e he]; decide
    rw [Vend.restarted, hfind]
    rfl

/-- A port after the restart: it begins anew, and has taken events and the accept set alone (R159). -/
theorem WarmRestarted.port {s t : State} (h : WarmRestarted s t) (p : PortId) :
    t.port p = { (s.port p).restarted with tx := (t.port p).tx } ∧ ∀ f ∈ (t.port p).tx, Enqueueable p f := by
  have hp := h.enqueued.ports p
  obtain ⟨frames, htx, hframes⟩ := hp.tx
  have hrest := hp.rest
  rw [placedAgain_port] at htx hrest
  refine ⟨?_, fun f hf => hframes f ?_⟩
  · rw [h.waiting p] at hrest
    exact hrest
  · rw [htx] at hf
    exact hf

theorem exec_restart_of_pending {s : State} {src : Byte} (hs : s.resetLow = false) (hp : replyPlace s = true)
    (h : s.link.restartPending = true) : exec (.restart src) s = .next (answered src 0x4E .done [] s) :=
  request_done hs hp rfl (show restartAsked s = done [] s from if_pos h) (by simp)

theorem exec_restart_of_none {s : State} {src : Byte} (hs : s.resetLow = false) (hp : replyPlace s = true)
    (h : s.link.restartPending = false) : exec (.restart src) s = .next (pump (activity .serviceRequest
      (reply src 0x4E .done [] .restartReply (s.mapLink fun l => { l with restartPending := true })))) := by
  have hasked : serve 0x4E [] s =
      { state := s.mapLink fun l => { l with restartPending := true }, status := .done, data := [], kind := .restartReply } :=
    if_neg (by rw [h]; decide)
  show act s (pump (fromController src 0x4E [] s)) = _
  rw [act_of_high hs, fromController_of_taken ((replyPlace_iff s).mp hp).1 ((replyPlace_iff s).mp hp).2, takeRequest,
    if_pos (by rfl), takeService, hasked]
  rfl

/-- Settles O59. -/
theorem warmRestartActs : Obligations.WarmRestartActs := by
  refine ⟨fun s src hs hp => ⟨exec_restart_of_pending hs hp, exec_restart_of_none hs hp⟩, fun s hs => ⟨fun h => ?_, fun h => ?_⟩⟩
  · obtain ⟨t, ht, hact⟩ := act_silent hs s
    refine ⟨t, ht, ?_⟩
    rw [← hact]
    show act s (if s.link.restartPending then warmRestart s else pump s) = _
    rw [h]
    rfl
  · have hexec : exec .warmRestart s = .next (warmRestart s) := by
      show act s (if s.link.restartPending then warmRestart s else pump s) = _
      rw [h, act_of_high hs]
      rfl
    have ht := warmRestart_restarted s
    generalize warmRestart s = t at hexec ht
    obtain ⟨hcredit, hsum⟩ := ht.credit_kept
    obtain ⟨-, -, hcommitted, hcard, -⟩ := creditRestarted_spec (cardDriving s.vend) s.money.credit
    obtain ⟨hlimit, hmode⟩ := creditRestarted_kept (cardDriving s.vend) s.money.credit
    obtain ⟨hopened, hended⟩ := creditRestarted_session (cardDriving s.vend) s.money.credit
    have hmoney := ht.money
    obtain ⟨b, l, hcoins⟩ := ht.coins
    obtain ⟨hlastOutcome, hkeptOutcome⟩ := vendRestarted_last s.vend
    have htried := placedAgain_tried s
    have hclosed : t.vend.sales ≠ .selling := by rw [ht.vend]; exact fun hk => by cases hk
    have hlink := ht.enqueued.link
    rw [htried.blocks.link] at hlink
    refine ⟨t, hexec, ht.reports, by rw [hmoney]; rfl, by rw [hmoney]; rfl, by rw [hmoney]; rfl, by rw [hmoney]; rfl, ?_,
      by rw [hmoney]; rfl, by rw [hcredit, hcommitted], by rw [hcredit, hcard], hsum, by rw [hcredit, hlimit],
      by rw [hcredit, hmode], fun ho hd => by rw [hcredit]; exact hopened ho hd, fun hn => by rw [hcredit]; exact hended hn,
      by rw [hcoins]; rfl, by rw [hcoins]; rfl, fun i => ?_, by rw [hcoins]; rfl, by rw [hcoins]; rfl, ht.idle,
      by rw [ht.vend]; rfl, by rw [ht.vend]; rfl, by rw [ht.vend]; rfl, by rw [ht.vend]; rfl, by rw [ht.vend]; rfl,
      by rw [ht.vend]; exact hlastOutcome, by rw [ht.vend]; exact hkeptOutcome, by rw [ht.drive]; rfl, by rw [ht.drive]; rfl,
      by rw [ht.drive]; rfl, by rw [ht.drive]; rfl,
      by rw [ht.drive]; rfl, by rw [ht.drive]; rfl, ?_, ?_, fun hc => ?_, fun hc => by rw [ht.supply, placedAgain_compressor hc],
      fun hh => by rw [ht.supply, placedAgain_heater hh], ?_, ?_, fun hc hh => ?_,
      ht.cabinet, fun p => ?_, ht.lost, ht.untold, fun n hn => ?_, by rw [hlink]; rfl, by rw [hlink]; rfl, by rw [hlink]; rfl,
      by rw [hlink]; rfl, by rw [hlink]; rfl, ?_, ?_, fun i => ?_⟩
    · rw [hmoney]
      exact escrowRestarted_state (cardDriving s.vend) s.money
    · rw [hcoins]
      simp [coinsRestarted]
    · rw [ht.supply, htried.vend, restartPlaced_vend]
      rfl
    · rw [ht.supply]
      exact htried.deferring (restartPlaced_deferring s)
    · rw [ht.supply, htried.waitMs, restartPlaced_supply hc]
      rfl
    · rw [ht.cooling, htried.probes]
      rfl
    · rw [ht.cooling, htried.zones]
      rfl
    · rw [ht.cooling, placedAgain_of_none_waiting hc hh]
      rfl
    · obtain ⟨hport, hframes⟩ := ht.port p
      exact ⟨by rw [hport]; rfl, by rw [hport]; rfl, by rw [hport]; rfl, by rw [hport]; rfl, by rw [hport]; rfl,
        by rw [hport]; rfl, by rw [hport]; rfl, ht.waiting p, hframes⟩
    · obtain ⟨hlast, f, hf, hkind, hframe⟩ := ht.told n hn
      rw [acceptSet_of_closed hclosed]
      exact ⟨hlast, f, hf, hkind, hframe⟩
    · rw [ht.faults]
      exact (foldl_endQuiet s _ s.faults).classes
    · rw [ht.faults]
      exact (foldl_endQuiet s _ s.faults).overflow
    · rw [ht.faults]
      exact endQuietConditions_places s i

end Sys2Proof.Machine
end
